-- ==== Sys2Proof/Word.lean ====
section
/-!
DEFINITION. The words of the UJC2440 and the table type: bytes and codes of the link and the converters, conversion
counts, and `Tab`, a table with a fixed number of records.
-/

namespace Sys2Proof

/-- One byte on the control link (R174). -/
abbrev Byte := BitVec 8

/-- A signed 16-bit code: raw and trimmed values, filter coefficients and stage states (00_scope 1.4.3). -/
abbrev Code := BitVec 16

/-- A conversion count, the time stamp of all records: 32 bits, wrapping (R1). -/
abbrev Stamp := BitVec 32

/-- A table with exactly `n` records, numbered 0 to n − 1. -/
structure Tab (α : Type) (n : Nat) where
  /-- the records, record 0 first -/
  list : List α
  /-- there are exactly `n` of them -/
  size : list.length = n
  deriving DecidableEq, Repr

/-- The record with a number. -/
def Tab.get {α : Type} {n : Nat} (t : Tab α n) (i : Fin n) : α :=
  t.list[i.1]'(by rw [t.size]; exact i.2)

/-- The table with one record replaced. -/
def Tab.set {α : Type} {n : Nat} (t : Tab α n) (i : Fin n) (v : α) : Tab α n :=
  ⟨t.list.set i.1 v, by rw [List.length_set]; exact t.size⟩

/-- The table with one record changed by a function. -/
def Tab.modify {α : Type} {n : Nat} (t : Tab α n) (i : Fin n) (f : α → α) : Tab α n :=
  t.set i (f (t.get i))

/-- Every record changed by a function. -/
def Tab.map {α β : Type} {n : Nat} (t : Tab α n) (f : α → β) : Tab β n :=
  ⟨t.list.map f, by rw [List.length_map]; exact t.size⟩

/-- The same record everywhere. -/
def Tab.fill {α : Type} (n : Nat) (v : α) : Tab α n :=
  ⟨List.replicate n v, List.length_replicate⟩

/-- The table whose record `i` is `f i`. -/
def Tab.ofFn {α : Type} {n : Nat} (f : Fin n → α) : Tab α n :=
  ⟨List.ofFn f, List.length_ofFn⟩

end Sys2Proof
end

