-- ==== Sys2Proof/Syntax.lean ====
section
/-!
DEFINITION. The commands of the UJC2440: one constructor of `Instr` for each row of spec/opcode_table.json, with the
operands the spec gives the row. Request rows carry the tag and the payload items of their request frame (R187, R188),
in the widths of the link; a value out of range can be written here and is refused by the part as the owner's rule says.
-/

namespace Sys2Proof

/-- The eight raw codes of one conversion set, in channel order (chapter 1, 1.1). -/
structure RawSet where
  /-- line-to-line voltage A to B, channel 0 -/
  vab : Code
  /-- line-to-line voltage B to C, channel 1 -/
  vbc : Code
  /-- line-to-line voltage C to A, channel 2 -/
  vca : Code
  /-- DC current of bridge 0, channel 3 -/
  idc0 : Code
  /-- DC current of bridge 1, channel 4 -/
  idc1 : Code
  /-- DC current of bridge 2, channel 5 -/
  idc2 : Code
  /-- DC current of bridge 3, channel 6 -/
  idc3 : Code
  /-- DC bus voltage, channel 7 -/
  vdc : Code
  deriving DecidableEq, Repr

/-- A response entry index: an entry of the table, the built-in default response, or no copy (R132, R188). -/
inductive EntryIx where
  /-- entry 0..31 -/
  | entry (i : Fin 32)
  /-- the built-in default response, DEFAULT -/
  | dflt
  /-- NONE -/
  | none
  deriving DecidableEq, Repr

/-- The eight halt causes with their detail (chapter 8, 8.5). -/
inductive HaltCause where
  /-- OVERCURRENT, detail the bridge -/
  | overcurrent (bridge : Fin 4)
  /-- OVERVOLTAGE -/
  | overvoltage
  /-- TRIP_INPUT -/
  | tripInput
  /-- MISFIRE, detail the slot -/
  | misfire (slot : Fin 24)
  /-- RESPONSE, detail the entry index of the copy -/
  | response (ix : EntryIx)
  /-- EXPIRY, detail the entry index of the copy -/
  | expiry (ix : EntryIx)
  /-- EPISODE_LONG -/
  | episodeLong
  /-- REPEAT -/
  | repeated
  deriving DecidableEq, Repr

/-- A record of WRITE_TRIM (R187): channel 1, offset 2, gain 2, invert 1. -/
structure TrimRec where
  channel : Byte
  offset : Code
  gain : BitVec 16
  invert : Byte
  deriving DecidableEq, Repr

/-- A record of WRITE_FILTER (R187): stage 1, b0, b1, b2, a1, a2 2 each. -/
structure FilterRec where
  stage : Byte
  b0 : Code
  b1 : Code
  b2 : Code
  a1 : Code
  a2 : Code
  deriving DecidableEq, Repr

/-- A record of WRITE_SLOTS (R187): channel 1, a_min 3, ref_limit 3. -/
structure SlotRec where
  channel : Byte
  aMin : BitVec 24
  refLimit : BitVec 24
  deriving DecidableEq, Repr

/-- A response entry record as written on the link (R188), 13 bytes: the codes as they stand in the bytes, whether or
not they name a value of their field. -/
structure ResponseRec where
  kind : BitVec 3
  fallback : Bool
  valid : Bool
  bandLo : BitVec 3
  bandHi : BitVec 3
  action : BitVec 2
  onExpiry : Bool
  mode : BitVec 2
  iLimit : BitVec 16
  alphaFloor : BitVec 16
  holdMs : BitVec 16
  restartAlpha : BitVec 16
  rampMs : BitVec 16
  deriving DecidableEq, Repr

/-- The commands, one per row of the table of operations and events. -/
inductive Instr where
  -- resets and the power-on load
  | powerOnReset
  | loadEnd
  | softReset
  -- the conversion set and the events of the blocks
  | conversionSet (raw : RawSet)
  | trackLocked
  | trackLost
  | misfireLimitReached (slot : Fin 24)
  | traceFrozen
  | episodeOnset
  | holdExpiry
  | episodeLong
  | episodeClear
  | recoveryDone
  | episodeEnd
  | listClose
  | unblock
  | runEntered
  | syncFailed
  | stopDone
  | supervisionLapse
  | haltCause (cause : HaltCause)
  -- the plant line
  | tripInAssert
  | tripInRelease
  -- the link's receiver and transmitter
  | rxByte (byte : Byte)
  | rxFramingError
  | frameGapTimeout
  | replyTransmitted
  -- requests
  | unknownKind (kind : Byte) (tag : Byte) (payload : List Byte)
  | identify (tag : Byte)
  | getStatus (tag : Byte)
  | getTrip (tag : Byte)
  | start (tag : Byte)
  | stopSoft (tag : Byte)
  | stopImmediate (tag : Byte)
  | clearHalt (tag : Byte)
  | setTargets (tag : Byte) (pairs : List (Byte × BitVec 16))
  | getParam (tag : Byte) (ids : List Byte)
  | setParam (tag : Byte) (pairs : List (Byte × BitVec 32))
  | writeSlots (tag : Byte) (first : Byte) (recs : List SlotRec)
  | readSlots (tag : Byte) (first : Byte) (count : Byte)
  | writeResponses (tag : Byte) (first : Byte) (recs : List ResponseRec)
  | readResponses (tag : Byte) (first : Byte) (count : Byte)
  | clearMarks (tag : Byte) (mask : BitVec 32)
  | writeFilter (tag : Byte) (recs : List FilterRec)
  | readFilter (tag : Byte)
  | filterControlEnable (tag : Byte)
  | filterControlDisable (tag : Byte)
  | writeTrim (tag : Byte) (recs : List TrimRec)
  | readTrim (tag : Byte) (first : Byte) (count : Byte)
  | readHistory (tag : Byte) (offset : Byte) (count : Byte)
  | fetchNotices (tag : Byte)
  | ackNotices (tag : Byte) (sources : List Byte)
  | setNoticeEnableAssign (tag : Byte) (mask : BitVec 24)
  | setNoticeEnableSet (tag : Byte) (mask : BitVec 24)
  | setNoticeEnableClear (tag : Byte) (mask : BitVec 24)
  | setNoticeLevels (tag : Byte) (pairs : List (Byte × Byte))
  | setWatch (tag : Byte) (unit : Byte) (signal : Byte) (threshold : BitVec 32) (direction : Byte) (mode : Byte)
  | rearmWatch (tag : Byte) (mask : Byte)
  | traceControlArm (tag : Byte)
  | traceControlDisable (tag : Byte)
  | traceControlTrigger (tag : Byte)
  | traceControlSetMask (tag : Byte) (mask : BitVec 24)
  | readTrace (tag : Byte) (first : BitVec 16) (count : Byte)
  | saveSettings (tag : Byte)
  -- the store's writer: `errors` are the bits in which the row differs from what was written
  | saveRowWritten (errors : BitVec 39)
  | loadSettings (tag : Byte)
  | readStore (tag : Byte)
  | reset (tag : Byte)
  | resetNAsserted
  deriving DecidableEq, Repr

end Sys2Proof
end

