-- ==== Sys2Proof/Machine/Arith.lean ====
section
/-!
DEFINITION. The arithmetic words of 00_scope 1.4.5 and the arithmetic that rules share: saturation, clamping, rounding,
angles modulo a grid cycle, the integer square root, the vectoring of R19 and R20, bytes low byte first (R188) and the
frame CRC (R175). Integer division `/` by a positive number is the floor of the manual, `%` its mod.
-/

namespace Sys2Proof.Machine

/-- clamp(x, lo, hi): `x` limited to the interval (1.4.5). -/
def clamp (x lo hi : Int) : Int := min hi (max lo x)

/-- sat16: clamping to −32,768..32,767 (1.4.5). -/
def sat16 (x : Int) : Int := clamp x (-32768) 32767

/-- The signed 16-bit code of a saturated integer. -/
def toCode (x : Int) : Code := BitVec.ofInt 16 (sat16 x)

/-- A saturating count: one more, held at its maximum (1.4.5). -/
def satInc (limit n : Nat) : Nat := min limit (n + 1)

/-- One grid cycle in au (1.4.2). -/
def cycle : Nat := 23040

/-- The angle of an integer modulo a grid cycle, in 0..23,039. -/
def angleOf (x : Int) : Nat := (x % 23040).toNat

/-- The difference of two angles along the forward path, (x − from) mod 23,040 (R42). -/
def arc (start x : Nat) : Nat := (x + (23040 - start % 23040)) % 23040

/-- The signed wrap of a difference into −11,520..11,519 (1.4.2). -/
def wrapAngle (d : Int) : Int := (d + 11520) % 23040 - 11520

/-- One step of the integer square root: the bit at `bit` is kept when its square still fits. -/
def isqrtBits : Nat → Nat → Nat → Nat
  | 0, _, r => r
  | k + 1, n, r =>
    let c := r + 2 ^ k
    isqrtBits k n (if c * c ≤ n then c else r)

/-- The integer square root of a number below 2^64. -/
def isqrt (n : Nat) : Nat := isqrtBits 32 n 0

/-- Rotation of a vector by minus an angle whose cosine and sine are given with 128 fraction bits. -/
def rotateBack (c s : Int) (v : Int × Int) : Int × Int :=
  ((v.1 * c + v.2 * s) / 2 ^ 128, (v.2 * c - v.1 * s) / 2 ^ 128)

/-- Cosine and sine, with 128 fraction bits, of 4096, 2048, …, 1 angle units, each with the number of units. -/
def unitRotations : List (Nat × Int × Int) :=
  [(4096, 149169971419233416918596602734851372374, 305843765449128096101848522656759384457),
   (2048, 288575813422904245924193058158074392936, 180322181510277190488529740002604227428),
   (1024, 327100405124326601639005886606917189499, 93794531849237388852260266091449193347),
   (512, 336970762317608143015777587856459699063, 47358152206417802591036910258012718485),
   (256, 339453456177651013374559993136717716782, 23736897993709255695042896771499905946),
   (128, 340075076097132074821378937932824101649, 11875683342276517617844508495825077058),
   (64, 340230540268261750956743264373121785153, 5938746170945056723073406927607666420),
   (32, 340269410011089572909415488634731321099, 2969486154406273935813374003070091592),
   (16, 340279127678058612033813696841422908946, 1484757211021670172870001365342806543),
   (8, 340281557109254896513336954920681110645, 742380372244458501087811958494629407),
   (4, 340282164467957346434243346672119529115, 371190406964129264103293242847965131),
   (2, 340282316307689420124805561209092837307, 185595231087308292709561570277151514),
   (1, 340282354267625967373643208536510848518, 92797618994309796404635109974112226)]

/-- How many whole angle units a vector of the first quadrant stands counter-clockwise of the X axis, by taking each
power of two of units off when the vector stays on or above the axis. -/
def wholeUnits : List (Nat × Int × Int) → Int × Int → Nat
  | [], _ => 0
  | (n, c, s) :: rest, v =>
    let w := rotateBack c s v
    if 0 ≤ w.2 then n + wholeUnits rest w else wholeUnits rest v

/-- The angle of a vector of the first quadrant (`x > 0`, `y ≥ 0`) rounded to the nearest angle unit: half a unit is
added and the whole units are counted. The vector is scaled by 2^64; every boundary lies at least 1.8 × 10^-9 from every
vector of R18, so the rotations' error of at most 2^-57 never decides (log 16). -/
def quadrantUnits (x y : Int) : Nat :=
  wholeUnits unitRotations (rotateBack 340282363757610324737498549938288591479 (-46398809928486860473162480712534454)
    (x * 2 ^ 64, y * 2 ^ 64))

/-- θ_raw of a nonzero vector (R19): its angle in 1/64 degree, rounded to the nearest integer, 23,040 taken as 0. -/
def thetaRaw (x y : Int) : Nat :=
  (if 0 < x ∧ 0 ≤ y then quadrantUnits x y
   else if x ≤ 0 ∧ 0 < y then 5760 + quadrantUnits y (-x)
   else if x < 0 ∧ y ≤ 0 then 11520 + quadrantUnits (-x) (-y)
   else 17280 + quadrantUnits (-y) x) % 23040

/-- L_nom = round(V_NOM × 28,378 / 16,384) (R20). -/
def nominalLength (vNom : Nat) : Nat := (vNom * 28378 + 8192) / 16384

/-- m = min(8191, round(4096 × √(X² + Y²) / L_nom)), the root and the quotient exact before the rounding (R20):
the quotient of the root of 8192² (X² + Y²) by L_nom is twice the value, floored, and half of one more is its rounding. -/
def magnitude (x y : Int) (lNom : Nat) : Nat :=
  min 8191 ((isqrt (67108864 * (x * x + y * y).toNat) / lNom + 1) / 2)

/-- The reported frequency in centihertz, round(W × 2,000,000 / 5,898,240) (1.4.4). -/
def centihertz (w : Nat) : Nat := (4000000 * w + 5898240) / 11796480

/-- The `n` bytes of a number, low byte first (R188). -/
def bytesOf : Nat → Nat → List Byte
  | 0, _ => []
  | n + 1, v => BitVec.ofNat 8 v :: bytesOf n (v / 256)

/-- The `n` bytes of a signed number in two's complement, low byte first (R188). -/
def bytesOfInt (n : Nat) (v : Int) : List Byte := bytesOf n (v % (256 ^ n : Nat)).toNat

/-- The number whose bytes, low byte first, are given (R188). -/
def numOf : List Byte → Nat
  | [] => 0
  | b :: rest => b.toNat + 256 * numOf rest

/-- The byte 0 or 1 of a NO, YES value (R188). -/
def byteOfBool (b : Bool) : Byte := if b then 1 else 0

/-- One bit of the CRC register taken through the generator x^16 + x^12 + x^5 + 1 (R175). -/
def crcShift (r : BitVec 16) : BitVec 16 :=
  if r.msb then (r <<< 1) ^^^ 0x1021#16 else r <<< 1

/-- A byte entered at the most significant end of the CRC register (R175). -/
def crcByte (r : BitVec 16) (b : Byte) : BitVec 16 :=
  crcShift (crcShift (crcShift (crcShift (crcShift (crcShift (crcShift (crcShift
    (r ^^^ (b.setWidth 16 <<< 8)))))))))

/-- The CRC of a frame's bytes from the length byte to the last payload byte (R175). -/
def crc (bytes : List Byte) : BitVec 16 := bytes.foldl crcByte 0xFFFF#16

end Sys2Proof.Machine
end

