-- ==== Sys2Proof/Machine/Params.lean ====
section
/-!
DEFINITION. The parameters: their ids, ranges, defaults and the ones writable in STANDBY alone, from the parameter tables
of chapters 2 (2.6), 3 (3.6), 4 (4.6), 5 (5.10), 6 (6.9), 8 (8.7) and 9 (R161). The id table of R182 is their union.
-/

namespace Sys2Proof.Machine

/-- The 53 parameters. -/
inductive ParamId where
  /-- NOMINAL_FREQ, id 10h -/
  | nominalFreq
  /-- V_NOM, id 11h -/
  | vNom
  /-- PHASE_CORR, id 12h -/
  | phaseCorr
  /-- TRACK_KP, id 13h -/
  | trackKp
  /-- TRACK_KI, id 14h -/
  | trackKi
  /-- LOCK_ERR, id 15h -/
  | lockErr
  /-- LOCK_COUNT, id 16h -/
  | lockCount
  /-- HOLD_LIMIT, id 17h -/
  | holdLimit
  /-- M_LOSS, id 18h -/
  | mLoss
  /-- M_HYST, id 19h -/
  | mHyst
  /-- BRIDGES, id 20h -/
  | bridges
  /-- SHIFT_0, id 21h -/
  | shift0
  /-- SHIFT_1, id 22h -/
  | shift1
  /-- SHIFT_2, id 23h -/
  | shift2
  /-- SHIFT_3, id 24h -/
  | shift3
  /-- SYNC_OFFSET, id 25h -/
  | syncOffset
  /-- REF_WIDTH, id 26h -/
  | refWidth
  /-- GUARD, id 27h -/
  | guard
  /-- NOTCH_WIDTH, id 28h -/
  | notchWidth
  /-- GATE_WIDTH, id 29h -/
  | gateWidth
  /-- CONF_RATIO, id 2Ah -/
  | confRatio
  /-- REFAVG_SEED, id 2Bh -/
  | refavgSeed
  /-- REFAVG_UP_SHIFT, id 2Ch -/
  | refavgUpShift
  /-- REFAVG_DN_SHIFT, id 2Dh -/
  | refavgDnShift
  /-- MISFIRE_LIMIT, id 2Eh -/
  | misfireLimit
  /-- ALPHA_MIN, id 30h -/
  | alphaMin
  /-- ALPHA_MAX, id 31h -/
  | alphaMax
  /-- ALPHA_CENTER, id 32h -/
  | alphaCenter
  /-- ALPHA_START, id 33h -/
  | alphaStart
  /-- ALPHA_SLEW_DN, id 34h -/
  | alphaSlewDn
  /-- CUR_KP, id 35h -/
  | curKp
  /-- CUR_KI, id 36h -/
  | curKi
  /-- I_MAX, id 37h -/
  | iMax
  /-- RAMP_UP, id 38h -/
  | rampUp
  /-- RAMP_DN, id 39h -/
  | rampDn
  /-- M_SAG, id 40h -/
  | mSag
  /-- M_SWELL, id 41h -/
  | mSwell
  /-- E_JUMP, id 42h -/
  | eJump
  /-- W_BAND, id 43h -/
  | wBand
  /-- UNBAL_TH, id 44h -/
  | unbalTh
  /-- ONSET_COUNT, id 45h -/
  | onsetCount
  /-- CLEAR_COUNT, id 46h -/
  | clearCount
  /-- EPISODE_MAX, id 47h -/
  | episodeMax
  /-- REPEAT_MAX, id 48h -/
  | repeatMax
  /-- REPEAT_WINDOW, id 49h -/
  | repeatWindow
  /-- I_TRIP, id 50h -/
  | iTrip
  /-- V_TRIP, id 51h -/
  | vTrip
  /-- I_ZERO, id 52h -/
  | iZero
  /-- SYNC_TIMEOUT, id 53h -/
  | syncTimeout
  /-- SYNC_SETTLE, id 54h -/
  | syncSettle
  /-- SUPERVISION, id 55h -/
  | supervision
  /-- ALERT_FLOOR, id 60h -/
  | alertFloor
  /-- TRACE_POST, id 61h -/
  | tracePost
  deriving DecidableEq, Repr

/-- A row of a parameter table. -/
structure ParamInfo where
  /-- the one-byte id -/
  code : Nat
  /-- the lowest value a write may carry -/
  lo : Int
  /-- the highest value a write may carry -/
  hi : Int
  /-- the built-in default -/
  dflt : Int
  /-- writable in STANDBY alone -/
  standbyOnly : Bool
  deriving DecidableEq, Repr

/-- The parameter tables, one row per parameter. -/
def ParamId.info : ParamId → ParamInfo
  | .nominalFreq => ⟨0x10, 50, 60, 50, true⟩
  | .vNom => ⟨0x11, 1000, 32767, 20000, true⟩
  | .phaseCorr => ⟨0x12, -2880, 2880, 0, false⟩
  | .trackKp => ⟨0x13, 0, 255, 24, false⟩
  | .trackKi => ⟨0x14, 0, 255, 16, false⟩
  | .lockErr => ⟨0x15, 8, 1920, 64, false⟩
  | .lockCount => ⟨0x16, 1, 4000, 200, false⟩
  | .holdLimit => ⟨0x17, 10, 2000, 500, false⟩
  | .mLoss => ⟨0x18, 0, 4094, 819, false⟩
  | .mHyst => ⟨0x19, 0, 1024, 164, false⟩
  | .bridges => ⟨0x20, 1, 4, 4, true⟩
  | .shift0 => ⟨0x21, 0, 3839, 0, true⟩
  | .shift1 => ⟨0x22, 0, 3839, 960, true⟩
  | .shift2 => ⟨0x23, 0, 3839, 1920, true⟩
  | .shift3 => ⟨0x24, 0, 3839, 2880, true⟩
  | .syncOffset => ⟨0x25, 0, 23039, 1920, true⟩
  | .refWidth => ⟨0x26, 64, 1920, 320, true⟩
  | .guard => ⟨0x27, 0, 1920, 128, true⟩
  | .notchWidth => ⟨0x28, 64, 1280, 640, true⟩
  | .gateWidth => ⟨0x29, 64, 1280, 480, true⟩
  | .confRatio => ⟨0x2A, 0, 16, 8, false⟩
  | .refavgSeed => ⟨0x2B, 0, 16777215, 40000, false⟩
  | .refavgUpShift => ⟨0x2C, 0, 15, 3, false⟩
  | .refavgDnShift => ⟨0x2D, 0, 15, 5, false⟩
  | .misfireLimit => ⟨0x2E, 1, 15, 3, false⟩
  | .alphaMin => ⟨0x30, 0, 5760, 960, true⟩
  | .alphaMax => ⟨0x31, 960, 10240, 9600, true⟩
  | .alphaCenter => ⟨0x32, 0, 11520, 5760, false⟩
  | .alphaStart => ⟨0x33, 0, 11520, 7680, false⟩
  | .alphaSlewDn => ⟨0x34, 16, 1920, 320, false⟩
  | .curKp => ⟨0x35, 0, 4095, 64, false⟩
  | .curKi => ⟨0x36, 0, 4095, 4, false⟩
  | .iMax => ⟨0x37, 0, 32767, 24000, false⟩
  | .rampUp => ⟨0x38, 0, 65535, 256, false⟩
  | .rampDn => ⟨0x39, 0, 65535, 1024, false⟩
  | .mSag => ⟨0x40, 410, 4095, 3482, false⟩
  | .mSwell => ⟨0x41, 4097, 8190, 4710, false⟩
  | .eJump => ⟨0x42, 64, 11519, 640, false⟩
  | .wBand => ⟨0x43, 16, 1474, 737, false⟩
  | .unbalTh => ⟨0x44, 0, 8191, 410, false⟩
  | .onsetCount => ⟨0x45, 1, 200, 4, false⟩
  | .clearCount => ⟨0x46, 1, 20000, 400, false⟩
  | .episodeMax => ⟨0x47, 100, 10000, 3000, false⟩
  | .repeatMax => ⟨0x48, 1, 15, 3, false⟩
  | .repeatWindow => ⟨0x49, 1000, 60000, 10000, false⟩
  | .iTrip => ⟨0x50, 1, 32767, 30000, false⟩
  | .vTrip => ⟨0x51, 0, 32767, 30000, false⟩
  | .iZero => ⟨0x52, 0, 32767, 200, false⟩
  | .syncTimeout => ⟨0x53, 100, 10000, 2000, false⟩
  | .syncSettle => ⟨0x54, 20, 20000, 800, false⟩
  | .supervision => ⟨0x55, 0, 60000, 0, false⟩
  | .alertFloor => ⟨0x60, 1, 7, 1, false⟩
  | .tracePost => ⟨0x61, 0, 255, 64, false⟩

/-- The parameters in id order; a parameter's place in the table of working copies is its place here. -/
def ParamId.all : List ParamId :=
  [.nominalFreq, .vNom, .phaseCorr, .trackKp, .trackKi, .lockErr, .lockCount, .holdLimit, .mLoss,
   .mHyst, .bridges, .shift0, .shift1, .shift2, .shift3, .syncOffset, .refWidth, .guard, .notchWidth,
   .gateWidth, .confRatio, .refavgSeed, .refavgUpShift, .refavgDnShift, .misfireLimit, .alphaMin,
   .alphaMax, .alphaCenter, .alphaStart, .alphaSlewDn, .curKp, .curKi, .iMax, .rampUp, .rampDn, .mSag,
   .mSwell, .eJump, .wBand, .unbalTh, .onsetCount, .clearCount, .episodeMax, .repeatMax, .repeatWindow,
   .iTrip, .vTrip, .iZero, .syncTimeout, .syncSettle, .supervision, .alertFloor, .tracePost]

/-- A parameter's place in `ParamId.all`. -/
def ParamId.place : ParamId → Fin 53
  | .nominalFreq => 0
  | .vNom => 1
  | .phaseCorr => 2
  | .trackKp => 3
  | .trackKi => 4
  | .lockErr => 5
  | .lockCount => 6
  | .holdLimit => 7
  | .mLoss => 8
  | .mHyst => 9
  | .bridges => 10
  | .shift0 => 11
  | .shift1 => 12
  | .shift2 => 13
  | .shift3 => 14
  | .syncOffset => 15
  | .refWidth => 16
  | .guard => 17
  | .notchWidth => 18
  | .gateWidth => 19
  | .confRatio => 20
  | .refavgSeed => 21
  | .refavgUpShift => 22
  | .refavgDnShift => 23
  | .misfireLimit => 24
  | .alphaMin => 25
  | .alphaMax => 26
  | .alphaCenter => 27
  | .alphaStart => 28
  | .alphaSlewDn => 29
  | .curKp => 30
  | .curKi => 31
  | .iMax => 32
  | .rampUp => 33
  | .rampDn => 34
  | .mSag => 35
  | .mSwell => 36
  | .eJump => 37
  | .wBand => 38
  | .unbalTh => 39
  | .onsetCount => 40
  | .clearCount => 41
  | .episodeMax => 42
  | .repeatMax => 43
  | .repeatWindow => 44
  | .iTrip => 45
  | .vTrip => 46
  | .iZero => 47
  | .syncTimeout => 48
  | .syncSettle => 49
  | .supervision => 50
  | .alertFloor => 51
  | .tracePost => 52

/-- The parameter with an id, if the id is in the id table (R182). -/
def ParamId.ofCode? (c : Nat) : Option ParamId := ParamId.all.find? fun p => p.info.code == c

/-- A value lies in the parameter's range: 50 or 60 for NOMINAL_FREQ, 0 or 10..60,000 for SUPERVISION, the interval of
its table for every other. -/
def ParamId.inRange (p : ParamId) (v : Int) : Bool :=
  match p with
  | .nominalFreq => v == 50 || v == 60
  | .supervision => v == 0 || (decide (10 ≤ v) && decide (v ≤ 60000))
  | p => decide (p.info.lo ≤ v) && decide (v ≤ p.info.hi)

/-- The working copies of the parameters. -/
abbrev Params := Tab Int 53

/-- The built-in defaults. -/
def Params.defaults : Params := ⟨ParamId.all.map fun p => p.info.dflt, rfl⟩

end Sys2Proof.Machine
end

