-- ==== Sys2Proof/Machine/Records.lean ====
section
/-!
DEFINITION. The records and enumerations the blocks hold, field by field as the chapters name them, and the codes that
section 10.7 gives their values.
-/

namespace Sys2Proof.Machine

/-! Enumerations and their codes (R188). -/

/-- The tracker states (chapter 2, 2.4). -/
inductive TrackerState where
  | search | locked | hold | lost
  deriving DecidableEq, Repr

/-- The code of a tracker state. -/
def TrackerState.code : TrackerState → Byte
  | .search => 0 | .locked => 1 | .hold => 2 | .lost => 3

/-- The governor states (chapter 6). -/
inductive GovernorState where
  | steady | episode | recovery
  deriving DecidableEq, Repr

/-- The code of a governor state. -/
def GovernorState.code : GovernorState → Byte
  | .steady => 0 | .episode => 1 | .recovery => 2

/-- The kinds of episode, in the order of their codes, which is the order of their ranks (6.2). -/
inductive Kind where
  | loss | sagAsym | sagSym | swell | phaseJump | freqDev
  deriving DecidableEq, Repr

/-- The code of a kind. -/
def Kind.code : Kind → Byte
  | .loss => 0 | .sagAsym => 1 | .sagSym => 2 | .swell => 3 | .phaseJump => 4 | .freqDev => 5

/-- The kind with a code. -/
def Kind.ofCode? : Nat → Option Kind
  | 0 => some .loss | 1 => some .sagAsym | 2 => some .sagSym | 3 => some .swell
  | 4 => some .phaseJump | 5 => some .freqDev | _ => none

/-- The rank of a kind, 1 the highest (6.2). -/
def Kind.rank : Kind → Nat
  | .loss => 1 | .sagAsym => 2 | .sagSym => 3 | .swell => 4 | .phaseJump => 5 | .freqDev => 6

/-- The actions of a response (7.1). -/
inductive Action where
  | ride | block | trip
  deriving DecidableEq, Repr

/-- The code of an action. -/
def Action.code : Action → Byte
  | .ride => 0 | .block => 1 | .trip => 2

/-- The action with a code. -/
def Action.ofCode? : Nat → Option Action
  | 0 => some .ride | 1 => some .block | 2 => some .trip | _ => none

/-- What a hold expiry does (7.1). -/
inductive OnExpiry where
  | trip | block
  deriving DecidableEq, Repr

/-- The tracker modes of a response (7.1). -/
inductive TrackerMode where
  | follow | freeze | reseat
  deriving DecidableEq, Repr

/-- The code of a tracker mode. -/
def TrackerMode.code : TrackerMode → Byte
  | .follow => 0 | .freeze => 1 | .reseat => 2

/-- The tracker mode with a code. -/
def TrackerMode.ofCode? : Nat → Option TrackerMode
  | 0 => some .follow | 1 => some .freeze | 2 => some .reseat | _ => none

/-- The code of an entry index. -/
def entryIxCode : EntryIx → Byte
  | .entry i => BitVec.ofNat 8 i.1 | .dflt => 0x40 | .none => 0xFF

/-- The outcomes of a retirement (R84). -/
inductive RetireOutcome where
  | confirmed | misfire | indeterminate | cancelled
  deriving DecidableEq, Repr

/-- The code of an outcome. -/
def RetireOutcome.code : RetireOutcome → Byte
  | .confirmed => 0 | .misfire => 1 | .indeterminate => 2 | .cancelled => 3

/-- The outcomes of a history record (R114). -/
inductive HistoryOutcome where
  | ongoing | rode | tripped | ended
  deriving DecidableEq, Repr

/-- The code of a history outcome. -/
def HistoryOutcome.code : HistoryOutcome → Byte
  | .ongoing => 0 | .rode => 1 | .tripped => 2 | .ended => 3

/-- The run states (8.1). -/
inductive RunState where
  | standby | sync | run | stopping | halt
  deriving DecidableEq, Repr

/-- The code of a run state (R179). -/
def RunState.code : RunState → Byte
  | .standby => 0 | .sync => 1 | .run => 2 | .stopping => 3 | .halt => 4

/-- The code of a halt reason. -/
def haltReasonCode : HaltCause → Byte
  | .overcurrent _ => 1 | .overvoltage => 2 | .tripInput => 3 | .misfire _ => 4
  | .response _ => 5 | .expiry _ => 6 | .episodeLong => 7 | .repeated => 8

/-- The detail byte of a halt cause: the bridge, the slot or the entry index, FFh without detail. -/
def haltDetailCode : HaltCause → Byte
  | .overcurrent b => BitVec.ofNat 8 b.1
  | .misfire k => BitVec.ofNat 8 k.1
  | .response ix => entryIxCode ix
  | .expiry ix => entryIxCode ix
  | _ => 0xFF

/-- The notch channels (3.7). -/
inductive NotchChannel where
  | vab | vbc | vca
  deriving DecidableEq, Repr

/-- The code of a notch channel, which is the number of its measurement channel. -/
def NotchChannel.code : NotchChannel → Byte
  | .vab => 0 | .vbc => 1 | .vca => 2

/-- The notch channel with a code. -/
def NotchChannel.ofCode? : Nat → Option NotchChannel
  | 0 => some .vab | 1 => some .vbc | 2 => some .vca | _ => none

/-- The notch channel's place among the three filtered voltages. -/
def NotchChannel.place : NotchChannel → Fin 3
  | .vab => 0 | .vbc => 1 | .vca => 2

/-- The trace states (9.4). -/
inductive TraceState where
  | idle | recording | triggered | frozen
  deriving DecidableEq, Repr

/-- The code of a trace state. -/
def TraceState.code : TraceState → Byte
  | .idle => 0 | .recording => 1 | .triggered => 2 | .frozen => 3

/-- The 24 notice sources (9.1). -/
inductive Source where
  | episodeOnset | episodeEscalate | episodeClear | recoveryDone | haltEntered | slotMisfire
  | trackLocked | trackHold | trackLost | runEntered | syncFailed | stopDone
  | filterSat | adcClip | watch0 | watch1 | watch2 | watch3
  | traceFrozen | linkFault | storeFault | storeSaved | supervisionLapse | episodeExpired
  deriving DecidableEq, Repr

/-- The number of a source (9.1). -/
def Source.num : Source → Fin 24
  | .episodeOnset => 0 | .episodeEscalate => 1 | .episodeClear => 2 | .recoveryDone => 3
  | .haltEntered => 4 | .slotMisfire => 5 | .trackLocked => 6 | .trackHold => 7
  | .trackLost => 8 | .runEntered => 9 | .syncFailed => 10 | .stopDone => 11
  | .filterSat => 12 | .adcClip => 13 | .watch0 => 14 | .watch1 => 15
  | .watch2 => 16 | .watch3 => 17 | .traceFrozen => 18 | .linkFault => 19
  | .storeFault => 20 | .storeSaved => 21 | .supervisionLapse => 22 | .episodeExpired => 23

/-- The source of a watch unit (R163). -/
def Source.ofWatch : Fin 4 → Source
  | 0 => .watch0 | 1 => .watch1 | 2 => .watch2 | 3 => .watch3

/-- The default levels of the sources 0..23 (9.1). -/
def defaultLevels : Tab Nat 24 :=
  ⟨[6, 6, 6, 3, 7, 6, 1, 3, 3, 1, 3, 3, 3, 3, 3, 3, 3, 3, 3, 3, 3, 3, 3, 6], rfl⟩

/-- The default enables of the sources 0..23: YES but for FILTER_SAT and ADC_CLIP (9.1). -/
def defaultEnables : Tab Bool 24 :=
  ⟨[true, true, true, true, true, true, true, true, true, true, true, true, false, false, true, true, true, true, true,
    true, true, true, true, true], rfl⟩

/-- What brought a trigger to the trace recorder (R167). -/
inductive TriggerCause where
  | source (n : Fin 24)
  | request
  deriving DecidableEq, Repr

/-- The code of a trigger cause. -/
def TriggerCause.code : TriggerCause → Byte
  | .source n => BitVec.ofNat 8 n.1 | .request => 0x80

/-- The watch signals (R162). -/
inductive WatchSignal where
  | mag | freqChz | phaseErrAbs | unbal
  | iMeas (bridge : Fin 4)
  | vdc
  | alpha (bridge : Fin 4)
  deriving DecidableEq, Repr

/-- The code of a watch signal. -/
def WatchSignal.code : WatchSignal → Byte
  | .mag => 0 | .freqChz => 1 | .phaseErrAbs => 2 | .unbal => 3
  | .iMeas b => BitVec.ofNat 8 (4 + b.1) | .vdc => 8 | .alpha b => BitVec.ofNat 8 (9 + b.1)

/-- The watch signal with a code. -/
def WatchSignal.ofCode? : Nat → Option WatchSignal
  | 0 => some .mag | 1 => some .freqChz | 2 => some .phaseErrAbs | 3 => some .unbal
  | 4 => some (.iMeas 0) | 5 => some (.iMeas 1) | 6 => some (.iMeas 2) | 7 => some (.iMeas 3)
  | 8 => some .vdc
  | 9 => some (.alpha 0) | 10 => some (.alpha 1) | 11 => some (.alpha 2) | 12 => some (.alpha 3)
  | _ => none

/-- The result codes of replies (R180). -/
inductive ResultCode where
  | ok | clamped | partialWrite | kind | length | range | state | busy | config | interlock | filterActive | store
  deriving DecidableEq, Repr

/-- The byte of a result code. -/
def ResultCode.code : ResultCode → Byte
  | .ok => 0x00 | .clamped => 0x01 | .partialWrite => 0x02 | .kind => 0x10 | .length => 0x11 | .range => 0x12
  | .state => 0x13 | .busy => 0x14 | .config => 0x15 | .interlock => 0x16 | .filterActive => 0x17 | .store => 0x18

/-! Stored records. -/

/-- A channel's trim (1.2). -/
structure Trim where
  offset : Code
  gain : BitVec 16
  invert : Bool
  deriving DecidableEq, Repr

/-- The default trim (1.2). -/
def Trim.dflt : Trim := ⟨0, 8192, false⟩

/-- A filter stage's coefficients (1.4). -/
structure Coeffs where
  b0 : Code
  b1 : Code
  b2 : Code
  a1 : Code
  a2 : Code
  deriving DecidableEq, Repr

/-- The default coefficients: b0 = 1.0, the rest 0 (1.4). -/
def Coeffs.dflt : Coeffs := ⟨16384, 0, 0, 0, 0⟩

/-- A slot record's configuration part (3.7). -/
structure SlotConfig where
  channel : NotchChannel
  aMin : BitVec 24
  refLimit : BitVec 24
  deriving DecidableEq, Repr

/-- The default configuration part of slot `k` (3.7). -/
def SlotConfig.dflt (k : Nat) : SlotConfig :=
  ⟨if k % 3 = 0 then .vab else if k % 3 = 1 then .vbc else .vca, 2000, 16777215⟩

/-- The response fields that a governing copy takes (R100, R127). -/
structure Response where
  action : Action
  iLimit : Nat
  alphaFloor : Nat
  holdMs : Nat
  onExpiry : OnExpiry
  restartAlpha : Nat
  rampMs : Nat
  mode : TrackerMode
  deriving DecidableEq, Repr

/-- A response entry without its marks (7.1). -/
structure ResponseEntry where
  valid : Bool
  kind : Kind
  /-- 0 (primary) is `false`, 1 (secondary) is `true` -/
  fallback : Bool
  bandLo : Nat
  bandHi : Nat
  resp : Response
  deriving DecidableEq, Repr

/-- The default entry (7.1). -/
def ResponseEntry.dflt : ResponseEntry :=
  ⟨false, .sagSym, false, 0, 7, ⟨.block, 0, 11520, 150, .trip, 7680, 1000, .freeze⟩⟩

/-- A watch unit's configuration (R162). -/
structure WatchConfig where
  signal : WatchSignal
  threshold : Int
  /-- direction ABOVE is `true`, BELOW is `false` -/
  above : Bool
  /-- mode ONCE is `true`, EVERY is `false` -/
  once : Bool
  deriving DecidableEq, Repr

/-- The default configuration: MAG, BELOW, 0, EVERY (9.3). -/
def WatchConfig.dflt : WatchConfig := ⟨.mag, 0, false, false⟩

/-- The default trigger mask: EPISODE_ONSET, HALT_ENTERED and SLOT_MISFIRE (R172). -/
def defaultTriggerMask : BitVec 24 := 0b110001#24

/-- The stored items (11.1), as one image of the working copies. -/
structure Settings where
  params : Params
  trims : Tab Trim 8
  coeffs : Tab Coeffs 3
  filterEnable : Bool
  slots : Tab SlotConfig 24
  responses : Tab ResponseEntry 32
  levels : Tab Nat 24
  enables : Tab Bool 24
  watches : Tab WatchConfig 4
  traceMask : BitVec 24
  deriving DecidableEq, Repr

/-- The built-in defaults of every item. -/
def Settings.defaults : Settings where
  params := Params.defaults
  trims := Tab.fill 8 Trim.dflt
  coeffs := Tab.fill 3 Coeffs.dflt
  filterEnable := false
  slots := Tab.ofFn fun k => SlotConfig.dflt k.1
  responses := Tab.fill 32 ResponseEntry.dflt
  levels := defaultLevels
  enables := defaultEnables
  watches := Tab.fill 4 WatchConfig.dflt
  traceMask := defaultTriggerMask

/-! Records that travel between blocks. -/

/-- The trimmed set (R6). -/
structure TrimmedSet where
  count : Stamp
  values : Tab Code 8
  deriving DecidableEq, Repr

/-- The filtered set (R10): filtered voltages, residuals, bridge currents and the DC bus voltage. -/
structure FilteredSet where
  count : Stamp
  filtered : Tab Code 3
  residual : Tab Code 3
  idc : Tab Code 4
  vdc : Code
  deriving DecidableEq, Repr

/-- The angle update (R17). -/
structure AngleUpdate where
  thetaPrev : Nat
  thetaNew : Nat
  m : Nat
  e : Int
  w : Nat
  state : TrackerState
  reseat : Bool
  uLast : Nat
  set : FilteredSet
  deriving DecidableEq, Repr

/-- The states of an in-flight entry (5.1). -/
inductive EntryState where
  | waiting | reference | armed | conducting | done
  deriving DecidableEq, Repr

/-- An in-flight entry (5.1). -/
structure Entry where
  slot : Fin 24
  bridge : Fin 4
  pair : Nat
  alpha : Nat
  fire : Nat
  refOpen : Nat
  refClose : Nat
  gateOff : Nat
  notchClose : Nat
  config : SlotConfig
  iMeas : Code
  iSet : Nat
  refArea : Nat
  refSamples : Nat
  notchArea : Nat
  notchSamples : Nat
  disturbed : Bool
  drive : Bool
  state : EntryState
  outcome : Option RetireOutcome
  episodeMark : Bool
  doneTime : Stamp
  deriving DecidableEq, Repr

/-- The areas and sample counts of a retirement, absent for CANCELLED (R86). -/
structure Areas where
  notch : Nat
  notchSamples : Nat
  reference : Nat
  refSamples : Nat
  deriving DecidableEq, Repr

/-- The fields of a slot's last retirement (R86). -/
structure LastRetirement where
  seq : BitVec 16
  outcome : RetireOutcome
  alpha : Nat
  iMeas : Code
  iSet : Nat
  areas : Option Areas
  deriving DecidableEq, Repr

/-- A slot record's status part (R86). -/
structure SlotStatus where
  consecutive : Nat
  totalMisfires : Nat
  totalConfirmed : Nat
  last : Option LastRetirement
  deriving DecidableEq, Repr

/-- The status part after a reset (R93). -/
def SlotStatus.cleared : SlotStatus := ⟨0, 0, 0, none⟩

/-- A trace record (R85, R166); the areas are A and R, absent for CANCELLED. -/
structure TraceRecord where
  seq : BitVec 16
  doneTime : Stamp
  slot : Fin 24
  bridge : Fin 4
  alpha : Nat
  fire : Nat
  outcome : RetireOutcome
  areas : Option (Nat × Nat)
  iMeas : Code
  episodeMark : Bool
  deriving DecidableEq, Repr

/-- Extremes over updates: m_min, m_max, |e|_max, |ΔW|_max (chapter 6). -/
structure Extremes where
  mMin : Nat
  mMax : Nat
  eMax : Nat
  dwMax : Nat
  deriving DecidableEq, Repr

/-- The governing copy (R100, R127). -/
structure GoverningCopy where
  resp : Response
  ix : EntryIx
  deriving DecidableEq, Repr

/-- An episode history record (R114). -/
structure HistoryRecord where
  number : BitVec 16
  start : Stamp
  onsetKind : Kind
  kind : Kind
  band : Nat
  entry : EntryIx
  expired : Bool
  blocked : Bool
  outcome : HistoryOutcome
  /-- updates from onset to close; absent while ONGOING -/
  duration : Option Stamp
  deriving DecidableEq, Repr

/-- The trip record (R147). -/
structure TripRecord where
  cause : HaltCause
  time : Stamp
  left : RunState
  m : Nat
  w : Nat
  currents : Tab Code 4
  episode : Option (Kind × Nat)
  deriving DecidableEq, Repr

/-- A request frame in the inbox: kind, tag and payload (10.2, R177). -/
structure Frame where
  kind : Byte
  tag : Byte
  payload : List Byte
  deriving DecidableEq, Repr

/-- A reply frame (R179): the request's kind and tag, result code, condition byte, payload. -/
structure ReplyFrame where
  kind : Byte
  tag : Byte
  code : ResultCode
  condition : Byte
  payload : List Byte
  deriving DecidableEq, Repr

/-- The order that one conversion set takes among blocks the part gives no order (log 4). The blocks that take the angle
update do so at places along its path: a block with key `k` acts before the path point at distance `d` exactly when
`k < 16 d`. -/
structure UpdateOrder where
  /-- the run controller checks the trimmed set before the filter bank takes it (R6, R147) -/
  tripFirst : Bool
  /-- where it checks the set otherwise -/
  trip : Nat
  /-- where the governor takes the update (R57, R81) -/
  governor : Nat
  /-- where the slot sequencer takes the update, at the latest before the first path point (R44) -/
  take : Nat
  /-- from where on the slot sequencer sees a block reason raised since it took the update (R46, R72) -/
  sight : Nat
  /-- where the regulator takes its ramp step, at the latest before the first path point (R59) -/
  ramp : Nat
  /-- where the run controller takes the update (R139, R142) -/
  run : Nat
  /-- where the watch units take the update (R162) -/
  watch : Nat
  /-- from where on the firing list takes a risen block reason (R89) -/
  close : Nat
  /-- the firing list takes a change to STANDBY or HALT before the governor does (R89, R113) -/
  closeFirst : Bool
  deriving DecidableEq, Repr

/-- The order of the worked sequences: the trimmed set is checked first, the governor is taken first, then the ramp, the
path, the run controller and the watch units, and a block is seen, and closes the list, at once. -/
def UpdateOrder.usual : UpdateOrder := ⟨true, 0, 0, 0, 0, 8, 4000, 4001, 0, false⟩

end Sys2Proof.Machine
end

