-- ==== Sys2Proof/Machine/Rows.lean ====
section
/-!
DEFINITION. The rows of the settings store (11.1, 11.2): the check code of a row, which item a row belongs to, the bytes of
each item, what a load makes of the rows read, and the range checks of loaded items. The bytes of an item are those of its
link layout (R188), low byte first, four to a row, the rest 0 (log 11).
-/

namespace Sys2Proof.Machine

/-! The check code (R189, log 10). -/

/-- A row: 32 data bits and 7 check bits (R189). -/
structure Row where
  data : BitVec 32
  check : BitVec 7
  deriving DecidableEq, Repr

/-- The syndrome of each data bit, bit 0 first: the first 32 of the 35 seven-bit words with three bits set, all distinct
and all different from the words with one bit set, which are the syndromes of the check bits. -/
def columns : List (BitVec 7) :=
  [7, 11, 13, 14, 19, 21, 22, 25, 26, 28, 35, 37, 38, 41, 42, 44,
   49, 50, 52, 56, 67, 69, 70, 73, 74, 76, 81, 82, 84, 88, 97, 98]

/-- The sum of the columns of the bits that are set, from bit `i` on. -/
def columnSum (d : BitVec 32) : Nat → List (BitVec 7) → BitVec 7
  | _, [] => 0
  | i, c :: rest => (if d.getLsbD i then c else 0) ^^^ columnSum d (i + 1) rest

/-- The check bits of 32 data bits. -/
def checkOf (d : BitVec 32) : BitVec 7 := columnSum d 0 columns

/-- A row with its check code (R189). -/
def encodeRow (d : BitVec 32) : Row := ⟨d, checkOf d⟩

/-- The three results of reading a row (R189). -/
inductive RowRead where
  | clean (d : BitVec 32)
  | corrected (d : BitVec 32)
  | uncorrectable
  deriving DecidableEq, Repr

/-- Reading a row: clean with a zero syndrome, corrected when the syndrome is that of one bit, uncorrectable otherwise. -/
def readRow (r : Row) : RowRead :=
  let s := checkOf r.data ^^^ r.check
  if s = 0 then .clean r.data
  else
    match columns.findIdx? (· == s) with
    | some i => .corrected (r.data ^^^ (1#32 <<< i))
    | none => if [1#7, 2, 4, 8, 16, 32, 64].contains s then .corrected r.data else .uncorrectable

/-- A row with some of its 39 bits inverted, data bits 0..31 and check bits 32..38. -/
def disturbRow (r : Row) (errors : BitVec 39) : Row :=
  ⟨r.data ^^^ errors.setWidth 32, r.check ^^^ (errors >>> 32).setWidth 7⟩

/-! The row map (R189). -/

/-- The stored items (11.1). -/
inductive Item where
  | param (p : ParamId)
  | trim (c : Fin 8)
  | coeffs (s : Fin 3)
  | filterEnable
  | slot (k : Fin 24)
  | response (i : Fin 32)
  | level (n : Fin 24)
  | enable (n : Fin 24)
  | watch (u : Fin 4)
  | traceMask
  deriving DecidableEq, Repr

/-- The row an item begins on (R189). -/
def Item.first : Item → Nat
  | .param p => p.info.code
  | .trim c => 100 + 2 * c.1
  | .coeffs s => 120 + 3 * s.1
  | .filterEnable => 129
  | .slot k => 130 + 2 * k.1
  | .response i => 180 + 4 * i.1
  | .level n => 310 + n.1
  | .enable n => 340 + n.1
  | .watch u => 370 + 2 * u.1
  | .traceMask => 380

/-- How many rows an item occupies (R189). -/
def Item.rows : Item → Nat
  | .trim _ => 2
  | .coeffs _ => 3
  | .slot _ => 2
  | .response _ => 4
  | .watch _ => 2
  | _ => 1

/-- The item a row holds a part of, and which part, or none (R189). -/
def itemAt (n : Nat) : Option (Item × Nat) :=
  if 16 ≤ n ∧ n ≤ 97 then (ParamId.ofCode? n).map fun p => (.param p, 0)
  else if 100 ≤ n ∧ n ≤ 115 then some (.trim (Fin.ofNat 8 ((n - 100) / 2)), (n - 100) % 2)
  else if 120 ≤ n ∧ n ≤ 128 then some (.coeffs (Fin.ofNat 3 ((n - 120) / 3)), (n - 120) % 3)
  else if n = 129 then some (.filterEnable, 0)
  else if 130 ≤ n ∧ n ≤ 177 then some (.slot (Fin.ofNat 24 ((n - 130) / 2)), (n - 130) % 2)
  else if 180 ≤ n ∧ n ≤ 307 then some (.response (Fin.ofNat 32 ((n - 180) / 4)), (n - 180) % 4)
  else if 310 ≤ n ∧ n ≤ 333 then some (.level (Fin.ofNat 24 (n - 310)), 0)
  else if 340 ≤ n ∧ n ≤ 363 then some (.enable (Fin.ofNat 24 (n - 340)), 0)
  else if 370 ≤ n ∧ n ≤ 377 then some (.watch (Fin.ofNat 4 ((n - 370) / 2)), (n - 370) % 2)
  else if n = 380 then some (.traceMask, 0)
  else none

/-! Records as bytes (R187, R188). -/

/-- The 13 bytes of a response entry record (R188). -/
def responseRecBytes (r : ResponseRec) : List Byte :=
  [r.kind.setWidth 8 ||| (byteOfBool r.fallback <<< 3) ||| (byteOfBool r.valid <<< 7),
   r.bandLo.setWidth 8 ||| (r.bandHi.setWidth 8 <<< 4),
   r.action.setWidth 8 ||| (byteOfBool r.onExpiry <<< 2) ||| (r.mode.setWidth 8 <<< 4)]
  ++ bytesOf 2 r.iLimit.toNat ++ bytesOf 2 r.alphaFloor.toNat ++ bytesOf 2 r.holdMs.toNat
  ++ bytesOf 2 r.restartAlpha.toNat ++ bytesOf 2 r.rampMs.toNat

/-- The response entry record in 13 bytes; unused bits are ignored (R188). -/
def responseRecOf (bs : List Byte) : ResponseRec :=
  let b (n : Nat) : Byte := bs.getD n 0
  let h (n : Nat) : BitVec 16 := BitVec.ofNat 16 (numOf [b n, b (n + 1)])
  { kind := (b 0).setWidth 3, fallback := (b 0).getLsbD 3, valid := (b 0).getLsbD 7
    bandLo := (b 1).setWidth 3, bandHi := (b 1 >>> 4).setWidth 3
    action := (b 2).setWidth 2, onExpiry := (b 2).getLsbD 2, mode := (b 2 >>> 4).setWidth 2
    iLimit := h 3, alphaFloor := h 5, holdMs := h 7, restartAlpha := h 9, rampMs := h 11 }

/-- The entry that a written record gives, when every field lies in the range of 7.1 (R131). -/
def responseOfRec (r : ResponseRec) : Option ResponseEntry :=
  match Kind.ofCode? r.kind.toNat, Action.ofCode? r.action.toNat, TrackerMode.ofCode? r.mode.toNat with
  | some k, some a, some t =>
    if r.bandLo.toNat ≤ r.bandHi.toNat ∧ r.iLimit.toNat ≤ 4096 ∧ r.alphaFloor.toNat ≤ 11520
        ∧ 1 ≤ r.holdMs.toNat ∧ r.holdMs.toNat ≤ 5000 ∧ r.restartAlpha.toNat ≤ 11520 ∧ r.rampMs.toNat ≤ 10000 then
      some ⟨r.valid, k, r.fallback, r.bandLo.toNat, r.bandHi.toNat,
        ⟨a, r.iLimit.toNat, r.alphaFloor.toNat, r.holdMs.toNat, if r.onExpiry then .block else .trip,
          r.restartAlpha.toNat, r.rampMs.toNat, t⟩⟩
    else none
  | _, _, _ => none

/-- The record that an entry is read as (R133, R188). -/
def recOfResponse (e : ResponseEntry) : ResponseRec :=
  { kind := e.kind.code.setWidth 3, fallback := e.fallback, valid := e.valid
    bandLo := BitVec.ofNat 3 e.bandLo, bandHi := BitVec.ofNat 3 e.bandHi
    action := e.resp.action.code.setWidth 2, onExpiry := decide (e.resp.onExpiry = .block)
    mode := e.resp.mode.code.setWidth 2
    iLimit := BitVec.ofNat 16 e.resp.iLimit, alphaFloor := BitVec.ofNat 16 e.resp.alphaFloor
    holdMs := BitVec.ofNat 16 e.resp.holdMs, restartAlpha := BitVec.ofNat 16 e.resp.restartAlpha
    rampMs := BitVec.ofNat 16 e.resp.rampMs }

/-- A configuration part as the 7 bytes of a slot record (R188). -/
def slotConfigBytes (c : SlotConfig) : List Byte :=
  [c.channel.code] ++ bytesOf 3 c.aMin.toNat ++ bytesOf 3 c.refLimit.toNat

/-- A watch configuration as signal 1, threshold 4, direction 1, mode 1 (R187). -/
def watchConfigBytes (w : WatchConfig) : List Byte :=
  [w.signal.code] ++ bytesOfInt 4 w.threshold ++ [byteOfBool (!w.above), byteOfBool w.once]

/-- The watch configuration with given codes, when each names a value of its field (R164). -/
def watchConfigOf (signal : Byte) (threshold : BitVec 32) (direction mode : Byte) : Option WatchConfig :=
  match WatchSignal.ofCode? signal.toNat with
  | some sig =>
    if direction.toNat ≤ 1 ∧ mode.toNat ≤ 1 then some ⟨sig, threshold.toInt, direction == 0, mode == 1⟩ else none
  | none => none

/-- The bytes of an item's working copy (log 11). -/
def Settings.bytes (c : Settings) : Item → List Byte
  | .param p => bytesOfInt 4 (c.params.get p.place)
  | .trim i => let t := c.trims.get i; bytesOf 2 t.offset.toNat ++ bytesOf 2 t.gain.toNat ++ [byteOfBool t.invert]
  | .coeffs s =>
    let f := c.coeffs.get s
    bytesOf 2 f.b0.toNat ++ bytesOf 2 f.b1.toNat ++ bytesOf 2 f.b2.toNat ++ bytesOf 2 f.a1.toNat ++ bytesOf 2 f.a2.toNat
  | .filterEnable => [byteOfBool c.filterEnable]
  | .slot k => slotConfigBytes (c.slots.get k)
  | .response i => responseRecBytes (recOfResponse (c.responses.get i))
  | .level n => bytesOf 1 (c.levels.get n)
  | .enable n => [byteOfBool (c.enables.get n)]
  | .watch u => watchConfigBytes (c.watches.get u)
  | .traceMask => bytesOf 3 c.traceMask.toNat

/-- The data a save writes to a row: its part of its item, or 0 for a row that holds no item (R189, R192). -/
def Settings.word (c : Settings) (n : Nat) : BitVec 32 :=
  match itemAt n with
  | some (i, part) => BitVec.ofNat 32 (numOf (((c.bytes i).drop (4 * part)).take 4))
  | none => 0

/-- The 512 rows that hold a configuration. -/
def Settings.image (c : Settings) : Tab Row 512 := Tab.ofFn fun n => encodeRow (c.word n.1)

/-! A load (R190). -/

/-- The data of a row read, unless it is uncorrectable. -/
def RowRead.data? : RowRead → Option (BitVec 32)
  | .clean d => some d
  | .corrected d => some d
  | .uncorrectable => none

/-- The bytes of `n` rows from a list of rows read; none when one of them is uncorrectable. -/
def rowsBytes : Nat → List RowRead → Option (List Byte)
  | 0, _ => some []
  | _ + 1, [] => none
  | n + 1, r :: rest =>
    match r.data?, rowsBytes n rest with
    | some d, some bs => some (bytesOf 4 d.toNat ++ bs)
    | _, _ => none

/-- An item as loaded: the value read when it lies in range, else the default, and the row marked bad for a value out of
range, the row on which the item begins (R190). -/
def loadItem {α : Type} (rs : List RowRead) (i : Item) (parse : List Byte → Option α) (dflt : α) : α × List Nat :=
  match rowsBytes i.rows (rs.drop i.first) with
  | none => (dflt, [])
  | some bs =>
    match parse bs with
    | some v => (v, [])
    | none => (dflt, [i.first])

/-- A table of items as loaded, with the rows marked bad. -/
def loadTab {α : Type} {n : Nat} (f : Fin n → α × List Nat) : Tab α n × List Nat :=
  let t := Tab.ofFn f
  (t.map (·.1), t.list.flatMap (·.2))

/-- A NO, YES value from its byte. -/
def boolOfBytes (bs : List Byte) : Option Bool :=
  match (bs.getD 0 0).toNat with
  | 0 => some false
  | 1 => some true
  | _ => none

/-- A signed 32-bit value from its bytes. -/
def intOfBytes (bs : List Byte) : Int := (BitVec.ofNat 32 (numOf (bs.take 4))).toInt

/-- A trim from its bytes. -/
def trimOfBytes (bs : List Byte) : Option Trim :=
  match boolOfBytes (bs.drop 4) with
  | some inv => some ⟨BitVec.ofNat 16 (numOf (bs.take 2)), BitVec.ofNat 16 (numOf ((bs.drop 2).take 2)), inv⟩
  | none => none

/-- A stage's coefficients from their bytes. -/
def coeffsOfBytes (bs : List Byte) : Coeffs :=
  let h (n : Nat) : Code := BitVec.ofNat 16 (numOf ((bs.drop n).take 2))
  ⟨h 0, h 2, h 4, h 6, h 8⟩

/-- A configuration part from its bytes. -/
def slotConfigOfBytes (bs : List Byte) : Option SlotConfig :=
  match NotchChannel.ofCode? (bs.getD 0 0).toNat with
  | some ch => some ⟨ch, BitVec.ofNat 24 (numOf ((bs.drop 1).take 3)), BitVec.ofNat 24 (numOf ((bs.drop 4).take 3))⟩
  | none => none

/-- The image that the rows read give: each item's value or default, and the rows marked bad for values out of range (R190).
Bits of an item's rows that lie in none of its fields are ignored, which is the model's choice (log 11). -/
def loadImage (rs : List RowRead) : Settings × List Nat :=
  let params := ParamId.all.map fun p =>
    loadItem rs (.param p) (fun bs => let v := intOfBytes bs; if p.inRange v then some v else none) p.info.dflt
  let trims := loadTab fun c => loadItem rs (.trim c) trimOfBytes Trim.dflt
  let coeffs := loadTab fun s => loadItem rs (.coeffs s) (fun bs => some (coeffsOfBytes bs)) Coeffs.dflt
  let enable := loadItem rs .filterEnable boolOfBytes false
  let slots := loadTab fun k => loadItem rs (.slot k) slotConfigOfBytes (SlotConfig.dflt k.1)
  let responses := loadTab fun i =>
    loadItem rs (.response i) (fun bs => responseOfRec (responseRecOf bs)) ResponseEntry.dflt
  let levels := loadTab fun n =>
    loadItem rs (.level n) (fun bs => let v := numOf (bs.take 1); if v ≤ 7 then some v else none) (defaultLevels.get n)
  let enables := loadTab fun n => loadItem rs (.enable n) boolOfBytes (defaultEnables.get n)
  let watches := loadTab fun u =>
    loadItem rs (.watch u)
      (fun bs => watchConfigOf (bs.getD 0 0) (BitVec.ofNat 32 (numOf ((bs.drop 1).take 4))) (bs.getD 5 0) (bs.getD 6 0))
      WatchConfig.dflt
  let mask := loadItem rs .traceMask (fun bs => some (BitVec.ofNat 24 (numOf (bs.take 3)))) defaultTriggerMask
  ({ params := ⟨params.map (·.1), by simp [params, ParamId.all]⟩
     trims := trims.1, coeffs := coeffs.1, filterEnable := enable.1, slots := slots.1, responses := responses.1
     levels := levels.1, enables := enables.1, watches := watches.1, traceMask := mask.1 },
   params.flatMap (·.2) ++ trims.2 ++ coeffs.2 ++ enable.2 ++ slots.2 ++ responses.2 ++ levels.2 ++ enables.2
     ++ watches.2 ++ mask.2)

end Sys2Proof.Machine
end

