-- ==== Sys2Proof/Machine/Operands.lean ====
section
/-!
DEFINITION. The operand forms: every request kind with the payload it carries (R187, R188), written as a frame and read
from one, with the kind and length checks that the link unit makes before a request is handed to its owner (R180).
-/

namespace Sys2Proof.Machine

/-! Writing payload items. -/

/-- A 16-bit item. -/
def w16 (v : BitVec 16) : List Byte := bytesOf 2 v.toNat

/-- A 24-bit item. -/
def w24 (v : BitVec 24) : List Byte := bytesOf 3 v.toNat

/-- A 32-bit item. -/
def w32 (v : BitVec 32) : List Byte := bytesOf 4 v.toNat

/-- A slot record of WRITE_SLOTS. -/
def slotRecBytes (r : SlotRec) : List Byte := r.channel :: (w24 r.aMin ++ w24 r.refLimit)

/-- A stage record of WRITE_FILTER. -/
def filterRecBytes (r : FilterRec) : List Byte := r.stage :: (w16 r.b0 ++ w16 r.b1 ++ w16 r.b2 ++ w16 r.a1 ++ w16 r.a2)

/-- A trim record of WRITE_TRIM. -/
def trimRecBytes (r : TrimRec) : List Byte := r.channel :: (w16 r.offset ++ w16 r.gain ++ [r.invert])

/-- A pair of SET_TARGETS. -/
def targetBytes (p : Byte × BitVec 16) : List Byte := p.1 :: w16 p.2

/-- A pair of SET_PARAM. -/
def paramBytes (p : Byte × BitVec 32) : List Byte := p.1 :: w32 p.2

/-- A pair of SET_NOTICE_LEVELS. -/
def levelBytes (p : Byte × Byte) : List Byte := [p.1, p.2]

/-- The frame of a request (R187); none for a command that is no request. -/
def frameOf : Instr → Option Frame
  | .unknownKind kind tag payload => some ⟨kind, tag, payload⟩
  | .identify tag => some ⟨0x01, tag, []⟩
  | .getStatus tag => some ⟨0x02, tag, []⟩
  | .getTrip tag => some ⟨0x03, tag, []⟩
  | .start tag => some ⟨0x08, tag, []⟩
  | .stopSoft tag => some ⟨0x09, tag, [0]⟩
  | .stopImmediate tag => some ⟨0x09, tag, [1]⟩
  | .clearHalt tag => some ⟨0x0A, tag, []⟩
  | .setTargets tag pairs => some ⟨0x10, tag, pairs.flatMap targetBytes⟩
  | .getParam tag ids => some ⟨0x11, tag, ids⟩
  | .setParam tag pairs => some ⟨0x12, tag, pairs.flatMap paramBytes⟩
  | .writeSlots tag first recs => some ⟨0x18, tag, first :: recs.flatMap slotRecBytes⟩
  | .readSlots tag first count => some ⟨0x19, tag, [first, count]⟩
  | .writeResponses tag first recs => some ⟨0x1A, tag, first :: recs.flatMap responseRecBytes⟩
  | .readResponses tag first count => some ⟨0x1B, tag, [first, count]⟩
  | .clearMarks tag mask => some ⟨0x1C, tag, w32 mask⟩
  | .writeFilter tag recs => some ⟨0x20, tag, recs.flatMap filterRecBytes⟩
  | .readFilter tag => some ⟨0x21, tag, []⟩
  | .filterControlDisable tag => some ⟨0x22, tag, [0]⟩
  | .filterControlEnable tag => some ⟨0x22, tag, [1]⟩
  | .writeTrim tag recs => some ⟨0x23, tag, recs.flatMap trimRecBytes⟩
  | .readTrim tag first count => some ⟨0x24, tag, [first, count]⟩
  | .readHistory tag offset count => some ⟨0x28, tag, [offset, count]⟩
  | .fetchNotices tag => some ⟨0x30, tag, []⟩
  | .ackNotices tag sources => some ⟨0x31, tag, sources⟩
  | .setNoticeEnableAssign tag mask => some ⟨0x32, tag, 0 :: w24 mask⟩
  | .setNoticeEnableSet tag mask => some ⟨0x32, tag, 1 :: w24 mask⟩
  | .setNoticeEnableClear tag mask => some ⟨0x32, tag, 2 :: w24 mask⟩
  | .setNoticeLevels tag pairs => some ⟨0x33, tag, pairs.flatMap levelBytes⟩
  | .setWatch tag unit signal threshold direction mode =>
    some ⟨0x34, tag, [unit, signal] ++ w32 threshold ++ [direction, mode]⟩
  | .rearmWatch tag mask => some ⟨0x35, tag, [mask]⟩
  | .traceControlArm tag => some ⟨0x38, tag, [0]⟩
  | .traceControlDisable tag => some ⟨0x38, tag, [1]⟩
  | .traceControlTrigger tag => some ⟨0x38, tag, [2]⟩
  | .traceControlSetMask tag mask => some ⟨0x38, tag, 3 :: w24 mask⟩
  | .readTrace tag first count => some ⟨0x39, tag, w16 first ++ [count]⟩
  | .saveSettings tag => some ⟨0x3C, tag, []⟩
  | .loadSettings tag => some ⟨0x3D, tag, []⟩
  | .readStore tag => some ⟨0x3E, tag, []⟩
  | .reset tag => some ⟨0x3F, tag, []⟩
  | .powerOnReset | .loadEnd | .softReset | .conversionSet _ | .trackLocked | .trackLost | .misfireLimitReached _
  | .traceFrozen | .episodeOnset | .holdExpiry | .episodeLong | .episodeClear | .recoveryDone | .episodeEnd | .listClose
  | .unblock | .runEntered | .syncFailed | .stopDone | .supervisionLapse | .haltCause _ | .tripInAssert | .tripInRelease
  | .rxByte _ | .rxFramingError | .frameGapTimeout | .replyTransmitted | .saveRowWritten _ | .resetNAsserted => none

/-! Reading payload items. -/

/-- The byte at an offset. -/
def byteAt (bs : List Byte) (n : Nat) : Byte := bs.getD n 0

/-- The 16-bit item at an offset. -/
def r16 (bs : List Byte) (n : Nat) : BitVec 16 := BitVec.ofNat 16 (numOf ((bs.drop n).take 2))

/-- The 24-bit item at an offset. -/
def r24 (bs : List Byte) (n : Nat) : BitVec 24 := BitVec.ofNat 24 (numOf ((bs.drop n).take 3))

/-- The 32-bit item at an offset. -/
def r32 (bs : List Byte) (n : Nat) : BitVec 32 := BitVec.ofNat 32 (numOf ((bs.drop n).take 4))

/-- `k` items of `n` bytes each. -/
def items {α : Type} (n : Nat) (parse : List Byte → α) : Nat → List Byte → List α
  | 0, _ => []
  | k + 1, bs => parse (bs.take n) :: items n parse k (bs.drop n)

/-- A slot record. -/
def slotRecOf (bs : List Byte) : SlotRec := ⟨byteAt bs 0, r24 bs 1, r24 bs 4⟩

/-- A stage record. -/
def filterRecOf (bs : List Byte) : FilterRec := ⟨byteAt bs 0, r16 bs 1, r16 bs 3, r16 bs 5, r16 bs 7, r16 bs 9⟩

/-- A trim record. -/
def trimRecOf (bs : List Byte) : TrimRec := ⟨byteAt bs 0, r16 bs 1, r16 bs 3, byteAt bs 5⟩

/-- A bridge and a value. -/
def targetOf (bs : List Byte) : Byte × BitVec 16 := (byteAt bs 0, r16 bs 1)

/-- An id and a value. -/
def paramOf (bs : List Byte) : Byte × BitVec 32 := (byteAt bs 0, r32 bs 1)

/-- A source and a level. -/
def levelOf (bs : List Byte) : Byte × Byte := (byteAt bs 0, byteAt bs 1)

/-! The checks before an owner (R180). -/

/-- A kind with a fixed payload of `n` bytes. -/
def fixedLen (n : Nat) (bs : List Byte) (i : Except ResultCode Instr) : Except ResultCode Instr :=
  if bs.length = n then i else .error .length

/-- A kind that carries a fixed part of `f` bytes and a list of items of `n` bytes: the number of items is handed on. -/
def listLen (f n : Nat) (bs : List Byte) (i : Nat → Instr) : Except ResultCode Instr :=
  if f ≤ bs.length ∧ (bs.length - f) % n = 0 then .ok (i ((bs.length - f) / n)) else .error .length

/-- TRACE_CONTROL: 1 byte with mode 0, 1 or 2, 4 bytes with mode 3, 1 or 4 with any other mode, which its owner refuses
with RANGE (R169, R180). -/
def readTraceControl (tag : Byte) (p : List Byte) : Except ResultCode Instr :=
  match p with
  | [] => .error .length
  | m :: rest =>
    match m.toNat with
    | 0 => if rest = [] then .ok (.traceControlArm tag) else .error .length
    | 1 => if rest = [] then .ok (.traceControlDisable tag) else .error .length
    | 2 => if rest = [] then .ok (.traceControlTrigger tag) else .error .length
    | 3 => if rest.length = 3 then .ok (.traceControlSetMask tag (r24 p 1)) else .error .length
    | _ => if rest.length = 0 ∨ rest.length = 3 then .error .range else .error .length

/-- A mode byte that names one of several requests; any other mode is refused with RANGE by its owner, before every other
check it makes (R12, R141, R159). -/
def readMode (m : Byte) (choices : List Instr) : Except ResultCode Instr :=
  match choices[m.toNat]? with
  | some i => .ok i
  | none => .error .range

/-- The request of a frame, or the code that refuses it before its owner sees it, in the order KIND, LENGTH, and the RANGE
of a mode byte (R180, R187). -/
def decodeRequest (f : Frame) : Except ResultCode Instr :=
  let t := f.tag
  let p := f.payload
  match f.kind.toNat with
  | 0x01 => fixedLen 0 p (.ok (.identify t))
  | 0x02 => fixedLen 0 p (.ok (.getStatus t))
  | 0x03 => fixedLen 0 p (.ok (.getTrip t))
  | 0x08 => fixedLen 0 p (.ok (.start t))
  | 0x09 => fixedLen 1 p (readMode (byteAt p 0) [.stopSoft t, .stopImmediate t])
  | 0x0A => fixedLen 0 p (.ok (.clearHalt t))
  | 0x10 => listLen 0 3 p fun k => .setTargets t (items 3 targetOf k p)
  | 0x11 => .ok (.getParam t p)
  | 0x12 => listLen 0 5 p fun k => .setParam t (items 5 paramOf k p)
  | 0x18 => listLen 1 7 p fun k => .writeSlots t (byteAt p 0) (items 7 slotRecOf k (p.drop 1))
  | 0x19 => fixedLen 2 p (.ok (.readSlots t (byteAt p 0) (byteAt p 1)))
  | 0x1A => listLen 1 13 p fun k => .writeResponses t (byteAt p 0) (items 13 responseRecOf k (p.drop 1))
  | 0x1B => fixedLen 2 p (.ok (.readResponses t (byteAt p 0) (byteAt p 1)))
  | 0x1C => fixedLen 4 p (.ok (.clearMarks t (r32 p 0)))
  | 0x20 => listLen 0 11 p fun k => .writeFilter t (items 11 filterRecOf k p)
  | 0x21 => fixedLen 0 p (.ok (.readFilter t))
  | 0x22 => fixedLen 1 p (readMode (byteAt p 0) [.filterControlDisable t, .filterControlEnable t])
  | 0x23 => listLen 0 6 p fun k => .writeTrim t (items 6 trimRecOf k p)
  | 0x24 => fixedLen 2 p (.ok (.readTrim t (byteAt p 0) (byteAt p 1)))
  | 0x28 => fixedLen 2 p (.ok (.readHistory t (byteAt p 0) (byteAt p 1)))
  | 0x30 => fixedLen 0 p (.ok (.fetchNotices t))
  | 0x31 => .ok (.ackNotices t p)
  | 0x32 =>
    fixedLen 4 p (readMode (byteAt p 0)
      [.setNoticeEnableAssign t (r24 p 1), .setNoticeEnableSet t (r24 p 1), .setNoticeEnableClear t (r24 p 1)])
  | 0x33 => listLen 0 2 p fun k => .setNoticeLevels t (items 2 levelOf k p)
  | 0x34 => fixedLen 8 p (.ok (.setWatch t (byteAt p 0) (byteAt p 1) (r32 p 2) (byteAt p 6) (byteAt p 7)))
  | 0x35 => fixedLen 1 p (.ok (.rearmWatch t (byteAt p 0)))
  | 0x38 => readTraceControl t p
  | 0x39 => fixedLen 3 p (.ok (.readTrace t (r16 p 0) (byteAt p 2)))
  | 0x3C => fixedLen 0 p (.ok (.saveSettings t))
  | 0x3D => fixedLen 0 p (.ok (.loadSettings t))
  | 0x3E => fixedLen 0 p (.ok (.readStore t))
  | 0x3F => fixedLen 0 p (.ok (.reset t))
  | _ => .error .kind

/-- The bytes of a frame on the line: the marker, the length, kind, tag, payload and the CRC, low byte first (R175,
R188). -/
def Frame.wire (f : Frame) : List Byte :=
  let body := BitVec.ofNat 8 (2 + f.payload.length) :: f.kind :: f.tag :: f.payload
  0xC3 :: (body ++ w16 (crc body))

/-- The bytes of a reply frame on the line (R175, R179, R188). -/
def ReplyFrame.wire (r : ReplyFrame) : List Byte :=
  let body := BitVec.ofNat 8 (4 + r.payload.length) :: r.kind :: r.tag :: r.code.code :: r.condition :: r.payload
  0x3C :: (body ++ w16 (crc body))

end Sys2Proof.Machine
end

