-- ==== Sys2Proof/Config.lean ====
section
/-!
DEFINITION. What the manual fixes for every part (1.4.1, R181) and the free values: constants without a body, so that no
proof can know them.
-/

namespace Sys2Proof.Config

/-- Tracker updates per millisecond (1.4.1). -/
def updatesPerMs : Nat := 20

/-- The part number that IDENTIFY returns (R181). -/
def partNumber : Nat := 2440

/-- The design revision number (R181). -/
def revision : Nat := 1

/-- The largest bridge count (R181). -/
def maxBridges : Nat := 4

/-- The response table size (R181). -/
def tableSize : Nat := 32

/-- The trace ring size (R166, R181). -/
def ringSize : Nat := 256

/-- The history's size (R114). -/
def historySize : Nat := 16

/-- The saturation value of the supervision count (R150). -/
def supervisionMax : Nat := 1200000

/-- A free value (R193, log 12): what the row being written holds after a reset has stopped a save, data bits 0..31 and
check bits 32..38. The argument numbers the occasions. -/
opaque interruptedRow : Nat → BitVec 39

/-- A free value (R147, R188, log 14): the current that GET_STATUS and the trip record report for a bridge when no
conversion set has completed since the last reset. The argument is the bridge. -/
opaque unmeasuredCurrent : Nat → Code

/-- A free value (R39, R83, R188, log 25): what READ_SLOTS reports as the reference average of a slot at or above S, which
belongs to no bridge. The argument is the slot. -/
opaque strayAverage : Nat → Nat

/-- A free value (R179, R180, log 26): the kind byte of the reply to a frame whose kind is 80h or above, where the kind plus
80h does not fit a byte. The argument is the frame's kind. -/
opaque strayReplyKind : Byte → Byte

end Sys2Proof.Config
end

