-- ==== Sys2Proof/Machine/State.lean ====
section
/-!
DEFINITION. The state of the UJC2440: one structure per block, holding what the block's chapter gives it, the queue of
commands that are waiting, and the state right after a power-on reset.
-/

namespace Sys2Proof.Machine

/-- Why a step can stop with a fault. The part stops for nothing: what the manual calls a fault (a link fault, a store
fault, a trip) is an effect on its state. -/
inductive Fault where
  /-- Raised by no command; stands so that the type is not empty. Safe. -/
  | unreachable
  deriving DecidableEq, Repr

/-- Why a command can be refused. -/
inductive Refusal where
  /-- Raised by an arm of `exec` whose row has no meaning yet (none is left). Safe. -/
  | notModelled (mnemonic : String)
  deriving DecidableEq, Repr

/-- The measurement front end (chapter 1). -/
structure Mfe where
  count : Stamp
  raw : Option (Tab Code 8)
  trimmed : Option TrimmedSet
  clips : Tab Nat 8
  trims : Tab Trim 8
  deriving DecidableEq, Repr

/-- A filter stage's state (R7). -/
structure StageState where
  x1 : Code
  x2 : Code
  y1 : Code
  y2 : Code
  deriving DecidableEq, Repr

/-- The fundamental filter bank (chapter 1). -/
structure Ffb where
  coeffs : Tab Coeffs 3
  enabled : Bool
  /-- per channel VAB, VBC, VCA, the three stages -/
  stages : Tab (Tab StageState 3) 3
  saturations : Tab Nat 3
  filtered : Option FilteredSet
  deriving DecidableEq, Repr

/-- The angle tracker (chapter 2). -/
structure Atr where
  thetaMeas : Nat
  m : Nat
  p : Nat
  w : Nat
  e : Int
  state : TrackerState
  seated : Bool
  lockCount : Nat
  holdCount : Nat
  reseatRequest : Bool
  /-- running minimum and maximum of m -/
  running : Option (Nat × Nat)
  uLast : Nat
  /-- the last angle update published -/
  last : Option AngleUpdate
  deriving DecidableEq, Repr

/-- The slot sequencer (chapter 3). -/
structure Ssq where
  pointer : Nat
  pendingSync : Bool
  config : Tab SlotConfig 24
  deriving DecidableEq, Repr

/-- One bridge of the current regulator (chapter 4). -/
structure Bridge where
  target : Nat
  /-- S_b, in 1/256 code -/
  setpoint : Nat
  integ : Int
  alphaPrev : Nat
  presetPending : Bool
  startValue : Option Nat
  deriving DecidableEq, Repr

/-- The current regulator (chapter 4). -/
structure Crg where
  bridges : Tab Bridge 4
  deriving DecidableEq, Repr

/-- The firing list (chapter 5). -/
structure Fls where
  list : List Entry
  refAvg : Tab Nat 4
  seq : BitVec 16
  status : Tab SlotStatus 24
  blocked : Bool
  deriving DecidableEq, Repr

/-- The disturbance governor (chapter 6). -/
structure Dgv where
  state : GovernorState
  dCount : Nat
  runExtremes : Option Extremes
  cCount : Nat
  kind : Option Kind
  band : Nat
  extremes : Option Extremes
  start : Stamp
  expired : Bool
  block : Bool
  copy : Option GoverningCopy
  recovery : Nat
  freeze : Bool
  /-- newest first -/
  history : List HistoryRecord
  nextNumber : BitVec 16
  rideOut : Bool
  deriving DecidableEq, Repr

/-- The marks of a response entry (7.4). -/
structure Marks where
  used : Bool
  rode : Bool
  tripped : Bool
  deriving DecidableEq, Repr

/-- The response table (chapter 7). -/
structure Rtb where
  entries : Tab ResponseEntry 32
  marks : Tab Marks 32
  deriving DecidableEq, Repr

/-- The run controller (chapter 8). -/
structure Rct where
  state : RunState
  syncTimer : Nat
  settleCount : Nat
  stopCount : Nat
  supervision : Nat
  lapsed : Bool
  trip : Option TripRecord
  /-- the TRIP_IN line is asserted, and with it the reason is present (R144) -/
  tripIn : Bool
  deriving DecidableEq, Repr

/-- One notice source (R155). -/
structure Notice where
  level : Nat
  enable : Bool
  latched : Bool
  count : Nat
  last : Option Stamp
  deriving DecidableEq, Repr

/-- The notice unit (chapter 9). -/
structure Ntu where
  sources : Tab Notice 24
  alert : Bool
  deriving DecidableEq, Repr

/-- One watch unit (R162). -/
structure Watch where
  config : WatchConfig
  armed : Bool
  condition : Bool
  deriving DecidableEq, Repr

/-- The watch units (chapter 9). -/
structure Wcu where
  units : Tab Watch 4
  deriving DecidableEq, Repr

/-- The trace recorder (chapter 9). -/
structure Trc where
  /-- oldest first -/
  ring : List TraceRecord
  state : TraceState
  mask : BitVec 24
  post : Nat
  position : Option (BitVec 16)
  cause : Option TriggerCause
  time : Option Stamp
  deriving DecidableEq, Repr

/-- The receiver states (10.3). -/
inductive RxState where
  | hunt | length | body | crc
  deriving DecidableEq, Repr

/-- The link unit (chapter 10). -/
structure Lnk where
  rx : RxState
  /-- the bytes of the frame being received, from the length byte on -/
  partialFrame : List Byte
  inbox : List Frame
  errors : Nat
  overrun : Bool
  /-- the reply under transmission -/
  reply : Option ReplyFrame
  /-- the straps as read at the last reset -/
  baud : BitVec 2
  clksel : BitVec 2
  deriving DecidableEq, Repr

/-- The store's activity (chapter 11): LOADING at power-on or for LOAD_SETTINGS, SAVING with the row being written. -/
inductive Activity where
  | idle
  | powerOnLoad
  | loading
  | saving (row : Fin 512)
  deriving DecidableEq, Repr

/-- The settings store (chapter 11). -/
structure Sst where
  rows : Tab Row 512
  bad : Tab Bool 512
  latch : Bool
  activity : Activity
  corrected : Nat
  deriving DecidableEq, Repr

/-- The input pins that hold a level (R196): RESET_N and the straps. TRIP_IN stands with the run controller. -/
structure Pins where
  /-- RESET_N is low, or supply is lost: the part is held in power-on reset -/
  resetLow : Bool
  baud : BitVec 2
  clksel : BitVec 2
  deriving DecidableEq, Repr

/-- The whole part. -/
structure State where
  mfe : Mfe
  ffb : Ffb
  atr : Atr
  ssq : Ssq
  crg : Crg
  fls : Fls
  dgv : Dgv
  rtb : Rtb
  rct : Rct
  ntu : Ntu
  wcu : Wcu
  trc : Trc
  lnk : Lnk
  sst : Sst
  /-- the working copies of the parameters, each owned by the block its chapter names -/
  params : Params
  pins : Pins
  /-- the model's own: the orders of the coming conversion sets (log 4) -/
  orders : List UpdateOrder
  /-- the model's own: how many free row contents have been drawn (log 12) -/
  freeCount : Nat
  /-- the commands that are waiting, first in first out -/
  pending : List Instr
  deriving DecidableEq, Repr

/-! The state of each block after a reset, as far as the two resets agree; what a soft reset keeps is given to it. -/

/-- MFE after a reset (R16), with the trims in force. -/
def Mfe.atReset (trims : Tab Trim 8) : Mfe := ⟨0, none, none, Tab.fill 8 0, trims⟩

/-- The 36 stage states at 0 (R15, R16). -/
def clearedStages : Tab (Tab StageState 3) 3 := Tab.fill 3 (Tab.fill 3 ⟨0, 0, 0, 0⟩)

/-- FFB after a reset (R16), with the coefficients and the enable in force. -/
def Ffb.atReset (coeffs : Tab Coeffs 3) (enabled : Bool) : Ffb :=
  ⟨coeffs, enabled, clearedStages, Tab.fill 3 0, none⟩

/-- ATR after a reset (R38), with W_nom of the NOMINAL_FREQ in force. -/
def Atr.atReset (wNom : Nat) : Atr := ⟨0, 0, 0, wNom, 0, .search, false, 0, 0, false, none, 0, none⟩

/-- SSQ after a reset (R54), with the configuration parts in force. -/
def Ssq.atReset (config : Tab SlotConfig 24) : Ssq := ⟨0, false, config⟩

/-- CRG after a reset (R71), with the ALPHA_START in force. -/
def Crg.atReset (alphaStart : Nat) : Crg := ⟨Tab.fill 4 ⟨0, 0, 0, alphaStart, false, none⟩⟩

/-- FLS after a reset (R93), with the REFAVG_SEED in force. -/
def Fls.atReset (seed : Nat) : Fls := ⟨[], Tab.fill 4 seed, 0, Tab.fill 24 SlotStatus.cleared, true⟩

/-- DGV after a reset (R119), with the history and the next episode number that the reset leaves. -/
def Dgv.atReset (history : List HistoryRecord) (next : BitVec 16) : Dgv :=
  ⟨.steady, 0, none, 0, none, 0, none, 0, false, false, none, 0, false, history, next, false⟩

/-- RTB after a reset (R135), with the entries in force. -/
def Rtb.atReset (entries : Tab ResponseEntry 32) : Rtb := ⟨entries, Tab.fill 32 ⟨false, false, false⟩⟩

/-- RCT after a reset (R154), with the trip record that the reset leaves and the TRIP_IN line as it stands. -/
def Rct.atReset (trip : Option TripRecord) (tripIn : Bool) : Rct := ⟨.standby, 0, 0, 0, 0, false, trip, tripIn⟩

/-- NTU after a reset (R173), with the levels and enables in force. -/
def Ntu.atReset (levels : Tab Nat 24) (enables : Tab Bool 24) : Ntu :=
  ⟨Tab.ofFn fun n => ⟨levels.get n, enables.get n, false, 0, none⟩, false⟩

/-- WCU after a reset (R173), with the configurations in force. -/
def Wcu.atReset (configs : Tab WatchConfig 4) : Wcu := ⟨configs.map fun c => ⟨c, true, false⟩⟩

/-- TRC after a reset (R173), with the trigger mask in force. -/
def Trc.atReset (mask : BitVec 24) : Trc := ⟨[], .recording, mask, 0, none, none, none⟩

/-- LNK after a reset (R186), with the straps as read at it (R174, R195). -/
def Lnk.atReset (baud clksel : BitVec 2) : Lnk := ⟨.hunt, [], [], 0, false, none, baud, clksel⟩

/-- The store's rows as the part leaves manufacture (R189). -/
def factoryRows : Tab Row 512 := Settings.defaults.image

/-- SST while a power-on reset lasts and until its load ends: the marks that the load will give are not yet there
(log 9). -/
def Sst.atPowerOn (rows : Tab Row 512) (activity : Activity) : Sst :=
  ⟨rows, Tab.fill 512 false, false, activity, 0⟩

/-- W_nom for a NOMINAL_FREQ: 14,746 for 50 and 17,695 for 60 (1.4.4, R37). -/
def wNominal (freq : Int) : Nat := if freq = 60 then 17695 else 14746

/-- The part in power-on reset, or out of it with its load running: every block as its chapter says, the working copies at
their defaults until the load installs them (log 7). -/
def State.powerOn (rows : Tab Row 512) (activity : Activity) (pins : Pins) (tripIn : Bool)
    (orders : List UpdateOrder) (freeCount : Nat) (pending : List Instr) : State where
  mfe := Mfe.atReset Settings.defaults.trims
  ffb := Ffb.atReset Settings.defaults.coeffs Settings.defaults.filterEnable
  atr := Atr.atReset (wNominal 50)
  ssq := Ssq.atReset Settings.defaults.slots
  crg := Crg.atReset 7680
  fls := Fls.atReset 40000
  dgv := Dgv.atReset [] 0
  rtb := Rtb.atReset Settings.defaults.responses
  rct := Rct.atReset none tripIn
  ntu := Ntu.atReset Settings.defaults.levels Settings.defaults.enables
  wcu := Wcu.atReset Settings.defaults.watches
  trc := Trc.atReset Settings.defaults.traceMask
  lnk := Lnk.atReset pins.baud pins.clksel
  sst := Sst.atPowerOn rows activity
  params := Params.defaults
  pins := pins
  orders := orders
  freeCount := freeCount
  pending := pending

/-- The part as it leaves manufacture, right after RESET_N has been released: the power-on load is running (R191,
log 6), the straps are 0 and TRIP_IN is released (log 8). -/
def State.reset : State :=
  State.powerOn factoryRows .powerOnLoad ⟨false, 0, 0⟩ false [] 0 []

end Sys2Proof.Machine
end

