-- ==== Sys2Proof/Machine/Ops.lean ====
section
/-!
DEFINITION. The named updates of the state, one per block, and the plain reads that every chapter shares: a parameter's
working copy, the last conversion count, the limits that follow from parameters, the order of the coming update.
-/

namespace Sys2Proof.Machine

/-! One update per field of State. -/

/-- The state with another `mfe`. -/
def State.withMfe (s : State) (v : Mfe) : State := { s with mfe := v }

/-- The state with another `ffb`. -/
def State.withFfb (s : State) (v : Ffb) : State := { s with ffb := v }

/-- The state with another `atr`. -/
def State.withAtr (s : State) (v : Atr) : State := { s with atr := v }

/-- The state with another `ssq`. -/
def State.withSsq (s : State) (v : Ssq) : State := { s with ssq := v }

/-- The state with another `crg`. -/
def State.withCrg (s : State) (v : Crg) : State := { s with crg := v }

/-- The state with another `fls`. -/
def State.withFls (s : State) (v : Fls) : State := { s with fls := v }

/-- The state with another `dgv`. -/
def State.withDgv (s : State) (v : Dgv) : State := { s with dgv := v }

/-- The state with another `rtb`. -/
def State.withRtb (s : State) (v : Rtb) : State := { s with rtb := v }

/-- The state with another `rct`. -/
def State.withRct (s : State) (v : Rct) : State := { s with rct := v }

/-- The state with another `ntu`. -/
def State.withNtu (s : State) (v : Ntu) : State := { s with ntu := v }

/-- The state with another `wcu`. -/
def State.withWcu (s : State) (v : Wcu) : State := { s with wcu := v }

/-- The state with another `trc`. -/
def State.withTrc (s : State) (v : Trc) : State := { s with trc := v }

/-- The state with another `lnk`. -/
def State.withLnk (s : State) (v : Lnk) : State := { s with lnk := v }

/-- The state with another `sst`. -/
def State.withSst (s : State) (v : Sst) : State := { s with sst := v }

/-- The state with another `params`. -/
def State.withParams (s : State) (v : Params) : State := { s with params := v }

/-- The state with another `pins`. -/
def State.withPins (s : State) (v : Pins) : State := { s with pins := v }

/-- The state with another `orders`. -/
def State.withOrders (s : State) (v : List UpdateOrder) : State := { s with orders := v }

/-- The state with another `freeCount`. -/
def State.withFreeCount (s : State) (v : Nat) : State := { s with freeCount := v }

/-- The state with another `pending`. -/
def State.withPending (s : State) (v : List Instr) : State := { s with pending := v }

/-! Shared reads. -/

/-- A parameter's value in force (R182). -/
def State.par (s : State) (p : ParamId) : Int := s.params.get p.place

/-- A parameter's value in force as a count or an angle. -/
def State.parN (s : State) (p : ParamId) : Nat := (s.par p).toNat

/-- The state with one parameter's working copy replaced. -/
def State.withPar (s : State) (p : ParamId) (v : Int) : State := s.withParams (s.params.set p.place v)

/-- A parameter given in milliseconds, in tracker updates (1.4.1). -/
def State.parMs (s : State) (p : ParamId) : Nat := s.parN p * Config.updatesPerMs

/-- W_nom of the NOMINAL_FREQ in force (R37). -/
def State.wNom (s : State) : Nat := wNominal (s.par .nominalFreq)

/-- L_nom of the V_NOM in force (R20). -/
def State.lNom (s : State) : Nat := nominalLength (s.parN .vNom)

/-- m_acq = M_LOSS + M_HYST (2.4). -/
def State.mAcq (s : State) : Nat := s.parN .mLoss + s.parN .mHyst

/-- The run state is RUN or STOPPING. -/
def State.running (s : State) : Bool := s.rct.state == .run || s.rct.state == .stopping

/-- Held in power-on reset, or its load not yet ended: no conversion set completes, every received byte is discarded
(R1, R176, R191) and no request can be under way. -/
def State.asleep (s : State) : Bool := s.pins.resetLow || s.sst.activity == .powerOnLoad

/-- A settings save is in progress (11.3). -/
def State.saving (s : State) : Bool :=
  match s.sst.activity with
  | .saving _ => true
  | _ => false

/-- The order that the coming conversion set takes among the blocks (log 4). -/
def State.order (s : State) : UpdateOrder := s.orders.headD .usual

/-- The order used up. -/
def State.dropOrder (s : State) : State := s.withOrders s.orders.tail

/-- How long ago a conversion count was, modulo 2^32 (1.4.1). -/
def elapsed (now start : Stamp) : Nat := (now - start).toNat

end Sys2Proof.Machine
end

