-- ==== Sys2Proof/Machine/Flags.lean ====
section
/-!
DEFINITION. Everything the part computes as a flag: the five block reasons and their union (R88), the gate lines (R77,
R78), the ALERT condition (R156), the condition byte of a reply (R179) and the two bytes of the status record that gather
flags (R188).
-/

namespace Sys2Proof.Machine

/-! Block reasons. -/

/-- The run controller's run-state reason: the run state is neither RUN nor STOPPING (R136). -/
def State.runReason (s : State) : Bool := !s.running

/-- The tracker's reason: SEARCH or LOST (R33). -/
def State.trackerReason (s : State) : Bool := s.atr.state == .search || s.atr.state == .lost

/-- The union of the five block reasons (R88). -/
def State.union (s : State) : Bool :=
  s.runReason || s.rct.tripIn || s.trackerReason || s.dgv.block || s.ssq.pendingSync

/-- The block reasons byte of the status record (R188). -/
def State.reasonsByte (s : State) : Byte :=
  byteOfBool s.runReason ||| (byteOfBool s.rct.tripIn <<< 1) ||| (byteOfBool s.trackerReason <<< 2)
    ||| (byteOfBool s.dgv.block <<< 3) ||| (byteOfBool s.ssq.pendingSync <<< 4)

/-! Gate lines. -/

/-- The gate line of an entry's primary pulse, G(6b + p) (R40). -/
def Entry.primaryLine (e : Entry) : Nat := 6 * e.bridge.1 + e.pair

/-- The gate line of an entry's second pulse, G(6b + (p + 5) mod 6) (R40). -/
def Entry.secondLine (e : Entry) : Nat := 6 * e.bridge.1 + (e.pair + 5) % 6

/-- An entry drives a gate line (R76). -/
def Entry.drives (e : Entry) (g : Nat) : Bool := e.drive && (e.primaryLine == g || e.secondLine == g)

/-- A gate line is ON: at least one entry drives it and TRIP_IN is inactive (R77, R78). -/
def State.gateOn (s : State) (g : Fin 24) : Bool := !s.rct.tripIn && s.fls.list.any fun e => e.drives g.1

/-! ALERT. -/

/-- A source holds ALERT: latched, enabled, and at a level at or above ALERT_FLOOR (R156). -/
def Notice.alerts (floor : Nat) (n : Notice) : Bool := n.latched && n.enable && decide (floor ≤ n.level)

/-- The ALERT condition (R156). -/
def State.alertDue (s : State) : Bool := s.ntu.sources.list.any (Notice.alerts (s.parN .alertFloor))

/-- ALERT judged again (R156). -/
def judgeAlert (s : State) : State := s.withNtu { s.ntu with alert := s.alertDue }

/-! Bytes of flags. -/

/-- The store state byte: bit 0 save in progress, bit 1 fault latch (R188, R194). -/
def State.storeByte (s : State) : Byte := byteOfBool s.saving ||| (byteOfBool s.sst.latch <<< 1)

/-- The condition byte of a reply (R179): ALERT, overrun, run state in bits 2..4, RIDE_OUT, pulses blocked, fault latch. -/
def State.conditionByte (s : State) : Byte :=
  byteOfBool s.ntu.alert ||| (byteOfBool s.lnk.overrun <<< 1) ||| (s.rct.state.code <<< 2)
    ||| (byteOfBool s.dgv.rideOut <<< 5) ||| (byteOfBool s.fls.blocked <<< 6) ||| (byteOfBool s.sst.latch <<< 7)

end Sys2Proof.Machine
end

