-- ==== Sys2Proof/Machine/Notices.lean ====
section
/-!
DEFINITION. Occurrences of notice sources and the trace recorder's part in them (chapter 9): latching (R155), triggers
(R167), the freeze (R168), trace records (R166).
-/

namespace Sys2Proof.Machine

/-- What an occurrence does to its source: latched, counted up to 255, stamped (R155). -/
def Notice.occur (now : Stamp) (n : Notice) : Notice :=
  { n with latched := true, count := satInc 255 n.count, last := some now }

/-- The notice unit's own part of an occurrence (R155, R156). -/
def latch (src : Source) (s : State) : State :=
  judgeAlert (s.withNtu { s.ntu with sources := s.ntu.sources.modify src.num (Notice.occur s.mfe.count) })

/-- The freeze judged in TRIGGERED: FROZEN and TRACE_FROZEN once the post count is at or above TRACE_POST (R168). The
occurrence finds the recorder in FROZEN, so a trigger of it is ignored. -/
def judgeFreeze (s : State) : State :=
  if s.trc.state = .triggered ∧ s.parN .tracePost ≤ s.trc.post then
    latch .traceFrozen (s.withTrc { s.trc with state := .frozen })
  else s

/-- A trigger reaching the trace recorder: taken in RECORDING, ignored elsewhere (R167). -/
def takeTrigger (cause : TriggerCause) (s : State) : State :=
  if s.trc.state = .recording then
    judgeFreeze (s.withTrc { s.trc with
      state := .triggered, post := 0, position := s.trc.ring.getLast?.map (·.seq), cause := some cause,
      time := some s.mfe.count })
  else s

/-- One occurrence of a notice source (R155): latched, and handed on as a trigger when the mask names it. -/
def occur (src : Source) (s : State) : State :=
  let t := latch src s
  if s.trc.mask.getLsbD src.num.1 then takeTrigger (.source src.num) t else t

/-- An occurrence, if there is one. -/
def occurIf (src? : Option Source) (s : State) : State :=
  match src? with
  | some src => occur src s
  | none => s

/-- `n` occurrences of a source, one after another. -/
def occurTimes : Nat → Source → State → State
  | 0, _, s => s
  | n + 1, src, s => occurTimes n src (occur src s)

/-- The ring with a record appended as the newest, the oldest removed first when 256 are held (R166). -/
def pushRing (ring : List TraceRecord) (r : TraceRecord) : List TraceRecord :=
  (if ring.length < Config.ringSize then ring else ring.tail) ++ [r]

/-- A trace record reaching the trace recorder: appended in RECORDING and TRIGGERED, counted in TRIGGERED with the freeze
judged after it, discarded elsewhere (R166, R168). -/
def appendTrace (r : TraceRecord) (s : State) : State :=
  match s.trc.state with
  | .recording => s.withTrc { s.trc with ring := pushRing s.trc.ring r }
  | .triggered => judgeFreeze (s.withTrc { s.trc with ring := pushRing s.trc.ring r, post := s.trc.post + 1 })
  | _ => s

end Sys2Proof.Machine
end

