-- ==== Sys2Proof/Machine/Responses.lean ====
section
/-!
DEFINITION. The response table's search and marks (chapter 7).
-/

namespace Sys2Proof.Machine

/-- The primary group of a kind (7.2). -/
def primaryGroup : Kind → Nat
  | .sagSym => 0
  | .sagAsym => 1
  | .swell => 2
  | .phaseJump => 2
  | .freqDev => 3
  | .loss => 3

/-- The secondary group of a kind, 3 − g (7.2). -/
def secondaryGroup (k : Kind) : Nat := 3 - primaryGroup k

/-- An entry matches a pass of the search (R122, R123): valid, of the pass's fallback and of the kind, its bands holding
the band. -/
def ResponseEntry.fits (e : ResponseEntry) (fallback : Bool) (k : Kind) (band : Nat) : Bool :=
  e.valid && e.fallback == fallback && e.kind == k && decide (e.bandLo ≤ band) && decide (band ≤ e.bandHi)

/-- The entries of a group in ascending index order (7.1). -/
def groupEntries (g : Nat) : List (Fin 32) := (List.range 8).map fun n => Fin.ofNat 32 (8 * g + n)

/-- The first matching entry of a group (R122, R123). -/
def searchGroup (t : Tab ResponseEntry 32) (g : Nat) (fallback : Bool) (k : Kind) (band : Nat) : Option (Fin 32) :=
  (groupEntries g).find? fun i => (t.get i).fits fallback k band

/-- The search: the primary group with fallback 0, then the secondary group with fallback 1 (R122, R123). -/
def searchTable (t : Tab ResponseEntry 32) (k : Kind) (band : Nat) : Option (Fin 32) :=
  match searchGroup t (primaryGroup k) false k band with
  | some i => some i
  | none => searchGroup t (secondaryGroup k) true k band

/-- The built-in default response (R124). -/
def defaultResponse (s : State) : Response :=
  ⟨.block, 0, s.parN .alphaMax, 150, .trip, 7680, 1000, .freeze⟩

/-- The result of a search, as a governing copy would take it (R122 to R124, R127). -/
def searchResult (k : Kind) (band : Nat) (s : State) : GoverningCopy :=
  match searchTable s.rtb.entries k band with
  | some i => ⟨(s.rtb.entries.get i).resp, .entry i⟩
  | none => ⟨defaultResponse s, .dflt⟩

/-- A mark of the entry that an index names is changed; DEFAULT and NONE name no entry (R126, R129). -/
def markEntry (ix : EntryIx) (f : Marks → Marks) (s : State) : State :=
  match ix with
  | .entry i => s.withRtb { s.rtb with marks := s.rtb.marks.modify i f }
  | _ => s

end Sys2Proof.Machine
end

