-- ==== Sys2Proof/Machine/Regulator.lean ====
section
/-!
DEFINITION. The current regulator (chapter 4): the limit in force and the floor, the ramp step, the firing delay at a
dispatch with its preset, the unblock, and the events that write targets and setpoints.
-/

namespace Sys2Proof.Machine

/-- L_ep = floor(I_MAX × i_limit / 4096) (R102, R110). -/
def episodeLimit (s : State) (c : GoverningCopy) : Nat := s.parN .iMax * c.resp.iLimit / 4096

/-- The recovery value L_ep + floor((I_MAX − L_ep) × t / (ramp_ms × 20)), I_MAX when ramp_ms is 0 (R110). -/
def recoveryLimit (s : State) (c : GoverningCopy) : Nat :=
  if c.resp.rampMs = 0 then s.parN .iMax
  else episodeLimit s c
    + (s.parN .iMax - episodeLimit s c) * s.dgv.recovery / (c.resp.rampMs * Config.updatesPerMs)

/-- The limit in force L (R57, R102). -/
def State.limit (s : State) : Nat :=
  match s.dgv.state, s.dgv.copy with
  | .episode, some c => episodeLimit s c
  | .recovery, some c => recoveryLimit s c
  | _, _ => s.parN .iMax

/-- The episode floor: the copy's alpha_floor clamped into [ALPHA_MIN, ALPHA_MAX] in EPISODE, 0 otherwise (R63, R128). -/
def State.floorEp (s : State) : Int :=
  match s.dgv.state, s.dgv.copy with
  | .episode, some c => clamp c.resp.alphaFloor (s.par .alphaMin) (s.par .alphaMax)
  | _, _ => 0

/-- One bridge's ramp step (R59): clamped to the limit at once, then ramped toward min(T_b, L). -/
def rampBridge (limit up dn : Nat) (b : Bridge) : Bridge :=
  let sp := min b.setpoint (limit * 256)
  let goal := min b.target limit * 256
  { b with setpoint :=
      if sp < goal then min (sp + up) goal else if goal < sp then max (sp - dn) goal else sp }

/-- The ramp step of an angle update, in RUN and STOPPING, for the bridges below BRIDGES (R59). -/
def rampStep (s : State) : State :=
  if s.running then
    s.withCrg ⟨Tab.ofFn fun b =>
      if b.1 < s.parN .bridges then
        rampBridge s.limit (s.parN .rampUp) (s.parN .rampDn) (s.crg.bridges.get b)
      else s.crg.bridges.get b⟩
  else s

/-- A pending preset applied at a dispatch (R67). -/
def applyPreset (s : State) (b : Bridge) : Bridge :=
  if b.presetPending then
    let a := clamp (b.startValue.getD 0) (s.par .alphaMin) (s.par .alphaMax)
    { b with alphaPrev := a.toNat, integ := (s.par .alphaCenter - a) * 256, presetPending := false }
  else b

/-- I_set_b = floor(S_b / 256) (R61). -/
def Bridge.iSet (b : Bridge) : Nat := b.setpoint / 256

/-- α_cmd = ALPHA_CENTER − floor((CUR_KP × e + Q_b) / 256) (R62). -/
def commandedDelay (s : State) (b : Bridge) (e : Int) : Int :=
  s.par .alphaCenter - (s.par .curKp * e + b.integ) / 256

/-- α_lo = max(ALPHA_MIN, α_prev_b − ALPHA_SLEW_DN, floor_ep) (R63), under the episode floor that the update reads. -/
def delayLowerBound (s : State) (floor : Int) (b : Bridge) : Int :=
  max (max (s.par .alphaMin) (b.alphaPrev - s.par .alphaSlewDn)) floor

/-- Q_b after a dispatch: held when the delay is held by a bound and the error asks for more, else integrated within
±2^28 (R64). -/
def integrate (s : State) (floor : Int) (b : Bridge) (e : Int) : Int :=
  let cmd := commandedDelay s b e
  if (cmd < delayLowerBound s floor b ∧ 0 < e) ∨ (s.par .alphaMax < cmd ∧ e < 0) then b.integ
  else clamp (b.integ + s.par .curKi * e) (-268435456) 268435456

/-- The regulator's answer to a dispatch of a bridge: the bridge after it, whose α_prev is the delay dispatched (R62 to
R65, R67). `floor` is the episode floor as the ramp step of the same update read the governor (R57, R63). -/
def regulate (s : State) (floor : Int) (b : Bridge) (iMeas : Code) : Bridge :=
  let p := applyPreset s b
  let e : Int := p.iSet - iMeas.toInt
  { p with
    alphaPrev := (clamp (commandedDelay s p e) (delayLowerBound s floor p) (s.par .alphaMax)).toNat
    integ := integrate s floor p e }

/-- The start value recorded at an unblock (R66). -/
def unblockStart (s : State) : Nat :=
  match s.dgv.state, s.dgv.copy with
  | .steady, _ => s.parN .alphaStart
  | _, some c => c.resp.restartAlpha
  | _, none => s.parN .alphaStart

/-- The regulator takes an unblock: a preset is pending for every bridge with the start value chosen now (R66). -/
def recordPresets (s : State) : State :=
  s.withCrg ⟨s.crg.bridges.map fun b => { b with presetPending := true, startValue := some (unblockStart s) }⟩

/-- Every working setpoint set to 0 (R58). -/
def zeroSetpoints (s : State) : State :=
  s.withCrg ⟨s.crg.bridges.map fun b => { b with setpoint := 0 }⟩

/-- All four targets set to 0 (R56). -/
def zeroTargets (s : State) : State :=
  s.withCrg ⟨s.crg.bridges.map fun b => { b with target := 0 }⟩

/-- Targets and setpoints brought down to an I_MAX in force (R56). -/
def clampToIMax (s : State) : State :=
  s.withCrg ⟨s.crg.bridges.map fun b =>
    { b with target := min b.target (s.parN .iMax), setpoint := min b.setpoint (s.parN .iMax * 256) }⟩

end Sys2Proof.Machine
end

