-- ==== Sys2Proof/Machine/Tracker.lean ====
section
/-!
DEFINITION. The angle tracker (chapter 2): the vector, the measured angle and magnitude, the judgement of the tracker
state, the loop step or reseat, the half-cycle unbalance, the angle update; and the crossing test every block uses (3.3).
-/

namespace Sys2Proof.Machine

/-! Crossings (R42). -/

/-- An angle is crossed by an update from `prev` to `next`: 1 ≤ (x − prev) mod 23,040 ≤ Δ, and none by a reseat. -/
def crosses (prev next : Nat) (reseat : Bool) (x : Nat) : Bool :=
  !reseat && decide (1 ≤ arc prev x) && decide (arc prev x ≤ arc prev next)

/-- An angle is crossed by an angle update (R42). -/
def AngleUpdate.crosses (u : AngleUpdate) (x : Nat) : Bool := Machine.crosses u.thetaPrev u.thetaNew u.reseat x

/-! The vector (R18). -/

/-- X = 2·VAB_f + VBC_f. -/
def vectorX (f : FilteredSet) : Int := 2 * (f.filtered.get 0).toInt + (f.filtered.get 1).toInt

/-- Y = floor(VBC_f × 28,378 / 16,384). -/
def vectorY (f : FilteredSet) : Int := ((f.filtered.get 1).toInt * 28378) / 16384

/-- The vector has no angle (R21). -/
def isZeroVector (f : FilteredSet) : Bool := vectorX f == 0 && vectorY f == 0

/-- θ_meas of an update: (θ_raw + PHASE_CORR) mod 23,040, or the value held when the vector is zero (R19, R21). -/
def measuredAngle (f : FilteredSet) (s : State) : Nat :=
  if isZeroVector f then s.atr.thetaMeas
  else angleOf (thetaRaw (vectorX f) (vectorY f) + s.par .phaseCorr)

/-- m of an update (R20, R21). -/
def measuredMagnitude (f : FilteredSet) (s : State) : Nat :=
  if isZeroVector f then 0 else magnitude (vectorX f) (vectorY f) s.lNom

/-! The judgement (R26 to R35). -/

/-- What the judgement of an update gives: the state and counts it leaves, whether it reseats, and the notice it raises. -/
structure Verdict where
  state : TrackerState
  seated : Bool
  lockCount : Nat
  holdCount : Nat
  reseat : Bool
  notice : Option Source
  deriving DecidableEq, Repr

/-- The judgement in SEARCH without a request (R26, R28). `strong` is m ≥ m_acq, `weak` is m < M_LOSS, both as R26 has them. -/
def judgeSearch (a : Atr) (strong weak : Bool) (lockErr lockLimit : Nat) (e : Int) : Verdict :=
  if !a.seated then
    if strong then ⟨.search, true, a.lockCount, a.holdCount, true, none⟩
    else ⟨.search, false, 0, a.holdCount, false, none⟩
  else if weak then ⟨.search, false, 0, a.holdCount, false, none⟩
  else if strong ∧ e.natAbs ≤ lockErr then
    if lockLimit ≤ a.lockCount + 1 then ⟨.locked, true, 0, a.holdCount, false, some .trackLocked⟩
    else ⟨.search, true, a.lockCount + 1, a.holdCount, false, none⟩
  else ⟨.search, true, 0, a.holdCount, false, none⟩

/-- The judgement in LOCKED (R29); a zero vector goes to HOLD whatever M_LOSS is (R21). -/
def judgeLocked (a : Atr) (weak zero freeze : Bool) : Verdict :=
  if weak || zero || freeze then ⟨.hold, a.seated, a.lockCount, 0, false, some .trackHold⟩
  else ⟨.locked, a.seated, a.lockCount, a.holdCount, false, none⟩

/-- The judgement in HOLD (R30, R31). -/
def judgeHold (a : Atr) (strong freeze : Bool) (holdLimit : Nat) : Verdict :=
  if !strong then
    if holdLimit ≤ a.holdCount + 1 then ⟨.lost, a.seated, a.lockCount, a.holdCount + 1, false, some .trackLost⟩
    else ⟨.hold, a.seated, a.lockCount, a.holdCount + 1, false, none⟩
  else if freeze then ⟨.hold, a.seated, a.lockCount, 0, false, none⟩
  else ⟨.locked, a.seated, a.lockCount, 0, false, some .trackLocked⟩

/-- The judgement in LOST (R32). -/
def judgeLost (a : Atr) (strong : Bool) : Verdict :=
  if strong then ⟨.search, true, 0, a.holdCount, true, none⟩
  else ⟨.lost, a.seated, a.lockCount, a.holdCount, false, none⟩

/-- The judgement of an update: a pending reseat request first (R35), then the state the tracker holds. -/
def judgeTracker (a : Atr) (freeze strong weak zero : Bool) (lockErr lockLimit holdLimit : Nat) (e : Int) : Verdict :=
  if a.reseatRequest then ⟨.search, strong, 0, a.holdCount, strong, none⟩
  else
    match a.state with
    | .search => judgeSearch a strong weak lockErr lockLimit e
    | .locked => judgeLocked a weak zero freeze
    | .hold => judgeHold a strong freeze holdLimit
    | .lost => judgeLost a strong

/-! The loop step (R23, R24, R27). -/

/-- W after a tracking step: clamp(W + floor(TRACK_KI × e / 256), 13,271, 19,169) (R23). -/
def trackW (ki : Int) (w : Nat) (e : Int) : Nat := (clamp (w + ki * e / 256) 13271 19169).toNat

/-- The advance of a tracking step: clamp(W + TRACK_KP × e, 0, 2 × W) (R23). -/
def trackAdvance (kp : Int) (w : Nat) (e : Int) : Nat := (clamp (w + kp * e) 0 (2 * w)).toNat

/-- P advanced, modulo one cycle in 1/256 au (R23, R24). -/
def advanceP (p adv : Nat) : Nat := (p + adv) % 5898240

/-- P and W after an update whose judgement is given (R23, R24, R27). -/
def loopStep (s : State) (v : Verdict) (thetaMeas : Nat) (e : Int) : Nat × Nat :=
  if v.reseat then (thetaMeas * 256, s.wNom)
  else
    match v.state with
    | .search | .locked =>
      let w := trackW (s.par .trackKi) s.atr.w e
      (advanceP s.atr.p (trackAdvance (s.par .trackKp) w e), w)
    | .hold | .lost => (advanceP s.atr.p s.atr.w, s.atr.w)

/-! The half-cycle unbalance (R36). -/

/-- The running pair with an update's m taken in. -/
def takeM (pair : Option (Nat × Nat)) (m : Nat) : Nat × Nat :=
  match pair with
  | none => (m, m)
  | some (lo, hi) => (min lo m, max hi m)

/-- The running pair and u_last after an update (R36). -/
def halfCycle (pair : Option (Nat × Nat)) (uLast m prev next : Nat) (reseat : Bool) : Option (Nat × Nat) × Nat :=
  let t := takeM pair m
  if reseat then (some (m, m), uLast)
  else if crosses prev next reseat 0 || crosses prev next reseat 11520 then (some (m, m), t.2 - t.1)
  else (some t, uLast)

/-! The update (R17). -/

/-- The angle update of a filtered set, from the judgement and the loop step (R17). -/
def angleUpdateOf (f : FilteredSet) (s : State) (v : Verdict) (pw : Nat × Nat) (e : Int) (m uLast : Nat) : AngleUpdate :=
  ⟨s.atr.p / 256, pw.1 / 256, m, if v.reseat then 0 else e, pw.2, v.state, v.reseat, uLast, f⟩

/-- The strong test of an update, m ≥ m_acq; a zero vector is never strong (R21, log 15). -/
def isStrong (f : FilteredSet) (s : State) : Bool :=
  !isZeroVector f && decide (s.mAcq ≤ measuredMagnitude f s)

/-- The weak test of an update, m < M_LOSS (R26, R29). -/
def isWeak (f : FilteredSet) (s : State) : Bool := decide (measuredMagnitude f s < s.parN .mLoss)

/-- The tracking error of an update against the estimate before it (R22). -/
def trackingError (f : FilteredSet) (s : State) : Int :=
  wrapAngle ((measuredAngle f s : Int) - (s.atr.p / 256 : Nat))

/-- The judgement of a filtered set's update. -/
def verdictOf (f : FilteredSet) (s : State) : Verdict :=
  judgeTracker s.atr s.dgv.freeze (isStrong f s) (isWeak f s) (isZeroVector f) (s.parN .lockErr) (s.parN .lockCount)
    (s.parMs .holdLimit) (trackingError f s)

/-- The tracker takes a filtered set: one tracker update, the angle update published, its notice raised (R17). The notice is
raised here, before the notices that other blocks raise at the same update; R155 states no order between them, and this one
is the model's choice (log 27). -/
def trackerUpdate (f : FilteredSet) (s : State) : State :=
  let v := verdictOf f s
  let e := trackingError f s
  let m := measuredMagnitude f s
  let pw := loopStep s v (measuredAngle f s) e
  let h := halfCycle s.atr.running s.atr.uLast m (s.atr.p / 256) (pw.1 / 256) v.reseat
  let u := angleUpdateOf f s v pw e m h.2
  occurIf v.notice (s.withAtr { s.atr with
    thetaMeas := measuredAngle f s, m := m, p := pw.1, w := pw.2, e := u.e, state := v.state, seated := v.seated
    lockCount := v.lockCount, holdCount := v.holdCount, reseatRequest := false, running := h.1, uLast := h.2
    last := some u })

end Sys2Proof.Machine
end

