-- ==== Sys2Proof/Machine/Firing.lean ====
section
/-!
DEFINITION. The firing list (chapter 5): entries, their crossings in life order, window samples, the judgement at notch
close, reference averages, retirement, the close at a block, the union of block reasons as it is taken. A retirement that asks for a halt answers the slot beside the
state.
-/

namespace Sys2Proof.Machine

/-! Entries (R72). -/

/-- A new entry of slot `k` with base angle `base` (R47, R72). -/
def newEntry (s : State) (k : Fin 24) (b : Fin 4) (pair base alpha : Nat) (iMeas : Code) (iSet : Nat) : Entry :=
  let f : Int := base + alpha
  { slot := k, bridge := b, pair := pair, alpha := alpha
    fire := angleOf f
    refOpen := angleOf (f - s.par .guard - s.par .refWidth)
    refClose := angleOf (f - s.par .guard)
    gateOff := angleOf (f + s.par .gateWidth)
    notchClose := angleOf (f + s.par .notchWidth)
    config := s.ssq.config.get k
    iMeas := iMeas, iSet := iSet
    refArea := 0, refSamples := 0, notchArea := 0, notchSamples := 0
    disturbed := false, drive := false, state := .waiting, outcome := none, episodeMark := false, doneTime := 0 }

/-! Judgement and reference averages (R80, R82). -/

/-- The confirmation threshold max(a_min, floor(RefAvg_b × CONF_RATIO / 16)) (R80). -/
def confirmThreshold (s : State) (e : Entry) (avg : Nat) : Nat :=
  max e.config.aMin.toNat (avg * s.parN .confRatio / 16)

/-- The outcome of an entry at its notch close (R80). -/
def judgeNotch (s : State) (u : AngleUpdate) (e : Entry) (avg : Nat) : RetireOutcome :=
  if e.disturbed ∨ s.dgv.state = .episode ∨ u.state ≠ .locked then .indeterminate
  else if confirmThreshold s e avg ≤ e.notchArea then .confirmed
  else .misfire

/-- RefAvg_b after a confirmation with area `a` (R82). -/
def averageAfter (s : State) (avg a : Nat) : Nat :=
  if avg < a then avg + (a - avg) / 2 ^ s.parN .refavgUpShift else avg - (avg - a) / 2 ^ s.parN .refavgDnShift

/-! Crossings (R73 to R76, R80). -/

/-- WAITING crosses its reference open (R74). -/
def passRefOpen (x : Nat) (e : Entry) : Entry :=
  if e.state = .waiting ∧ e.refOpen = x then { e with state := .reference, refArea := 0, refSamples := 0 } else e

/-- REFERENCE crosses its reference close (R75). -/
def passRefClose (x : Nat) (e : Entry) : Entry :=
  if e.state = .reference ∧ e.refClose = x then
    { e with state := .armed, disturbed := decide (e.config.refLimit.toNat < e.refArea) }
  else e

/-- ARMED crosses its fire angle (R76). -/
def passFire (x : Nat) (e : Entry) : Entry :=
  if e.state = .armed ∧ e.fire = x then
    { e with state := .conducting, notchArea := 0, notchSamples := 0, drive := true }
  else e

/-- An entry whose drive is ON crosses its gate-off (R76). -/
def passGateOff (x : Nat) (e : Entry) : Entry :=
  if e.drive ∧ e.gateOff = x then { e with drive := false } else e

/-- CONDUCTING crosses its notch close: judged, and a confirmation moves the bridge's average (R80, R82). -/
def passNotchClose (s : State) (u : AngleUpdate) (x : Nat) (avg : Tab Nat 4) (e : Entry) : Entry × Tab Nat 4 :=
  if e.state = .conducting ∧ e.notchClose = x then
    let o := judgeNotch s u e (avg.get e.bridge)
    ({ e with state := .done, outcome := some o, episodeMark := s.dgv.state == .episode, doneTime := u.set.count },
     if o = .confirmed then avg.set e.bridge (averageAfter s (avg.get e.bridge) e.notchArea) else avg)
  else (e, avg)

/-- One entry at a path point, its crossings in life order (R73). -/
def passEntry (s : State) (u : AngleUpdate) (x : Nat) (avg : Tab Nat 4) (e : Entry) : Entry × Tab Nat 4 :=
  passNotchClose s u x avg (passGateOff x (passFire x (passRefClose x (passRefOpen x e))))

/-- Every entry at a path point, head first (R73). -/
def passEntries (s : State) (u : AngleUpdate) (x : Nat) : Tab Nat 4 → List Entry → List Entry × Tab Nat 4
  | avg, [] => ([], avg)
  | avg, e :: rest =>
    let r := passEntry s u x avg e
    let t := passEntries s u x r.2 rest
    (r.1 :: t.1, t.2)

/-- The firing list at a path point (R73). -/
def firePoint (u : AngleUpdate) (x : Nat) (s : State) : State :=
  let r := passEntries s u x s.fls.refAvg s.fls.list
  s.withFls { s.fls with list := r.1, refAvg := r.2 }

/-! Window samples (R79). -/

/-- A window's area with a sample: both it and its count saturate. -/
def addSample (area sample : Nat) : Nat := min 16777215 (area + sample)

/-- The sample of an entry: |residual| of its notch channel, capped at 32,767. -/
def sampleOf (u : AngleUpdate) (e : Entry) : Nat :=
  min 32767 (u.set.residual.get e.config.channel.place).toInt.natAbs

/-- An entry's sample of an update (R79). -/
def sampleEntry (u : AngleUpdate) (e : Entry) : Entry :=
  match e.state with
  | .reference =>
    { e with refArea := addSample e.refArea (sampleOf u e), refSamples := satInc 65535 e.refSamples }
  | .conducting =>
    { e with notchArea := addSample e.notchArea (sampleOf u e), notchSamples := satInc 65535 e.notchSamples }
  | _ => e

/-- The samples of an update (R79). -/
def sampleWindows (u : AngleUpdate) (s : State) : State :=
  s.withFls { s.fls with list := s.fls.list.map (sampleEntry u) }

/-! Retirement (R84 to R87). -/

/-- The outcome an entry retires with. -/
def Entry.retireOutcome (e : Entry) : RetireOutcome := e.outcome.getD .cancelled

/-- The areas a retirement records, absent for CANCELLED (R86). -/
def Entry.areas (e : Entry) : Option Areas :=
  if e.retireOutcome = .cancelled then none else some ⟨e.notchArea, e.notchSamples, e.refArea, e.refSamples⟩

/-- The trace record of a retirement (R85). -/
def traceRecordOf (seq : BitVec 16) (e : Entry) : TraceRecord :=
  ⟨seq, e.doneTime, e.slot, e.bridge, e.alpha, e.fire, e.retireOutcome,
    e.areas.map fun a => (a.notch, a.reference), e.iMeas, e.episodeMark⟩

/-- A slot's status part after a retirement (R86). -/
def statusAfter (limit : Nat) (seq : BitVec 16) (e : Entry) (t : SlotStatus) : SlotStatus :=
  { consecutive :=
      match e.retireOutcome with
      | .misfire => if t.consecutive < limit then t.consecutive + 1 else t.consecutive
      | .confirmed => 0
      | _ => t.consecutive
    totalMisfires := if e.retireOutcome = .misfire then satInc 65535 t.totalMisfires else t.totalMisfires
    totalConfirmed := if e.retireOutcome = .confirmed then satInc 4294967295 t.totalConfirmed else t.totalConfirmed
    last := some ⟨seq, e.retireOutcome, e.alpha, e.iMeas, e.iSet, e.areas⟩ }

/-- The head of the list retires, by the steps of R85; the slot is answered when it asks for a halt (R87). -/
def retireHead (s : State) : State × Option (Fin 24) :=
  match s.fls.list with
  | [] => (s, none)
  | e :: rest =>
    let seq := s.fls.seq
    let s1 := appendTrace (traceRecordOf seq e) (s.withFls { s.fls with list := rest, seq := seq + 1 })
    let st := statusAfter (s.parN .misfireLimit) seq e (s1.fls.status.get e.slot)
    let s2 := s1.withFls { s1.fls with status := s1.fls.status.set e.slot st }
    if e.retireOutcome = .misfire then
      (occur .slotMisfire s2, if s.parN .misfireLimit ≤ st.consecutive then some e.slot else none)
    else (s2, none)

/-- At most `n` retirements from the head, whatever the heads' states; the slots that ask for a halt, in order (R90). -/
def retireAll : Nat → State → State × List (Fin 24)
  | 0, s => (s, [])
  | n + 1, s =>
    let r := retireHead s
    let t := retireAll n r.1
    (t.1, (match r.2 with | some k => [k] | none => []) ++ t.2)

/-! The close (R89, R90). -/

/-- An entry closed by a block; one already DONE keeps its outcome (R89). -/
def closeEntry (mark : Bool) (now : Stamp) (e : Entry) : Entry :=
  match e.state with
  | .done => e
  | .conducting =>
    { e with state := .done, drive := false, outcome := some .indeterminate, episodeMark := mark, doneTime := now }
  | _ => { e with state := .done, drive := false, outcome := some .cancelled, episodeMark := mark, doneTime := now }

/-- The list closed and retired, blocked YES (R89, R90); the slots that ask for a halt. -/
def closeList (s : State) : State × List (Fin 24) :=
  retireAll s.fls.list.length
    (s.withFls { s.fls with
      blocked := true
      list := s.fls.list.map (closeEntry (s.dgv.state == .episode) s.mfe.count) })

/-! The union of block reasons taken (R66, R88 to R90). -/

/-- A lifted union taken: blocked NO, presets recorded (R66, R88). -/
def takeUnblock (s : State) : State :=
  if !s.union && s.fls.blocked then recordPresets (s.withFls { s.fls with blocked := false }) else s

/-- A risen union taken: blocked YES, the list closed and retired (R89, R90); the slots that ask for a halt. -/
def takeClose (s : State) : State × List (Fin 24) :=
  if s.union && !s.fls.blocked then closeList s else (s, [])

/-! Hand-offs and what START and a write change. -/

/-- A hand-off appended at the tail; while blocked, it is closed and retired at once (R72, R90). -/
def handOff (e : Entry) (s : State) : State :=
  let t := s.withFls { s.fls with list := s.fls.list ++ [e] }
  if t.fls.blocked then (closeList t).1 else t

/-- Every slot's consecutive misfire count set to 0, every reference average to REFAVG_SEED (R83, R86). -/
def seedFiring (s : State) : State :=
  s.withFls { s.fls with
    status := s.fls.status.map fun t => { t with consecutive := 0 }
    refAvg := Tab.fill 4 (s.parN .refavgSeed) }

/-- Consecutive misfire counts brought down to a MISFIRE_LIMIT in force (R92). -/
def clampMisfires (s : State) : State :=
  s.withFls { s.fls with
    status := s.fls.status.map fun t => { t with consecutive := min t.consecutive (s.parN .misfireLimit) } }

end Sys2Proof.Machine
end

