-- ==== Sys2Proof/Machine/Governor.lean ====
section
/-!
DEFINITION. The disturbance governor (chapter 6): conditions, classification, onset, the copy taking effect, escalation,
expiry, the length limit, clear, recovery, and the end of an episode with the run. A step that asks the run controller to
halt answers the cause beside the state; the run controller takes it when the governor's event is over (log 5).
-/

namespace Sys2Proof.Machine

/-! Conditions (R95). -/

/-- |ΔW|, the frequency word of an update against W_nom. -/
def deltaW (s : State) (u : AngleUpdate) : Nat := ((u.w : Int) - s.wNom).natAbs

/-- The disturbance condition D. -/
def disturbanceD (s : State) (u : AngleUpdate) : Bool :=
  decide (u.m < s.parN .mSag) || decide (s.parN .mSwell < u.m) || decide (s.parN .eJump ≤ u.e.natAbs)
    || decide (s.parN .wBand < deltaW s u)

/-- m lies in M_SAG + M_HYST..M_SWELL − M_HYST (R95, R139). -/
def clearMagnitude (s : State) (m : Nat) : Bool :=
  decide (s.parN .mSag + s.parN .mHyst ≤ m) && decide (m + s.parN .mHyst ≤ s.parN .mSwell)

/-- The clear condition C. -/
def clearC (s : State) (u : AngleUpdate) : Bool :=
  clearMagnitude s u.m && decide (2 * u.e.natAbs < s.parN .eJump) && decide (deltaW s u ≤ s.parN .wBand)
    && (u.state == .locked || (u.state == .hold && s.dgv.freeze))

/-! Kind and band (R97). -/

/-- The classification of an update: the first kind, in rank order, whose test it meets. -/
def classify (s : State) (u : AngleUpdate) : Kind :=
  if u.m < s.parN .mLoss then .loss
  else if u.m < s.parN .mSag then (if s.parN .unbalTh ≤ u.uLast then .sagAsym else .sagSym)
  else if s.parN .mSwell < u.m then .swell
  else if s.parN .eJump ≤ u.e.natAbs then .phaseJump
  else .freqDev

/-- The band that the formula of a kind gives from extremes. -/
def bandOf (k : Kind) (x : Extremes) : Nat :=
  match k with
  | .loss | .sagAsym | .sagSym => min 7 ((4096 - x.mMin) / 512)
  | .swell => min 7 ((x.mMax - 4096) / 128)
  | .phaseJump => min 7 (x.eMax / 320)
  | .freqDev => min 7 (x.dwMax / 147)

/-- An update's own values as extremes. -/
def extremesOf (s : State) (u : AngleUpdate) : Extremes := ⟨u.m, u.m, u.e.natAbs, deltaW s u⟩

/-- Extremes with an update taken in; an empty set starts from it (R96, R104). -/
def widen (x : Option Extremes) (y : Extremes) : Extremes :=
  match x with
  | none => y
  | some x => ⟨min x.mMin y.mMin, max x.mMax y.mMax, max x.eMax y.eMax, max x.dwMax y.dwMax⟩

/-! The history (R114). -/

/-- The history with a record added as the newest, at most 16 held. -/
def pushHistory (h : List HistoryRecord) (r : HistoryRecord) : List HistoryRecord := (r :: h).take Config.historySize

/-- The newest record changed. -/
def changeNewest (f : HistoryRecord → HistoryRecord) : List HistoryRecord → List HistoryRecord
  | [] => []
  | r :: rest => f r :: rest

/-- The newest record changed, if it is ONGOING (R114: records that are not do not change). -/
def changeOngoing (f : HistoryRecord → HistoryRecord) (s : State) : State :=
  s.withDgv { s.dgv with
    history := changeNewest (fun r => if r.outcome = .ongoing then f r else r) s.dgv.history }

/-- A record closed at a conversion count (R99, R109, R113). -/
def closeRecord (outcome : HistoryOutcome) (now : Stamp) (r : HistoryRecord) : HistoryRecord :=
  { r with outcome := outcome, duration := some (now - r.start) }

/-- How many history records start within REPEAT_WINDOW of an onset (R99). -/
def recordsInWindow (s : State) (now : Stamp) : Nat :=
  s.dgv.history.countP fun r => decide (elapsed now r.start < s.parMs .repeatWindow)

/-! The episode block and the copy (R100, R101, R103). -/

/-- The episode block is raised, and the record's blocked flag set (R101). -/
def raiseBlock (s : State) : State :=
  changeOngoing (fun r => { r with blocked := true }) (s.withDgv { s.dgv with block := true })

/-- A governing copy takes effect (R100, R103). `renew` says that the copy it replaces already named RESEAT in this
episode. -/
def takeCopy (c : GoverningCopy) (renew : Bool) (s : State) : State × Option HaltCause :=
  let s1 := changeOngoing (fun r => { r with entry := c.ix })
    (s.withDgv { s.dgv with copy := some c, freeze := c.resp.mode == .freeze })
  let s2 := if c.resp.action = .block ∨ c.resp.mode = .reseat then raiseBlock s1 else s1
  let s3 := if c.resp.mode = .reseat ∧ !renew then s2.withAtr { s2.atr with reseatRequest := true } else s2
  (s3, if c.resp.action = .trip then some (.response c.ix) else none)

/-- The search of an onset or escalation: its result, the used mark set (R122 to R126), the copy taken (R100). -/
def searchAndTake (k : Kind) (band : Nat) (renew : Bool) (s : State) : State × Option HaltCause :=
  let c := searchResult k band s
  takeCopy c renew (markEntry c.ix (fun m => { m with used := true }) s)

/-! Onset (R98, R99). -/

/-- Counts and extremes of disturbed updates emptied. -/
def clearRun (s : State) : State := s.withDgv { s.dgv with dCount := 0, runExtremes := none }

/-- The repeat test has tripped: the new record closed, the governor in STEADY (R99). -/
def tripRepeat (s : State) : State × Option HaltCause :=
  let s1 := changeOngoing (fun r => { r with outcome := .tripped, entry := .none, duration := some 0 }) s
  let s2 := occur .episodeOnset s1
  (clearRun (s2.withDgv { s2.dgv with
    state := .steady, copy := none, kind := none, rideOut := false, recovery := 0 }), some .repeated)

/-- An onset at an angle update (R98). -/
def onset (u : AngleUpdate) (s : State) : State × Option HaltCause :=
  let x := s.dgv.runExtremes.getD (extremesOf s u)
  let k := classify s u
  let band := bandOf k x
  let rec0 : HistoryRecord := ⟨s.dgv.nextNumber, u.set.count, k, k, band, .none, false, false, .ongoing, none⟩
  let s1 := s.withDgv { s.dgv with
    history := pushHistory s.dgv.history rec0, nextNumber := s.dgv.nextNumber + 1 }
  if s.parN .repeatMax < recordsInWindow s1 u.set.count then tripRepeat s1
  else
    let s2 := s1.withDgv { s1.dgv with
      state := .episode, kind := some k, band := band, extremes := some x, start := u.set.count, expired := false
      block := false, cCount := 0, recovery := 0, dCount := 0, runExtremes := none, rideOut := true }
    let r := searchAndTake k band false s2
    (occur .episodeOnset r.1, r.2)

/-! The steps of an update in EPISODE (R104). -/

/-- The copy in force names RESEAT. -/
def copyReseats (s : State) : Bool :=
  match s.dgv.copy with
  | some c => c.resp.mode == .reseat
  | none => false

/-- Step 2: kind and band judged, and a re-search where they rise (R105). -/
def escalate (u : AngleUpdate) (s : State) : State × Option HaltCause :=
  let old := s.dgv.kind.getD .freqDev
  let seen := classify s u
  let k := if disturbanceD s u ∧ seen.rank < old.rank then seen else old
  let band := max s.dgv.band (bandOf k (s.dgv.extremes.getD (extremesOf s u)))
  if k ≠ old ∨ s.dgv.band < band then
    let s1 := changeOngoing (fun r => { r with kind := k, band := band })
      (s.withDgv { s.dgv with kind := some k, band := band })
    let r := searchAndTake k band (copyReseats s1) s1
    (occur .episodeEscalate r.1, r.2)
  else (s, none)

/-- The elapsed time of the open episode at an update (R106). -/
def episodeElapsed (u : AngleUpdate) (s : State) : Nat := elapsed u.set.count s.dgv.start

/-- The hold of the copy in force has run out and has not acted (R106). -/
def holdDue (u : AngleUpdate) (s : State) : Bool :=
  match s.dgv.copy with
  | some c => !s.dgv.expired && decide (c.resp.holdMs * Config.updatesPerMs ≤ episodeElapsed u s)
  | none => false

/-- The hold expires (R106). -/
def expire (s : State) : State × Option HaltCause :=
  let s1 := changeOngoing (fun r => { r with expired := true }) (s.withDgv { s.dgv with expired := true })
  match s.dgv.copy with
  | some c =>
    match c.resp.onExpiry with
    | .trip => (s1, some (.expiry c.ix))
    | .block => (occur .episodeExpired (raiseBlock s1), none)
  | none => (s1, none)

/-- The episode has lasted EPISODE_MAX (R107). -/
def tooLong (u : AngleUpdate) (s : State) : Bool := decide (s.parMs .episodeMax ≤ episodeElapsed u s)

/-- The clear (R109): the record closed as RODE, the rode mark, RECOVERY with t = 0, freeze, block and a reseat request not
yet taken withdrawn. -/
def clearEpisode (u : AngleUpdate) (s : State) : State :=
  let s1 := changeOngoing (closeRecord .rode u.set.count) s
  let s2 := markEntry (match s.dgv.copy with | some c => c.ix | none => .none) (fun m => { m with rode := true }) s1
  let s3 := s2.withAtr { s2.atr with reseatRequest := false }
  occur .episodeClear (s3.withDgv { s3.dgv with
    state := .recovery, recovery := 0, freeze := false, block := false, cCount := 0, extremes := none })

/-- The clear of an update that may itself have raised the episode block: what has risen closes the list at once (R89, R101),
before the clear lifts it. Of the misfire halts that the close asks for, the first is answered beside the state; the others
would be later causes (R145). -/
def takeClear (u : AngleUpdate) (s : State) : State × Option HaltCause :=
  let c := takeClose s
  (clearEpisode u c.1, c.2.head?.map .misfire)

/-- Step 5: the C count advanced (R108). -/
def countC (u : AngleUpdate) (s : State) : State :=
  s.withDgv { s.dgv with cCount := if clearC s u then s.dgv.cCount + 1 else 0 }

/-- Steps 3 to 5 of an update in EPISODE (R104, R106 to R109). -/
def judgeEpisode (u : AngleUpdate) (s : State) : State × Option HaltCause :=
  let r := if holdDue u s then expire s else (s, none)
  if r.2.isSome then r
  else if tooLong u r.1 then (r.1, some .episodeLong)
  else
    let t := countC u r.1
    if t.parN .clearCount ≤ t.dgv.cCount then takeClear u t else (t, none)

/-- An update in EPISODE (R104). -/
def episodeStep (u : AngleUpdate) (s : State) : State × Option HaltCause :=
  let s1 := s.withDgv { s.dgv with extremes := some (widen s.dgv.extremes (extremesOf s u)) }
  let r := escalate u s1
  if r.2.isSome then r else judgeEpisode u r.1

/-! An update in STEADY and RECOVERY (R96). -/

/-- Step 1: the D count and the run extremes (R96). -/
def countD (u : AngleUpdate) (s : State) : State :=
  if disturbanceD s u then
    s.withDgv { s.dgv with
      dCount := s.dgv.dCount + 1, runExtremes := some (widen s.dgv.runExtremes (extremesOf s u)) }
  else clearRun s

/-- ramp_ms × 20 of the copy held in RECOVERY (R111). -/
def rampLength (s : State) : Nat :=
  match s.dgv.copy with
  | some c => c.resp.rampMs * Config.updatesPerMs
  | none => 0

/-- The recovery ends: STEADY, the copy dropped, RIDE_OUT released (R111). -/
def endRecovery (s : State) : State :=
  occur .recoveryDone (s.withDgv { s.dgv with
    state := .steady, copy := none, kind := none, rideOut := false, recovery := 0 })

/-- Step 3: the recovery count advanced (R111). -/
def recoveryStep (s : State) : State :=
  let t := s.withDgv { s.dgv with recovery := s.dgv.recovery + 1 }
  if rampLength t ≤ t.dgv.recovery then endRecovery t else t

/-- An update in STEADY or RECOVERY (R96). -/
def quietStep (u : AngleUpdate) (s : State) : State × Option HaltCause :=
  let t := countD u s
  if t.parN .onsetCount ≤ t.dgv.dCount then onset u t
  else if t.dgv.state = .recovery then (recoveryStep t, none)
  else (t, none)

/-- The governor takes an angle update, in RUN and STOPPING (R94). -/
def governorStep (u : AngleUpdate) (s : State) : State × Option HaltCause :=
  if s.running then (if s.dgv.state = .episode then episodeStep u s else quietStep u s) else (s, none)

/-! The end of an episode with the run (R113). -/

/-- The trip record's reason makes the episode's end TRIPPED (R113). -/
def tripsEpisode : HaltCause → Bool
  | .response _ => true
  | .expiry _ => true
  | .episodeLong => true
  | .repeated => true
  | _ => false

/-- The open episode ended as TRIPPED: the run state is HALT with one of the governor's reasons on record (R113). -/
def endsTripped (s : State) : Bool :=
  s.rct.state == .halt && (match s.rct.trip with | some t => tripsEpisode t.cause | none => false)

/-- The governor takes a run-state change to STANDBY or HALT (R113). -/
def endEpisode (s : State) : State :=
  match s.dgv.state with
  | .steady => clearRun s
  | st =>
    let s1 :=
      if st = .episode then
        let s0 := changeOngoing (closeRecord (if endsTripped s then .tripped else .ended) s.mfe.count) s
        if endsTripped s then
          markEntry (match s.dgv.copy with | some c => c.ix | none => .none) (fun m => { m with tripped := true }) s0
        else s0
      else s
    s1.withDgv { s1.dgv with
      state := .steady, copy := none, kind := none, rideOut := false, freeze := false, block := false
      dCount := 0, cCount := 0, runExtremes := none, extremes := none, recovery := 0 }

end Sys2Proof.Machine
end

