-- ==== Sys2Proof/Machine/Measure.lean ====
section
/-!
DEFINITION. The measurement front end and the fundamental filter bank within one conversion set (chapter 1): the count,
clips, trims, the biquad cascades, residuals and the filtered set.
-/

namespace Sys2Proof.Machine

/-- The raw codes in channel order. -/
def rawTab (r : RawSet) : Tab Code 8 := ⟨[r.vab, r.vbc, r.vca, r.idc0, r.idc1, r.idc2, r.idc3, r.vdc], rfl⟩

/-- A raw value is a clip: −32,768 or 32,767 (R2). -/
def isClip (c : Code) : Bool := c.toInt == -32768 || c.toInt == 32767

/-- The trimmed value: sat16(floor(((raw − offset) × gain + 4096) / 8192)), then negated when invert is YES, a −32,768
becoming 32,767 (R3). -/
def trimValue (t : Trim) (raw : Code) : Code :=
  let v := sat16 (((raw.toInt - t.offset.toInt) * t.gain.toNat + 4096) / 8192)
  toCode (if t.invert then -v else v)

/-- The front end completes a conversion set (R1, R2, R3, R6). ADC_CLIP is raised here, before every other notice and trace
record of the set; R155 and R167 state no order between them, and this one is the model's choice (log 27). -/
def completeSet (raw : RawSet) (s : State) : State :=
  let r := rawTab raw
  let count := s.mfe.count + 1
  let t := s.withMfe { s.mfe with
    count := count
    raw := some r
    clips := Tab.ofFn fun i => if isClip (r.get i) then satInc 65535 (s.mfe.clips.get i) else s.mfe.clips.get i
    trimmed := some ⟨count, Tab.ofFn fun i => trimValue (s.mfe.trims.get i) (r.get i)⟩ }
  if r.list.any isClip then occur .adcClip t else t

/-- One stage's exact sum w (R8). -/
def stageSum (c : Coeffs) (st : StageState) (x0 : Code) : Int :=
  c.b0.toInt * x0.toInt + c.b1.toInt * st.x1.toInt + c.b2.toInt * st.x2.toInt
    - c.a1.toInt * st.y1.toInt - c.a2.toInt * st.y2.toInt

/-- One stage's output before the saturation (R8). -/
def stageQuotient (c : Coeffs) (st : StageState) (x0 : Code) : Int := (stageSum c st x0 + 8192) / 16384

/-- One stage's output (R8). -/
def stageOut (c : Coeffs) (st : StageState) (x0 : Code) : Code := toCode (stageQuotient c st x0)

/-- One stage's state shifted (R8). -/
def stageShift (c : Coeffs) (st : StageState) (x0 : Code) : StageState := ⟨x0, st.x1, stageOut c st x0, st.y1⟩

/-- A stage saturates (R9). -/
def stageSaturates (c : Coeffs) (st : StageState) (x0 : Code) : Bool :=
  decide (stageQuotient c st x0 < -32768) || decide (32767 < stageQuotient c st x0)

/-- A cascade's three stages taken in order: the states they are left in, the filtered value, and whether any stage
saturates (R7, R8, R9). -/
def runCascade (cs : Tab Coeffs 3) (st : Tab StageState 3) (x : Code) : Tab StageState 3 × Code × Bool :=
  let y0 := stageOut (cs.get 0) (st.get 0) x
  let y1 := stageOut (cs.get 1) (st.get 1) y0
  let y2 := stageOut (cs.get 2) (st.get 2) y1
  (⟨[stageShift (cs.get 0) (st.get 0) x, stageShift (cs.get 1) (st.get 1) y0, stageShift (cs.get 2) (st.get 2) y1], rfl⟩,
   y2,
   stageSaturates (cs.get 0) (st.get 0) x || stageSaturates (cs.get 1) (st.get 1) y0
     || stageSaturates (cs.get 2) (st.get 2) y1)

/-- The residual sat16(trimmed − filtered) (R10). -/
def residualOf (trimmed filtered : Code) : Code := toCode (trimmed.toInt - filtered.toInt)

/-- The channel of one of the three filtered voltages. -/
def voltageChannel (i : Fin 3) : Fin 8 := ⟨i.1, by omega⟩

/-- The channel of a bridge current. -/
def currentChannel (b : Fin 4) : Fin 8 := ⟨3 + b.1, by omega⟩

/-- The filtered set of a trimmed set, from the filtered voltages (R10). -/
def filteredSet (t : TrimmedSet) (filtered : Tab Code 3) (residual : Tab Code 3) : FilteredSet :=
  ⟨t.count, filtered, residual, Tab.ofFn fun b => t.values.get (currentChannel b), t.values.get 7⟩

/-- The filter bank takes a trimmed set and publishes the filtered set (R7 to R10). FILTER_SAT is raised here, before the
notices and trace records of the blocks that take the update; R155 and R167 state no order between them, and this one is the
model's choice (log 27). -/
def filterSet (t : TrimmedSet) (s : State) : State :=
  let v := Tab.ofFn fun i : Fin 3 => t.values.get (voltageChannel i)
  if s.ffb.enabled then
    let outs := Tab.ofFn fun i : Fin 3 => runCascade s.ffb.coeffs (s.ffb.stages.get i) (v.get i)
    let filtered := outs.map (·.2.1)
    let u := s.withFfb { s.ffb with
      stages := outs.map (·.1)
      saturations := Tab.ofFn fun i =>
        if (outs.get i).2.2 then satInc 65535 (s.ffb.saturations.get i) else s.ffb.saturations.get i
      filtered := some (filteredSet t filtered (Tab.ofFn fun i => residualOf (v.get i) (filtered.get i))) }
    if outs.list.any (·.2.2) then occur .filterSat u else u
  else
    s.withFfb { s.ffb with filtered := some (filteredSet t v (Tab.fill 3 0)) }

end Sys2Proof.Machine
end

