-- ==== Sys2Proof/Machine/Run.lean ====
section
/-!
DEFINITION. The run controller's own events (chapter 8): halts and the trip record, every entry to STANDBY, the trimmed-set
check, what an angle update does to the run state and the supervision, and the halts that the firing list's taking of the
union of block reasons asks for (R87 to R90).
-/

namespace Sys2Proof.Machine

/-! Reads. -/

/-- The trimmed current of a bridge in the last trimmed set completed; a free value when no set has completed since the
last reset (R147, log 14). -/
def State.lastCurrent (s : State) (b : Fin 4) : Code :=
  match s.mfe.trimmed with
  | some t => t.values.get (currentChannel b)
  | none => Config.unmeasuredCurrent b.1

/-- The run state is SYNC, RUN or STOPPING: a halt cause acts (R145) and the slot pointer runs (R44). -/
def State.active (s : State) : Bool :=
  match s.rct.state with
  | .sync => true
  | .run => true
  | .stopping => true
  | .standby => false
  | .halt => false

/-! Leaving the running states (R58, R89, R113). -/

/-- The other blocks take a change to STANDBY or HALT: every setpoint 0 (R58) and the governor ends its episode (R113), the
firing list closing before it when the order says so. That the governor takes the change here, before any later crossing of
the same update, is the model's choice, since R113 states no order between the two (log 29). Misfires that a close asks for
are ignored here: the run state has left SYNC, RUN and STOPPING already (R145). -/
def endRun (s : State) : State :=
  endEpisode (if s.order.closeFirst then (takeClose (zeroSetpoints s)).1 else zeroSetpoints s)

/-- The run state and its three counts after a change that sets the counts to 0 (R138, R140, R141, R142, R146). -/
def Rct.enter (r : Rct) (st : RunState) : Rct :=
  { r with state := st, syncTimer := 0, settleCount := 0, stopCount := 0 }

/-- STANDBY is entered, with the notice the entry raises, if it raises one (R140 to R142, R149). -/
def toStandby (src? : Option Source) (s : State) : State :=
  endRun (occurIf src? (s.withRct (s.rct.enter .standby)))

/-! Halts (R145 to R147). -/

/-- The trip record of a cause taken now (R147). -/
def tripRecordOf (c : HaltCause) (s : State) : TripRecord where
  cause := c
  time := s.mfe.count
  left := s.rct.state
  m := s.atr.m
  w := s.atr.w
  currents := Tab.ofFn s.lastCurrent
  episode := s.dgv.kind.map fun k => (k, s.dgv.band)

/-- Entry to HALT (R146): the trip record, the run state and its counts, HALT_ENTERED. -/
def enterHalt (c : HaltCause) (s : State) : State :=
  occur .haltEntered (s.withRct { s.rct.enter .halt with trip := some (tripRecordOf c s) })

/-- A halt cause taken by the run controller: it halts in SYNC, RUN and STOPPING, and is ignored in STANDBY and HALT
(R145). -/
def takeHalt (c : HaltCause) (s : State) : State :=
  if s.active then endRun (enterHalt c s) else s

/-- A halt request taken, if there is one (log 5). -/
def askHalt (c? : Option HaltCause) (s : State) : State :=
  match c? with
  | some c => takeHalt c s
  | none => s

/-- The misfire requests of a close taken, in the order of the retirements (R87). -/
def askMisfires : List (Fin 24) → State → State
  | [], s => s
  | k :: rest, s => askMisfires rest (takeHalt (.misfire k) s)

/-- The union as it stands taken by the firing list and the regulator (R66, R88 to R90). -/
def settle (s : State) : State :=
  let r := takeClose (takeUnblock s)
  askMisfires r.2 r.1

/-! The trimmed-set check (R143). -/

/-- The cause that a trimmed set gives, if it gives one: the lowest bridge above I_TRIP, else VDC above V_TRIP. -/
def tripCauseOf (t : TrimmedSet) (s : State) : Option HaltCause :=
  let high := (List.finRange 4).find? fun b =>
    decide (b.1 < s.parN .bridges) && decide (s.par .iTrip < (t.values.get (currentChannel b)).toInt)
  match high with
  | some b => some (.overcurrent b)
  | none => if s.par .vTrip < (t.values.get 7).toInt then some .overvoltage else none

/-- The run controller checks the last trimmed set (R143). -/
def tripCheck (s : State) : State :=
  match s.mfe.trimmed with
  | some t => askHalt (tripCauseOf t s) s
  | none => s

/-! An angle update (R139, R140, R142, R150, R151). -/

/-- The supervision count advanced (R150). -/
def countSupervision (s : State) : State :=
  s.withRct { s.rct with supervision := satInc Config.supervisionMax s.rct.supervision }

/-- The supervision lapse is due (R151). -/
def lapseDue (s : State) : Bool :=
  s.rct.state == .run && decide (s.par .supervision ≠ 0) && !s.rct.lapsed
    && decide (s.parMs .supervision ≤ s.rct.supervision)

/-- The supervision lapses: all four targets 0, the run state stays (R151). -/
def lapse (s : State) : State :=
  occur .supervisionLapse (zeroTargets (s.withRct { s.rct with lapsed := true }))

/-- An update in SYNC qualifies (R139). -/
def syncQualifies (u : AngleUpdate) (s : State) : Bool :=
  u.state == .locked && clearMagnitude s u.m && !s.ssq.pendingSync

/-- RUN is entered from SYNC (R139). -/
def enterRun (s : State) : State :=
  occur .runEntered (s.withRct { s.rct with state := .run, syncTimer := 0, settleCount := 0 })

/-- The settle count has reached SYNC_SETTLE (R139). -/
def settled (s : State) : Bool := decide (s.parN .syncSettle ≤ s.rct.settleCount)

/-- The sync timer has reached SYNC_TIMEOUT × 20 (R140). -/
def syncTimedOut (s : State) : Bool := decide (s.parMs .syncTimeout ≤ s.rct.syncTimer)

/-- What the timer and the settle count call for: RUN first, else the timeout (R139, R140). -/
def judgeSync (s : State) : State :=
  if settled s then enterRun s else if syncTimedOut s then toStandby (some .syncFailed) s else s

/-- An update in SYNC (R139, R140). -/
def syncStep (u : AngleUpdate) (s : State) : State :=
  judgeSync (s.withRct { s.rct with
    syncTimer := s.rct.syncTimer + 1
    settleCount := if syncQualifies u s then s.rct.settleCount + 1 else 0 })

/-- An update in STOPPING qualifies: every setpoint 0, every configured bridge's current below I_ZERO (R142). -/
def stopQualifies (u : AngleUpdate) (s : State) : Bool :=
  s.crg.bridges.list.all (fun b => b.setpoint == 0)
    && (List.finRange 4).all fun b =>
      !decide (b.1 < s.parN .bridges) || decide ((u.set.idc.get b).toInt < s.par .iZero)

/-- A stop count of 20 ends the stop (R142). -/
def judgeStop (s : State) : State := if 20 ≤ s.rct.stopCount then toStandby (some .stopDone) s else s

/-- An update in STOPPING (R142). -/
def stopStep (u : AngleUpdate) (s : State) : State :=
  judgeStop (s.withRct { s.rct with stopCount := if stopQualifies u s then s.rct.stopCount + 1 else 0 })

/-- The run controller takes an angle update. -/
def runStep (u : AngleUpdate) (s : State) : State :=
  let t := countSupervision s
  match t.rct.state with
  | .sync => syncStep u t
  | .run => if lapseDue t then lapse t else t
  | .stopping => stopStep u t
  | .standby => t
  | .halt => t

/-! Requests of the run controller. -/

/-- What an owner answers a request: a reply now, or the reply at the end of the load (R178, R191). -/
inductive Answer where
  | reply (code : ResultCode) (payload : List Byte)
  | atLoadEnd
  deriving DecidableEq, Repr

/-- OK without a payload. -/
def Answer.ok : Answer := .reply .ok []

/-- A refusal: the code without a payload. -/
def Answer.refuse (c : ResultCode) : Answer := .reply c []

/-- The first shift of a configured bridge that is not above the shift before it (R41). -/
def shiftFault (s : State) : Option ParamId :=
  if 2 ≤ s.parN .bridges ∧ s.par .shift1 ≤ s.par .shift0 then some .shift1
  else if 3 ≤ s.parN .bridges ∧ s.par .shift2 ≤ s.par .shift1 then some .shift2
  else if 4 ≤ s.parN .bridges ∧ s.par .shift3 ≤ s.par .shift2 then some .shift3
  else none

/-- The first cross check of START that fails, by the parameter it reports (R41, R69, R117, R137, R152). -/
def configFault (s : State) : Option ParamId :=
  match shiftFault s with
  | some p => some p
  | none =>
    if 1920 + s.par .alphaMin < s.par .guard + s.par .refWidth then some .guard
    else if s.par .notchWidth < s.par .gateWidth then some .gateWidth
    else if s.par .alphaMax < s.par .alphaMin then some .alphaMin
    else if s.par .mSag ≤ s.par .mLoss + s.par .mHyst then some .mSag
    else if s.par .mSwell - s.par .mHyst ≤ s.par .mSag + s.par .mHyst then some .mSwell
    else if s.par .iTrip ≤ s.par .iMax then some .iMax
    else none

/-- START accepted (R138): SYNC with its counts 0, setpoints 0, misfire counts 0 and averages seeded, pending sync set. -/
def acceptStart (s : State) : State :=
  let s1 := seedFiring (zeroSetpoints (s.withRct { s.rct with state := .sync, syncTimer := 0, settleCount := 0 }))
  s1.withSsq { s1.ssq with pendingSync := true }

/-- START (R137, R138). -/
def takeStart (s : State) : State × Answer :=
  if s.rct.state ≠ .standby then (s, .refuse .state)
  else if s.saving then (s, .refuse .busy)
  else if s.sst.latch then (s, .refuse .store)
  else if s.rct.tripIn then (s, .refuse .interlock)
  else
    match configFault s with
    | some p => (s, .reply .config [BitVec.ofNat 8 p.info.code])
    | none => (acceptStart s, .ok)

/-- RUN left for STOPPING by a soft stop (R56, R141). -/
def beginStop (s : State) : State := zeroTargets (s.withRct { s.rct with state := .stopping, stopCount := 0 })

/-- STOP with mode SOFT (R141). -/
def takeStopSoft (s : State) : State × Answer :=
  match s.rct.state with
  | .standby => (s, .refuse .state)
  | .halt => (s, .refuse .state)
  | .sync => (toStandby (some .stopDone) s, .ok)
  | .run => (beginStop s, .ok)
  | .stopping => (s, .ok)

/-- STOP with mode IMMEDIATE (R141). -/
def takeStopImmediate (s : State) : State × Answer :=
  if s.active then (toStandby (some .stopDone) s, .ok) else (s, .refuse .state)

/-- CLEAR_HALT (R149). -/
def takeClearHalt (s : State) : State × Answer :=
  if s.rct.state ≠ .halt then (s, .refuse .state)
  else if s.rct.tripIn then (s, .refuse .interlock)
  else (toStandby none s, .ok)

/-! The plant line (R144). -/

/-- TRIP_IN asserted: the reason is present, and SYNC, RUN and STOPPING halt with TRIP_INPUT (R78, R144). -/
def assertTripIn (s : State) : State := takeHalt .tripInput (s.withRct { s.rct with tripIn := true })

/-- TRIP_IN released: the reason is lifted, without a notice (R144). -/
def releaseTripIn (s : State) : State := s.withRct { s.rct with tripIn := false }

end Sys2Proof.Machine
end

