-- ==== Sys2Proof/Machine/Sequencer.lean ====
section
/-!
DEFINITION. The slot sequencer (chapter 3): geometry, what an update has been taken under, the slot pointer at a crossed
dispatch angle, dispatch and pass, pending sync; and the point of the path at which the sequencer and the firing list act.
-/

namespace Sys2Proof.Machine

/-! Geometry (R39). -/

/-- S = 6B. -/
def State.slotCount (s : State) : Nat := 6 * s.parN .bridges

/-- The bridge of a slot, k mod B. -/
def State.slotBridge (s : State) (k : Nat) : Fin 4 := Fin.ofNat 4 (k % s.parN .bridges)

/-- The pair of a slot, floor(k / B). -/
def State.slotPair (s : State) (k : Nat) : Nat := k / s.parN .bridges

/-- SHIFT_b of a bridge. -/
def State.shift (s : State) (b : Fin 4) : Nat :=
  match b with
  | 0 => s.parN .shift0
  | 1 => s.parN .shift1
  | 2 => s.parN .shift2
  | 3 => s.parN .shift3

/-- base_k = (SYNC_OFFSET + p × 3840 + SHIFT_b) mod 23,040. -/
def State.baseAngle (s : State) (k : Nat) : Nat :=
  (s.parN .syncOffset + s.slotPair k * 3840 + s.shift (s.slotBridge k)) % 23040

/-- d_k = (base_k − 1920) mod 23,040. -/
def State.dispatchAngle (s : State) (k : Nat) : Nat := (s.baseAngle k + 21120) % 23040

/-! What an update is taken under. -/

/-- What the sequencer and the regulator have read for the whole of an update, when each of them took it. -/
structure View where
  /-- the run state let the pointer run when the sequencer took the update (R44) -/
  live : Bool
  /-- no block reason was present when the sequencer took the update, and one raised since has not reached it yet (R46,
  R72) -/
  unseen : Bool
  /-- the episode floor as the ramp step of the update read the governor (R57, R63) -/
  floor : Int
  deriving DecidableEq, Repr

/-- What an update taken by both as the state stands is taken under. -/
def State.view (s : State) : View := ⟨s.active, false, s.floorEp⟩

/-! Handling a crossed dispatch angle (R45 to R49). -/

/-- Dispatching is enabled: RUN or STOPPING with no block reason, as the sequencer sees them, and the update LOCKED or HOLD
(R46). -/
def dispatchEnabled (v : View) (u : AngleUpdate) (s : State) : Bool :=
  (v.unseen || (s.running && !s.union)) && (u.state == .locked || u.state == .hold)

/-- Slot `k` dispatched (R47): the regulator answers with the delay, the firing list is handed the entry. -/
def dispatch (v : View) (u : AngleUpdate) (k : Nat) (s : State) : State :=
  let b := s.slotBridge k
  let i := u.set.idc.get b
  let br := regulate s v.floor (s.crg.bridges.get b) i
  let t := s.withCrg ⟨s.crg.bridges.set b br⟩
  handOff (newEntry t (Fin.ofNat 24 k) b (s.slotPair k) (s.baseAngle k) br.alphaPrev i br.iSet) t

/-- The pointer advanced, wrapping from S − 1 to 0 (R45). -/
def advancePointer (k : Nat) (s : State) : State :=
  s.withSsq { s.ssq with pointer := if k + 1 < s.slotCount then k + 1 else 0 }

/-- Slot `k`, which the pointer names, at its dispatch angle: dispatched or passed, then the pointer advances (R45). -/
def handleSlot (v : View) (u : AngleUpdate) (k : Nat) (s : State) : State :=
  advancePointer k (if dispatchEnabled v u s then dispatch v u k s else s)

/-- The lowest slot whose dispatch angle is `x`. -/
def slotAt (s : State) (x : Nat) : Option Nat := (List.range s.slotCount).find? fun k => s.dispatchAngle k == x

/-- Pending sync resolved at a crossed dispatch angle: the pointer loaded, the flag cleared, and an unblock that this makes
taken (R49). -/
def resolveSync (k : Nat) (s : State) : State :=
  takeUnblock (s.withSsq { s.ssq with pointer := k, pendingSync := false })

/-- The sequencer at a point of the path (R44, R45, R49): it judges all the crossings of an update or none. -/
def sequencerPoint (v : View) (u : AngleUpdate) (x : Nat) (s : State) : State :=
  if !v.live then s
  else if s.ssq.pendingSync then
    match slotAt s x with
    | some k => handleSlot v u k (resolveSync k s)
    | none => s
  else if s.dispatchAngle s.ssq.pointer = x ∧ s.ssq.pointer < s.slotCount then handleSlot v u s.ssq.pointer s
  else s

/-- A point of the path: the sequencer first, so that a new entry joins the update at its dispatch angle (R47), then the
firing list (R73). -/
def pathPoint (v : View) (u : AngleUpdate) (x : Nat) (s : State) : State := firePoint u x (sequencerPoint v u x s)

/-- Pending sync set by an update that carries the reseat mark (R48). -/
def takeReseat (u : AngleUpdate) (s : State) : State :=
  if u.reseat then s.withSsq { s.ssq with pendingSync := true } else s

end Sys2Proof.Machine
end

