-- ==== Sys2Proof/Machine/Layouts.lean ====
section
/-!
DEFINITION. The payloads of the replies (R187) in the layouts of R188: status record, trip record, slot, response, history
and notice records, trace header and entries, store state and bad marks.
-/

namespace Sys2Proof.Machine

/-! Absent codes (R188). -/

/-- A kind, FFh when absent. -/
def kindByte (k : Option Kind) : Byte :=
  match k with
  | some k => k.code
  | none => 0xFF

/-- The band that goes with a kind, FFh when the kind is absent. -/
def bandByte (k : Option Kind) (band : Nat) : Byte :=
  match k with
  | some _ => BitVec.ofNat 8 band
  | none => 0xFF

/-- The index of the governing copy, NONE when no copy is held (R132). -/
def State.governingIndex (s : State) : Byte :=
  match s.dgv.copy with
  | some c => entryIxCode c.ix
  | none => 0xFF

/-- The action of the governing copy, FFh when no copy is held (R116). -/
def State.governingAction (s : State) : Byte :=
  match s.dgv.copy with
  | some c => c.resp.action.code
  | none => 0xFF

/-! IDENTIFY, GET_STATUS, GET_TRIP. -/

/-- The fields of IDENTIFY (R181, R187). -/
def identifyBytes (s : State) : List Byte :=
  bytesOf 2 Config.partNumber ++ bytesOf 1 Config.revision ++ bytesOf 1 Config.maxBridges ++ bytesOf 1 Config.tableSize
    ++ bytesOf 2 Config.ringSize ++ [s.lnk.baud.setWidth 8, s.lnk.clksel.setWidth 8]

/-- The eight bytes of one bridge in the status record. -/
def bridgeBytes (s : State) (b : Fin 4) : List Byte :=
  let r := s.crg.bridges.get b
  bytesOf 2 r.target ++ bytesOf 2 r.iSet ++ w16 (s.lastCurrent b) ++ bytesOf 2 r.alphaPrev

/-- The status record, 57 bytes (R184, R188). -/
def statusBytes (s : State) : List Byte :=
  [s.rct.state.code, s.reasonsByte, s.atr.state.code, s.dgv.state.code, kindByte s.dgv.kind,
    bandByte s.dgv.kind s.dgv.band, s.governingAction, s.governingIndex]
  ++ bytesOf 2 s.atr.m ++ bytesOf 2 (centihertz s.atr.w) ++ bytesOf 2 (s.atr.p / 256) ++ bytesOf 2 s.atr.uLast
  ++ bridgeBytes s 0 ++ bridgeBytes s 1 ++ bridgeBytes s 2 ++ bridgeBytes s 3
  ++ [BitVec.ofNat 8 s.fls.list.length, s.trc.state.code] ++ bytesOf 2 s.lnk.errors ++ w32 s.mfe.count ++ [s.storeByte]

/-- The trip record (R147, R187, R188). -/
def tripBytes (t : TripRecord) : List Byte :=
  [haltReasonCode t.cause, haltDetailCode t.cause] ++ w32 t.time ++ [t.left.code] ++ bytesOf 2 t.m ++ bytesOf 2 t.w
  ++ t.currents.list.flatMap w16
  ++ [kindByte (t.episode.map (·.1)), bandByte (t.episode.map (·.1)) ((t.episode.map (·.2)).getD 0)]

/-- The payload of GET_TRIP: the present byte, and the record when there is one (R148, R188). -/
def getTripBytes (s : State) : List Byte :=
  match s.rct.trip with
  | some t => 1 :: tripBytes t
  | none => [0]

/-! Slots, responses, history. -/

/-- The status part of a slot record, 26 bytes (R188). -/
def slotStatusBytes (t : SlotStatus) : List Byte :=
  let flags (l : LastRetirement) : Byte :=
    l.outcome.code ||| (byteOfBool l.areas.isSome <<< 6) ||| (byteOfBool true <<< 7)
  let a (l : LastRetirement) : Areas := l.areas.getD ⟨0, 0, 0, 0⟩
  bytesOf 1 t.consecutive ++ bytesOf 2 t.totalMisfires ++ bytesOf 4 t.totalConfirmed
  ++ (match t.last with
      | some l =>
        w16 l.seq ++ [flags l] ++ bytesOf 2 l.alpha ++ w16 l.iMeas ++ bytesOf 2 l.iSet ++ bytesOf 3 (a l).notch
          ++ bytesOf 2 (a l).notchSamples ++ bytesOf 3 (a l).reference ++ bytesOf 2 (a l).refSamples
      | none => List.replicate 19 0)

/-- The reference average reported with slot `k`: that of the slot's bridge (R83) for the slots 0..S − 1 that R39 defines, and
a free value for the others, which belong to no bridge (log 25). -/
def reportedAverage (s : State) (k : Nat) : Nat :=
  if k < s.slotCount then s.fls.refAvg.get (s.slotBridge k) else Config.strayAverage k

/-- The slot record of READ_SLOTS, 37 bytes (R53, R83, R188). -/
def slotBytes (s : State) (k : Nat) : List Byte :=
  BitVec.ofNat 8 k :: (slotConfigBytes (s.ssq.config.get (Fin.ofNat 24 k)) ++ slotStatusBytes (s.fls.status.get (Fin.ofNat 24 k))
    ++ bytesOf 3 (reportedAverage s k))

/-- The marks byte (R188). -/
def marksByte (m : Marks) : Byte :=
  byteOfBool m.used ||| (byteOfBool m.rode <<< 1) ||| (byteOfBool m.tripped <<< 2)

/-- An entry of READ_RESPONSES, 15 bytes (R133, R188). -/
def responseBytes (s : State) (i : Nat) : List Byte :=
  BitVec.ofNat 8 i :: (responseRecBytes (recOfResponse (s.rtb.entries.get (Fin.ofNat 32 i)))
    ++ [marksByte (s.rtb.marks.get (Fin.ofNat 32 i))])

/-- A history record, 13 bytes (R188). -/
def historyBytes (r : HistoryRecord) : List Byte :=
  w16 r.number ++ w32 r.start
  ++ [r.onsetKind.code ||| (r.kind.code <<< 4),
      BitVec.ofNat 8 r.band ||| (byteOfBool r.expired <<< 3) ||| (byteOfBool r.blocked <<< 4) ||| (r.outcome.code <<< 5),
      entryIxCode r.entry]
  ++ w32 (r.duration.getD 0)

/-! Filter, trims, notices. -/

/-- The payload of READ_FILTER (R14, R187). -/
def filterBytes (s : State) : List Byte :=
  s.ffb.coeffs.list.flatMap (fun c => w16 c.b0 ++ w16 c.b1 ++ w16 c.b2 ++ w16 c.a1 ++ w16 c.a2)
  ++ [byteOfBool s.ffb.enabled] ++ s.ffb.saturations.list.flatMap (bytesOf 2)

/-- A channel of READ_TRIM (R5, R187). -/
def trimBytes (s : State) (c : Nat) : List Byte :=
  let t := s.mfe.trims.get (Fin.ofNat 8 c)
  BitVec.ofNat 8 c :: (w16 t.offset ++ w16 t.gain ++ [byteOfBool t.invert] ++ bytesOf 2 (s.mfe.clips.get (Fin.ofNat 8 c)))

/-- The latched sources, by level from 7 down to 0 and by number within a level (R157). -/
def latchedSources (s : State) : List (Fin 24) :=
  [7, 6, 5, 4, 3, 2, 1, 0].flatMap fun l =>
    (List.finRange 24).filter fun n => (s.ntu.sources.get n).latched && (s.ntu.sources.get n).level == l

/-- A notice record (R157, R187). -/
def noticeBytes (s : State) (n : Fin 24) : List Byte :=
  let r := s.ntu.sources.get n
  [BitVec.ofNat 8 n.1, BitVec.ofNat 8 r.level, byteOfBool r.enable, BitVec.ofNat 8 r.count] ++ w32 (r.last.getD 0)

/-- The payload of FETCH_NOTICES: the latched count and the first eight records (R157). -/
def fetchBytes (s : State) : List Byte :=
  let l := latchedSources s
  BitVec.ofNat 8 l.length :: (l.take 8).flatMap (noticeBytes s)

/-! The trace. -/

/-- A trace entry, 20 bytes (R188). -/
def traceEntryBytes (r : TraceRecord) : List Byte :=
  let a := r.areas.getD (0, 0)
  w16 r.seq ++ w32 r.doneTime
  ++ [BitVec.ofNat 8 r.slot.1,
      BitVec.ofNat 8 r.bridge.1 ||| (r.outcome.code <<< 2) ||| (byteOfBool r.episodeMark <<< 4)
        ||| (byteOfBool r.areas.isSome <<< 5)]
  ++ bytesOf 2 r.alpha ++ bytesOf 2 r.fire ++ bytesOf 3 a.1 ++ bytesOf 3 a.2 ++ w16 r.iMeas

/-- Where a start sequence stands in the ring: its distance from the oldest, when that entry is held (R170). -/
def traceStart (ring : List TraceRecord) (first : BitVec 16) : Option Nat :=
  match ring with
  | [] => none
  | o :: _ => if (first - o.seq).toNat < ring.length then some (first - o.seq).toNat else none

/-- The trace header, 17 bytes (R170, R188). -/
def traceHeaderBytes (c : Trc) (found : Bool) : List Byte :=
  let oldest := (c.ring.head?.map (·.seq)).getD 0
  let newest := (c.ring.getLast?.map (·.seq)).getD 0
  [c.state.code] ++ bytesOf 2 c.ring.length ++ w16 oldest ++ w16 newest ++ w16 (c.position.getD 0)
  ++ [match c.cause with | some x => x.code | none => 0xFF] ++ w32 (c.time.getD 0)
  ++ [BitVec.ofNat 8 c.post, byteOfBool (!found),
      byteOfBool (!c.ring.isEmpty) ||| (byteOfBool c.position.isSome <<< 1) ||| (byteOfBool c.time.isSome <<< 2)]

/-- The payload of READ_TRACE: the header and up to `count` entries (R170). -/
def readTraceBytes (c : Trc) (first : BitVec 16) (count : Nat) : List Byte :=
  let i := traceStart c.ring first
  traceHeaderBytes c i.isSome ++ ((c.ring.drop (i.getD 0)).take count).flatMap traceEntryBytes

/-! The store. -/

/-- The byte of the bad-mark mask that holds rows 8n to 8n + 7. -/
def badByte (marks : List Bool) (n : Nat) : Byte :=
  BitVec.ofNat 8 ((List.range 8).foldl (fun v i => v + (if marks.getD (8 * n + i) false then 2 ^ i else 0)) 0)

/-- The payload of READ_STORE (R194, R187). -/
def storeBytes (s : State) : List Byte :=
  [s.storeByte] ++ bytesOf 2 s.sst.corrected ++ (List.range 64).map (badByte s.sst.bad.list)

end Sys2Proof.Machine
end

