-- ==== Sys2Proof/Machine/Requests.lean ====
section
/-!
DEFINITION. What each owner does with a request that has passed the link unit's checks (R180), with its own checks in its
own order: SSQ, CRG, RTB, FFB, MFE, DGV, NTU, WCU, TRC and the parameters. The run controller's requests stand in Run, the
store's in Store.
-/

namespace Sys2Proof.Machine

/-- A request that only reads: OK with its payload, the state unchanged. -/
def reads (payload : List Byte) (s : State) : State × Answer := (s, .reply .ok payload)

/-- A list of records written from an index on, each checked as it is reached; the first that fails stops the writing and
the number written before it is answered (R52, R131). -/
def writeEach {α : Type} (put : Nat → α → State → Option State) : Nat → List α → State → State × Option Nat
  | _, [], s => (s, none)
  | i, r :: rest, s =>
    match put i r s with
    | none => (s, some 0)
    | some t => let x := writeEach put (i + 1) rest t; (x.1, x.2.map (· + 1))

/-! SSQ: the slot table (R52, R53). -/

/-- One slot record written, when its notch channel is one of the three. A 24-bit a_min or ref_limit is always in range. -/
def putSlot (k : Nat) (r : SlotRec) (s : State) : Option State :=
  match NotchChannel.ofCode? r.channel.toNat with
  | some ch => some (s.withSsq { s.ssq with config := s.ssq.config.set (Fin.ofNat 24 k) ⟨ch, r.aMin, r.refLimit⟩ })
  | none => none

/-- WRITE_SLOTS (R52). -/
def takeWriteSlots (first : Byte) (recs : List SlotRec) (s : State) : State × Answer :=
  if 23 < first.toNat ∨ recs = [] ∨ 8 < recs.length ∨ 24 < first.toNat + recs.length then (s, .refuse .range)
  else if s.saving then (s, .refuse .busy)
  else
    let r := writeEach putSlot first.toNat recs s
    (r.1, match r.2 with
      | none => .ok
      | some n => .reply .partialWrite (bytesOf 1 n))

/-- READ_SLOTS (R53). -/
def takeReadSlots (first count : Byte) (s : State) : State × Answer :=
  if 23 < first.toNat ∨ count.toNat = 0 ∨ 4 < count.toNat ∨ 24 < first.toNat + count.toNat then (s, .refuse .range)
  else reads ((List.range count.toNat).flatMap fun i => slotBytes s (first.toNat + i)) s

/-! CRG: targets (R55). -/

/-- One target written, a value above I_MAX as I_MAX (R55). -/
def putTarget (p : Byte × BitVec 16) (s : State) : State :=
  s.withCrg ⟨s.crg.bridges.modify (Fin.ofNat 4 p.1.toNat) fun b =>
    { b with target := min p.2.toNat (s.parN .iMax) }⟩

/-- The targets of a list written in its order. -/
def putTargets : List (Byte × BitVec 16) → State → State
  | [], s => s
  | p :: rest, s => putTargets rest (putTarget p s)

/-- SET_TARGETS (R55). -/
def takeSetTargets (pairs : List (Byte × BitVec 16)) (s : State) : State × Answer :=
  if pairs = [] ∨ 4 < pairs.length ∨ pairs.any (fun p => decide (3 < p.1.toNat)) then (s, .refuse .range)
  else if s.rct.state = .stopping ∨ s.rct.state = .halt then (s, .refuse .state)
  else
    (putTargets pairs s,
      .reply (if pairs.any (fun p => decide (s.parN .iMax < p.2.toNat)) then .clamped else .ok) [])

/-! RTB: responses and marks (R130 to R133). -/

/-- One response entry written whole, its marks kept, when every field is in range (R131, R132). -/
def putResponse (i : Nat) (r : ResponseRec) (s : State) : Option State :=
  (responseOfRec r).map fun e => s.withRtb { s.rtb with entries := s.rtb.entries.set (Fin.ofNat 32 i) e }

/-- WRITE_RESPONSES (R131, R132). -/
def takeWriteResponses (first : Byte) (recs : List ResponseRec) (s : State) : State × Answer :=
  if 31 < first.toNat ∨ recs = [] ∨ 4 < recs.length ∨ 32 < first.toNat + recs.length then (s, .refuse .range)
  else if s.saving then (s, .refuse .busy)
  else
    let r := writeEach putResponse first.toNat recs s
    (r.1, match r.2 with
      | none => .reply .ok (bytesOf 1 recs.length ++ [r.1.governingIndex])
      | some n => .reply .partialWrite (bytesOf 1 n ++ [r.1.governingIndex]))

/-- READ_RESPONSES (R133). -/
def takeReadResponses (first count : Byte) (s : State) : State × Answer :=
  if 31 < first.toNat ∨ count.toNat = 0 ∨ 4 < count.toNat ∨ 32 < first.toNat + count.toNat then (s, .refuse .range)
  else reads (s.governingIndex :: (List.range count.toNat).flatMap fun i => responseBytes s (first.toNat + i)) s

/-- The marks of the named entries cleared (R130). -/
def clearMarks (mask : BitVec 32) (s : State) : State :=
  s.withRtb { s.rtb with
    marks := Tab.ofFn fun i => if mask.getLsbD i.1 then ⟨false, false, false⟩ else s.rtb.marks.get i }

/-- CLEAR_MARKS (R130). -/
def takeClearMarks (mask : BitVec 32) (s : State) : State × Answer := (clearMarks mask s, .ok)

/-! FFB (R11 to R14). -/

/-- One stage's coefficients written. -/
def putFilter (r : FilterRec) (s : State) : State :=
  s.withFfb { s.ffb with coeffs := s.ffb.coeffs.set (Fin.ofNat 3 r.stage.toNat) ⟨r.b0, r.b1, r.b2, r.a1, r.a2⟩ }

/-- The stages of a list written in its order. -/
def putFilters : List FilterRec → State → State
  | [], s => s
  | r :: rest, s => putFilters rest (putFilter r s)

/-- WRITE_FILTER (R13). -/
def takeWriteFilter (recs : List FilterRec) (s : State) : State × Answer :=
  if recs = [] ∨ 3 < recs.length ∨ recs.any (fun r => decide (2 < r.stage.toNat)) then (s, .refuse .range)
  else if s.saving then (s, .refuse .busy)
  else if s.ffb.enabled then (s, .refuse .filterActive)
  else (putFilters recs s, .ok)

/-- FILTER_CONTROL with mode ENABLE (R11). -/
def takeFilterEnable (s : State) : State × Answer :=
  if s.saving then (s, .refuse .busy)
  else if s.ffb.enabled then (s, .ok)
  else (s.withFfb { s.ffb with enabled := true, stages := clearedStages }, .ok)

/-- FILTER_CONTROL with mode DISABLE (R12). -/
def takeFilterDisable (s : State) : State × Answer :=
  if s.saving then (s, .refuse .busy)
  else if s.active then (s, .refuse .state)
  else (s.withFfb { s.ffb with enabled := false }, .ok)

/-! MFE (R4, R5). -/

/-- One channel's trim written. -/
def putTrim (r : TrimRec) (s : State) : State :=
  s.withMfe { s.mfe with trims := s.mfe.trims.set (Fin.ofNat 8 r.channel.toNat) ⟨r.offset, r.gain, r.invert == 1⟩ }

/-- The trims of a list written in its order. -/
def putTrims : List TrimRec → State → State
  | [], s => s
  | r :: rest, s => putTrims rest (putTrim r s)

/-- WRITE_TRIM (R4). -/
def takeWriteTrim (recs : List TrimRec) (s : State) : State × Answer :=
  if recs = [] ∨ 8 < recs.length ∨ recs.any (fun r => decide (7 < r.channel.toNat) || decide (1 < r.invert.toNat)) then
    (s, .refuse .range)
  else if s.saving then (s, .refuse .busy)
  else (putTrims recs s, .ok)

/-- READ_TRIM (R5). -/
def takeReadTrim (first count : Byte) (s : State) : State × Answer :=
  if 7 < first.toNat ∨ count.toNat = 0 ∨ 8 < first.toNat + count.toNat then (s, .refuse .range)
  else reads ((List.range count.toNat).flatMap fun i => trimBytes s (first.toNat + i)) s

/-! DGV (R115). -/

/-- READ_HISTORY (R115). -/
def takeReadHistory (offset count : Byte) (s : State) : State × Answer :=
  if 15 < offset.toNat ∨ count.toNat = 0 ∨ 4 < count.toNat then (s, .refuse .range)
  else
    reads (bytesOf 1 s.dgv.history.length
      ++ ((s.dgv.history.drop offset.toNat).take count.toNat).flatMap historyBytes) s

/-! NTU (R157 to R160). -/

/-- One source cleared (R158). -/
def Notice.clear (n : Notice) : Notice := { n with latched := false, count := 0, last := none }

/-- The sources of a list cleared in its order, with the count that each held (R158). -/
def ackSources : List Byte → Tab Notice 24 → Tab Notice 24 × List Byte
  | [], t => (t, [])
  | b :: rest, t =>
    let i := Fin.ofNat 24 b.toNat
    let r := ackSources rest (t.modify i Notice.clear)
    (r.1, BitVec.ofNat 8 (t.get i).count :: r.2)

/-- ACK_NOTICES (R158). -/
def takeAckNotices (sources : List Byte) (s : State) : State × Answer :=
  if sources = [] ∨ 24 < sources.length ∨ sources.any (fun b => decide (23 < b.toNat)) then (s, .refuse .range)
  else
    let r := ackSources sources s.ntu.sources
    (judgeAlert (s.withNtu { s.ntu with sources := r.1 }), .reply .ok r.2)

/-- The enables changed by a function of source and enable, ALERT judged (R159). -/
def mapEnables (f : Fin 24 → Bool → Bool) (s : State) : State :=
  judgeAlert (s.withNtu { s.ntu with
    sources := Tab.ofFn fun i => { s.ntu.sources.get i with enable := f i (s.ntu.sources.get i).enable } })

/-- SET_NOTICE_ENABLE, its mode given as what it does to an enable (R159). -/
def takeSetEnable (f : Fin 24 → Bool → Bool) (s : State) : State × Answer :=
  if s.saving then (s, .refuse .busy) else (mapEnables f s, .ok)

/-- The levels of a list written in its order (R160). -/
def putLevels : List (Byte × Byte) → Tab Notice 24 → Tab Notice 24
  | [], t => t
  | p :: rest, t => putLevels rest (t.modify (Fin.ofNat 24 p.1.toNat) fun n => { n with level := p.2.toNat })

/-- SET_NOTICE_LEVELS (R160). -/
def takeSetLevels (pairs : List (Byte × Byte)) (s : State) : State × Answer :=
  if pairs = [] ∨ 24 < pairs.length ∨ pairs.any (fun p => decide (23 < p.1.toNat) || decide (7 < p.2.toNat)) then
    (s, .refuse .range)
  else if s.saving then (s, .refuse .busy)
  else (judgeAlert (s.withNtu { s.ntu with sources := putLevels pairs s.ntu.sources }), .ok)

/-! WCU (R164, R165). -/

/-- SET_WATCH (R164). -/
def takeSetWatch (unit signal : Byte) (threshold : BitVec 32) (direction mode : Byte) (s : State) : State × Answer :=
  match watchConfigOf signal threshold direction mode with
  | some c =>
    if 3 < unit.toNat then (s, .refuse .range)
    else if s.saving then (s, .refuse .busy)
    else (s.withWcu ⟨s.wcu.units.set (Fin.ofNat 4 unit.toNat) ⟨c, true, false⟩⟩, .ok)
  | none => (s, .refuse .range)

/-- The named units armed (R165). -/
def rearm (mask : Byte) (s : State) : State :=
  s.withWcu ⟨Tab.ofFn fun n =>
    if mask.getLsbD n.1 then { s.wcu.units.get n with armed := true } else s.wcu.units.get n⟩

/-- REARM_WATCH (R165). -/
def takeRearm (mask : Byte) (s : State) : State × Answer := (rearm mask s, .ok)

/-! TRC (R169, R170). -/

/-- TRACE_CONTROL with mode ARM (R169). -/
def takeArm (s : State) : State × Answer := (s.withTrc (Trc.atReset s.trc.mask), .ok)

/-- TRACE_CONTROL with mode DISABLE (R169). -/
def takeDisable (s : State) : State × Answer := (s.withTrc { s.trc with state := .idle }, .ok)

/-- TRACE_CONTROL with mode TRIGGER (R169). -/
def takeTraceTrigger (s : State) : State × Answer :=
  if s.trc.state = .recording then (takeTrigger .request s, .ok) else (s, .refuse .state)

/-- TRACE_CONTROL with mode SET_MASK (R169). -/
def takeSetMask (mask : BitVec 24) (s : State) : State × Answer :=
  if s.saving then (s, .refuse .busy) else (s.withTrc { s.trc with mask := mask }, .ok)

/-- READ_TRACE (R170). -/
def takeReadTrace (first : BitVec 16) (count : Byte) (s : State) : State × Answer :=
  if count.toNat = 0 ∨ 8 < count.toNat then (s, .refuse .range)
  else reads (readTraceBytes s.trc first count.toNat) s

/-! Parameters (R182, R183). -/

/-- The id and value of each parameter of a list; none when an id is not in the table (R182). -/
def readParams (s : State) : List Byte → Option (List Byte)
  | [] => some []
  | b :: rest =>
    match ParamId.ofCode? b.toNat, readParams s rest with
    | some p, some bs => some (b :: (bytesOfInt 4 (s.par p) ++ bs))
    | _, _ => none

/-- GET_PARAM (R182). -/
def takeGetParam (ids : List Byte) (s : State) : State × Answer :=
  if ids = [] ∨ 32 < ids.length then (s, .refuse .range)
  else
    match readParams s ids with
    | some bs => reads bs s
    | none => (s, .refuse .range)

/-- The magnitude thresholds pass both checks of R117. -/
def magnitudesOk (mLoss mHyst mSag mSwell : Int) : Bool :=
  decide (mLoss + mHyst < mSag) && decide (mSag + mHyst < mSwell - mHyst)

/-- The cross check of a write against the other parameters as they stand (R69, R117, R152). -/
def crossCheck (s : State) (p : ParamId) (v : Int) : Bool :=
  match p with
  | .alphaMin => decide (v ≤ s.par .alphaMax)
  | .alphaMax => decide (s.par .alphaMin ≤ v)
  | .alphaStart => decide (s.par .alphaMin ≤ v) && decide (v ≤ s.par .alphaMax)
  | .iMax => decide (v < s.par .iTrip)
  | .iTrip => decide (s.par .iMax < v)
  | .mLoss => !s.active || magnitudesOk v (s.par .mHyst) (s.par .mSag) (s.par .mSwell)
  | .mHyst => !s.active || magnitudesOk (s.par .mLoss) v (s.par .mSag) (s.par .mSwell)
  | .mSag => !s.active || magnitudesOk (s.par .mLoss) (s.par .mHyst) v (s.par .mSwell)
  | .mSwell => !s.active || magnitudesOk (s.par .mLoss) (s.par .mHyst) (s.par .mSag) v
  | _ => true

/-- Why a pair of SET_PARAM fails, in the order of R183, once its id is known. -/
def paramFault (s : State) (p : ParamId) (v : Int) : Option ResultCode :=
  if !p.inRange v then some .range
  else if p.info.standbyOnly ∧ s.rct.state ≠ .standby then some .state
  else if !crossCheck s p v then some .config
  else none

/-- A parameter written, with its owner's rule for writes: the clamp of I_MAX (R56), of MISFIRE_LIMIT (R92), and ALERT
judged for ALERT_FLOOR (R161). -/
def writePar (p : ParamId) (v : Int) (s : State) : State :=
  match p with
  | .iMax => clampToIMax (s.withPar .iMax v)
  | .misfireLimit => clampMisfires (s.withPar .misfireLimit v)
  | .alertFloor => judgeAlert (s.withPar .alertFloor v)
  | p => s.withPar p v

/-- One pair of SET_PARAM: written, or the code it fails with (R183). -/
def putParam (q : Byte × BitVec 32) (s : State) : Except ResultCode State :=
  match ParamId.ofCode? q.1.toNat with
  | none => .error .range
  | some p =>
    match paramFault s p q.2.toInt with
    | some c => .error c
    | none => .ok (writePar p q.2.toInt s)

/-- The pairs of SET_PARAM in list order: how many were written, and the code and id of the one that failed (R183). -/
def putParams : List (Byte × BitVec 32) → State → State × Nat × Option (ResultCode × Byte)
  | [], s => (s, 0, none)
  | q :: rest, s =>
    match putParam q s with
    | .error c => (s, 0, some (c, q.1))
    | .ok t => let r := putParams rest t; (r.1, r.2.1 + 1, r.2.2)

/-- The answer of SET_PARAM (R183): the failure of the first pair, PARTIAL after `n` written, OK. -/
def paramAnswer (n : Nat) (fault : Option (ResultCode × Byte)) : Answer :=
  match fault with
  | none => .ok
  | some (c, id) =>
    if n = 0 then .reply c (if c = .config then [id] else [])
    else .reply .partialWrite [BitVec.ofNat 8 n, c.code, id]

/-- SET_PARAM (R183). -/
def takeSetParam (pairs : List (Byte × BitVec 32)) (s : State) : State × Answer :=
  if pairs = [] ∨ 32 < pairs.length then (s, .refuse .range)
  else if s.saving then (s, .refuse .busy)
  else let r := putParams pairs s; (r.1, paramAnswer r.2.1 r.2.2)

end Sys2Proof.Machine
end

