-- ==== Sys2Proof/Machine/Store.lean ====
section
/-!
DEFINITION. The settings store (chapter 11): the image of the working copies, the row writes of a save with their
read-back, the load's installation, what a reset leaves of a save, and the store's requests.
-/

namespace Sys2Proof.Machine

/-! The working copies (11.1). -/

/-- The working copies of every stored item. -/
def settingsOf (s : State) : Settings where
  params := s.params
  trims := s.mfe.trims
  coeffs := s.ffb.coeffs
  filterEnable := s.ffb.enabled
  slots := s.ssq.config
  responses := s.rtb.entries
  levels := s.ntu.sources.map (·.level)
  enables := s.ntu.sources.map (·.enable)
  watches := s.wcu.units.map (·.config)
  traceMask := s.trc.mask

/-- An image installed into every working copy as one event, with what its owners do at a load: every stage state 0 (R15),
targets, setpoints and misfire counts brought down (R56, R92). Counts, flags, armed flags, marks and the rest stay (R134,
R172). -/
def installSettings (c : Settings) (s : State) : State :=
  let t : State := { s with
    params := c.params
    mfe := { s.mfe with trims := c.trims }
    ffb := { s.ffb with coeffs := c.coeffs, enabled := c.filterEnable, stages := clearedStages }
    ssq := { s.ssq with config := c.slots }
    rtb := { s.rtb with entries := c.responses }
    ntu := { s.ntu with
      sources := Tab.ofFn fun n => { s.ntu.sources.get n with level := c.levels.get n, enable := c.enables.get n } }
    wcu := ⟨Tab.ofFn fun n => { s.wcu.units.get n with config := c.watches.get n }⟩
    trc := { s.trc with mask := c.traceMask } }
  clampMisfires (clampToIMax t)

/-- What a power-on load adds: the reset values that follow from the parameters it has brought into force (R38, R71,
R83). -/
def seedFromParams (s : State) : State :=
  let t := s.withAtr { s.atr with w := s.wNom }
  let u := t.withCrg ⟨t.crg.bridges.map fun b => { b with alphaPrev := t.parN .alphaStart }⟩
  u.withFls { u.fls with refAvg := Tab.fill 4 (u.parN .refavgSeed) }

/-! The load's end (R190). -/

/-- A row read is uncorrectable. -/
def RowRead.isBad : RowRead → Bool
  | .uncorrectable => true
  | _ => false

/-- A row read was corrected. -/
def RowRead.isCorrected : RowRead → Bool
  | .corrected _ => true
  | _ => false

/-- The bad marks of a load: uncorrectable rows, and the first row of each item whose value is out of range (R190). -/
def badMarks (rs : Tab RowRead 512) (outOfRange : List Nat) : Tab Bool 512 :=
  Tab.ofFn fun n => (rs.get n).isBad || outOfRange.contains n.1

/-- The store after a load: marks, corrected count, latch, activity (R190, R191). -/
def sstAfterLoad (t : Sst) (rs : Tab RowRead 512) (outOfRange : List Nat) : Sst :=
  let bad := badMarks rs outOfRange
  { t with bad := bad, corrected := rs.list.countP RowRead.isCorrected, latch := bad.list.any id, activity := .idle }

/-- The load ends: the image installed, the store's marks and latch set, ALERT judged with the settings in force, and one
STORE_FAULT for each bad row (R190, R172). -/
def finishLoad (s : State) : State :=
  let rs := s.sst.rows.map readRow
  let img := loadImage rs.list
  let t := installSettings img.1 s
  let u := if s.sst.activity = .powerOnLoad then seedFromParams t else t
  let v := judgeAlert (u.withSst (sstAfterLoad u.sst rs img.2))
  occurTimes (v.sst.bad.list.countP id) .storeFault v

/-! A save (R192, R193). -/

/-- A row as written and read back: the data and its check code, but for the bits in which the row differs (log 13). -/
def writtenRow (d : BitVec 32) (errors : BitVec 39) : Row := disturbRow (encodeRow d) errors

/-- A row reads back clean and equal to the data written (R192). -/
def readsBack (r : Row) (d : BitVec 32) : Bool := readRow r == .clean d

/-- The save completes: IDLE, corrected count 0, latch clear, STORE_SAVED (R193). -/
def completeSave (s : State) : State :=
  occur .storeSaved (s.withSst { s.sst with activity := .idle, corrected := 0, latch := false })

/-- The write of a row has failed: the row marked bad, the latch set, STORE_FAULT, IDLE (R193). -/
def failSave (n : Fin 512) (s : State) : State :=
  occur .storeFault (s.withSst { s.sst with bad := s.sst.bad.set n true, latch := true, activity := .idle })

/-- The next row of a save, or its completion after row 511 (R192, R193). -/
def nextRow (n : Fin 512) (s : State) : State :=
  if h : n.1 + 1 < 512 then s.withSst { s.sst with activity := .saving ⟨n.1 + 1, h⟩ } else completeSave s

/-- One row of a save written and read back (R192, R193). -/
def saveRow (n : Fin 512) (errors : BitVec 39) (s : State) : State :=
  let d := (settingsOf s).word n.1
  let r := writtenRow d errors
  let t := s.withSst { s.sst with rows := s.sst.rows.set n r }
  if readsBack r d then nextRow n (t.withSst { t.sst with bad := t.sst.bad.set n false }) else failSave n t

/-- The row of 39 given bits. -/
def rowOfBits (b : BitVec 39) : Row := ⟨b.setWidth 32, (b >>> 32).setWidth 7⟩

/-- A reset stops a save at the row being written, which then holds a free value (R193, log 12). -/
def stopSave (s : State) : State :=
  match s.sst.activity with
  | .saving n =>
    (s.withSst { s.sst with
      activity := .idle, rows := s.sst.rows.set n (rowOfBits (Config.interruptedRow s.freeCount)) }).withFreeCount
      (s.freeCount + 1)
  | _ => s

/-! Requests of the store. -/

/-- SAVE_SETTINGS (R192). The reply's status, which reports the save in progress, is its code: OK says that the save has
begun, and neither the condition byte (R179) nor the empty payload (R187) has a field for it (log 28). -/
def takeSaveSettings (s : State) : State × Answer :=
  if s.rct.state ≠ .standby then (s, .refuse .state)
  else if s.saving then (s, .refuse .busy)
  else (s.withSst { s.sst with activity := .saving 0 }, .ok)

/-- LOAD_SETTINGS (R191): the load runs, and the reply follows its end. -/
def takeLoadSettings (s : State) : State × Answer :=
  if s.rct.state ≠ .standby then (s, .refuse .state)
  else if s.saving then (s, .refuse .busy)
  else (s.withSst { s.sst with activity := .loading }, .atLoadEnd)

/-- READ_STORE (R194). -/
def takeReadStore (s : State) : State × Answer := reads (storeBytes s) s

end Sys2Proof.Machine
end

