-- ==== Sys2Proof/Machine/Resets.lean ====
section
/-!
DEFINITION. The two resets: a soft reset with what each block keeps (R16, R38, R54, R71, R93, R119, R135, R154, R173, R186,
R193), the power-on reset and RESET_N held low (R191, R196).
-/

namespace Sys2Proof.Machine

/-- The history that a soft reset leaves: an ONGOING record closes as ENDED, its duration to the last conversion set
(R119). -/
def historyAtReset (now : Stamp) (h : List HistoryRecord) : List HistoryRecord :=
  h.map fun r => if r.outcome = .ongoing then closeRecord .ended now r else r

/-- A soft reset: each block in its soft-reset state (R185); the straps are read again (R174, R195). -/
def softReset (s0 : State) : State :=
  let s := stopSave s0
  { s with
    mfe := Mfe.atReset s.mfe.trims
    ffb := Ffb.atReset s.ffb.coeffs s.ffb.enabled
    atr := Atr.atReset s.wNom
    ssq := Ssq.atReset s.ssq.config
    crg := Crg.atReset (s.parN .alphaStart)
    fls := Fls.atReset (s.parN .refavgSeed)
    dgv := Dgv.atReset (historyAtReset s.mfe.count s.dgv.history) s.dgv.nextNumber
    rtb := Rtb.atReset s.rtb.entries
    rct := Rct.atReset s.rct.trip s.rct.tripIn
    ntu := Ntu.atReset (s.ntu.sources.map (·.level)) (s.ntu.sources.map (·.enable))
    wcu := Wcu.atReset (s.wcu.units.map (·.config))
    trc := Trc.atReset s.trc.mask
    lnk := Lnk.atReset s.pins.baud s.pins.clksel
    sst := { s.sst with activity := .idle } }

/-- A power-on reset: RESET_N released with supply established, the power-on load begun from row 0 (R191). -/
def powerOnReset (s0 : State) : State :=
  let s := stopSave s0
  State.powerOn s.sst.rows .powerOnLoad { s.pins with resetLow := false } s.rct.tripIn s.orders s.freeCount s.pending

/-- RESET_N driven low, or supply lost: the part held in power-on reset, a save stopped, a power-on load abandoned
(R196). -/
def holdInReset (s0 : State) : State :=
  let s := stopSave s0
  State.powerOn s.sst.rows .idle { s.pins with resetLow := true } s.rct.tripIn s.orders s.freeCount s.pending

end Sys2Proof.Machine
end

