-- ==== Sys2Proof/Machine/Link.lean ====
section
/-!
DEFINITION. The link unit (chapter 10): the receiver, the inbox, handling and replies, and the end of a reply's
transmission.
-/

namespace Sys2Proof.Machine

/-! Drops (R176, R177). -/

/-- One more link error, and LINK_FAULT. -/
def countLinkFault (s : State) : State :=
  occur .linkFault (s.withLnk { s.lnk with errors := satInc 65535 s.lnk.errors })

/-- The partial frame dropped, the receiver in HUNT (R176). -/
def dropFrame (s : State) : State := countLinkFault (s.withLnk { s.lnk with rx := .hunt, partialFrame := [] })

/-- An intact frame that finds two frames in the inbox: dropped, overrun set (R177). -/
def overrunFrame (s : State) : State := countLinkFault (s.withLnk { s.lnk with overrun := true })

/-! Arrival, handling and reply (R177 to R180). -/

/-- A valid request frame arrives at the inbox: appended, and the supervision restarted (R150, R177). -/
def arrive (f : Frame) (s : State) : State :=
  (s.withLnk { s.lnk with inbox := s.lnk.inbox ++ [f] }).withRct { s.rct with supervision := 0, lapsed := false }

/-- The kind byte of a reply: the request's kind plus 80h (R179). A frame of a kind of 80h or above, which is of no request
of the table, is answered with KIND (R180) under a free kind byte, since the sum does not fit a byte (log 26). -/
def replyKind (k : Byte) : Byte := if k.toNat < 128 then k + 0x80 else Config.strayReplyKind k

/-- The reply built, which sets overrun to NO; its condition byte is taken as the state stands (R179). -/
def sendReply (f : Frame) (c : ResultCode) (payload : List Byte) (s : State) : State :=
  s.withLnk { s.lnk with
    reply := some ⟨replyKind f.kind, f.tag, c, s.conditionByte, payload⟩, overrun := false }

/-- A request handled: taken by its owner, what it changes taken by the other blocks, then the reply built, unless it waits
for the end of a load (R178). -/
def serve (f : Frame) (owner : State → State × Answer) (s : State) : State :=
  let r := owner s
  match r.2 with
  | .reply c payload => sendReply f c payload (settle r.1)
  | .atLoadEnd => settle r.1

/-- What the owner of a request does with it (R187). -/
def perform : Instr → State → State × Answer
  | .identify _ => fun s => reads (identifyBytes s) s
  | .getStatus _ => fun s => reads (statusBytes s) s
  | .getTrip _ => fun s => reads (getTripBytes s) s
  | .start _ => takeStart
  | .stopSoft _ => takeStopSoft
  | .stopImmediate _ => takeStopImmediate
  | .clearHalt _ => takeClearHalt
  | .setTargets _ pairs => takeSetTargets pairs
  | .getParam _ ids => takeGetParam ids
  | .setParam _ pairs => takeSetParam pairs
  | .writeSlots _ first recs => takeWriteSlots first recs
  | .readSlots _ first count => takeReadSlots first count
  | .writeResponses _ first recs => takeWriteResponses first recs
  | .readResponses _ first count => takeReadResponses first count
  | .clearMarks _ mask => takeClearMarks mask
  | .writeFilter _ recs => takeWriteFilter recs
  | .readFilter _ => fun s => reads (filterBytes s) s
  | .filterControlEnable _ => takeFilterEnable
  | .filterControlDisable _ => takeFilterDisable
  | .writeTrim _ recs => takeWriteTrim recs
  | .readTrim _ first count => takeReadTrim first count
  | .readHistory _ offset count => takeReadHistory offset count
  | .fetchNotices _ => fun s => reads (fetchBytes s) s
  | .ackNotices _ sources => takeAckNotices sources
  | .setNoticeEnableAssign _ mask => takeSetEnable fun i _ => mask.getLsbD i.1
  | .setNoticeEnableSet _ mask => takeSetEnable fun i e => e || mask.getLsbD i.1
  | .setNoticeEnableClear _ mask => takeSetEnable fun i e => e && !mask.getLsbD i.1
  | .setNoticeLevels _ pairs => takeSetLevels pairs
  | .setWatch _ unit signal threshold direction mode => takeSetWatch unit signal threshold direction mode
  | .rearmWatch _ mask => takeRearm mask
  | .traceControlArm _ => takeArm
  | .traceControlDisable _ => takeDisable
  | .traceControlTrigger _ => takeTraceTrigger
  | .traceControlSetMask _ mask => takeSetMask mask
  | .readTrace _ first count => takeReadTrace first count
  | .saveSettings _ => takeSaveSettings
  | .loadSettings _ => takeLoadSettings
  | .readStore _ => takeReadStore
  | .reset _ => fun s => (s, .ok)
  | .unknownKind _ _ _ | .powerOnReset | .loadEnd | .softReset | .conversionSet _ | .trackLocked | .trackLost
  | .misfireLimitReached _ | .traceFrozen | .episodeOnset | .holdExpiry | .episodeLong | .episodeClear | .recoveryDone
  | .episodeEnd | .listClose | .unblock | .runEntered | .syncFailed | .stopDone | .supervisionLapse | .haltCause _
  | .tripInAssert | .tripInRelease | .rxByte _ | .rxFramingError | .frameGapTimeout | .replyTransmitted
  | .saveRowWritten _ | .resetNAsserted => fun s => (s, .refuse .kind)

/-- A frame's request: refused by the link unit's checks, or taken by its owner (R178, R180). -/
def handle (f : Frame) (s : State) : State × Answer :=
  match decodeRequest f with
  | .ok i => perform i s
  | .error c => (s, .refuse c)

/-- An intact frame at the inbox: handled at once when the inbox was empty, waiting behind one frame, dropped behind two
(R177, R178). -/
def arriveAndServe (f : Frame) (owner : State → State × Answer) (s : State) : State :=
  if s.lnk.inbox.length = 0 then serve f owner (arrive f s)
  else if s.lnk.inbox.length < 2 then arrive f s
  else overrunFrame s

/-- An intact frame from the receiver. -/
def receive (f : Frame) (s : State) : State := arriveAndServe f (handle f) s

/-! The receiver (R174, R176). -/

/-- The frame that held bytes spell: length byte, kind, tag, payload, and the first CRC byte, which is left out. -/
def heldFrame (held : List Byte) : Frame :=
  let n := (byteAt held 0).toNat
  ⟨byteAt held 1, byteAt held 2, (held.drop 3).take (n - 2)⟩

/-- The CRC of the held bytes is the one whose low byte is held last and whose high byte has now come (R175). -/
def intact (held : List Byte) (high : Byte) : Bool :=
  let n := (byteAt held 0).toNat
  crc (held.take (n + 1)) == BitVec.ofNat 16 (numOf [byteAt held (n + 1), high])

/-- A byte with a valid stop bit, by the receiver's state (R176). -/
def takeByte (b : Byte) (s : State) : State :=
  match s.lnk.rx with
  | .hunt => if b = 0xC3 then s.withLnk { s.lnk with rx := .length, partialFrame := [] } else s
  | .length =>
    if 2 ≤ b.toNat ∧ b.toNat ≤ 240 then s.withLnk { s.lnk with rx := .body, partialFrame := [b] } else dropFrame s
  | .body =>
    let held := s.lnk.partialFrame ++ [b]
    s.withLnk { s.lnk with
      rx := if held.length = (byteAt held 0).toNat + 1 then .crc else .body, partialFrame := held }
  | .crc =>
    let held := s.lnk.partialFrame
    if held.length = (byteAt held 0).toNat + 1 then s.withLnk { s.lnk with partialFrame := held ++ [b] }
    else if intact held b then
      receive (heldFrame held) (s.withLnk { s.lnk with rx := .hunt, partialFrame := [] })
    else dropFrame s

/-- A byte whose stop bit is missing, or a gap of more than 1 ms: the partial frame dropped outside HUNT (R174, R176). -/
def breakFrame (s : State) : State := if s.lnk.rx = .hunt then s else dropFrame s

/-! The end of a transmission (R178, R185). -/

/-- A reply is the OK reply of RESET. -/
def isResetReply (r : ReplyFrame) : Bool := r.kind == 0xBF && r.code == .ok

/-- The last byte of the reply has been transmitted: its frame leaves the inbox and the next waiting frame is handled
(R178); after the reply of RESET the part takes a soft reset (R185). -/
def replySent (s : State) : State :=
  match s.lnk.reply with
  | none => s
  | some r =>
    if isResetReply r then softReset s
    else
      let t := s.withLnk { s.lnk with reply := none, inbox := s.lnk.inbox.tail }
      match t.lnk.inbox with
      | [] => t
      | f :: _ => serve f (handle f) t

/-- The replies outstanding are transmitted, at most `n` of them. -/
def finishReplies : Nat → State → State
  | 0, s => s
  | n + 1, s => if s.lnk.reply.isSome then finishReplies n (replySent s) else s

/-- A request sent to the part when the link is free: replies under way are transmitted first, then the frame arrives (log
3). In power-on reset and during its load every byte is discarded (R176). -/
def request (f? : Option Frame) (owner : State → State × Answer) (s : State) : State :=
  if s.asleep then s
  else
    match f? with
    | some f => arriveAndServe f owner (finishReplies s.lnk.inbox.length s)
    | none => s

/-- The reply of LOAD_SETTINGS after its load (R191). -/
def replyToLoad (s : State) : State :=
  match s.lnk.inbox with
  | f :: _ => sendReply f .ok [] s
  | [] => s

/-- The end of a load: at power-on, or for LOAD_SETTINGS, whose reply follows (R190, R191). -/
def loadEnds (s : State) : State :=
  match s.sst.activity with
  | .powerOnLoad => if s.pins.resetLow then s else finishLoad s
  | .loading => replyToLoad (settle (finishLoad s))
  | _ => s

end Sys2Proof.Machine
end

