-- ==== Sys2Proof/Machine/ResetCommands.lean ====
section
/-!
DEFINITION. The meanings of the reset commands and of the end of a load. No command of the part ends in a fault or a
refusal.
-/

namespace Sys2Proof.Machine

/-- What a step of a command answers. -/
abbrev Result := Host.Outcome State Fault Refusal

/-- A command that acts only while the part is awake: in power-on reset and until its load has ended nothing happens (R1,
R176, R191, log 18). -/
def whileAwake (f : State → State) (s : State) : State := if s.asleep then s else f s

/-- POWER_ON_RESET (R191). -/
def execPowerOnReset (s : State) : Result := .next (powerOnReset s)

/-- RESET_N_ASSERTED (R196). -/
def execResetNAsserted (s : State) : Result := .next (holdInReset s)

/-- SOFT_RESET (R185). -/
def execSoftReset (s : State) : Result := .next (whileAwake softReset s)

/-- LOAD_END (R190). -/
def execLoadEnd (s : State) : Result := .next (loadEnds s)

end Sys2Proof.Machine
end

