-- ==== Sys2Proof/Machine/LinkCommands.lean ====
section
/-!
DEFINITION. The meanings of the receiver's and transmitter's commands and of the requests. A request command is its frame
arriving on a free link and handled (R178, log 3).
-/

namespace Sys2Proof.Machine

/-- RX_BYTE (R176). -/
def execRxByte (b : Byte) (s : State) : Result := .next (whileAwake (takeByte b) s)

/-- RX_FRAMING_ERROR (R174). -/
def execRxFramingError (s : State) : Result := .next (whileAwake breakFrame s)

/-- FRAME_GAP_TIMEOUT (R176). -/
def execFrameGapTimeout (s : State) : Result := .next (whileAwake breakFrame s)

/-- REPLY_TRANSMITTED (R178). -/
def execReplyTransmitted (s : State) : Result := .next (whileAwake replySent s)

/-- UNKNOWN_KIND (R180): a frame whose kind is no request kind; a kind that is one is handled as that request (log 23). -/
def execUnknownKind (kind tag : Byte) (payload : List Byte) (s : State) : Result :=
  .next (request (frameOf (.unknownKind kind tag payload)) (handle ⟨kind, tag, payload⟩) s)

/-- IDENTIFY (R181). -/
def execIdentify (tag : Byte) (s : State) : Result :=
  .next (request (frameOf (.identify tag)) (fun s => reads (identifyBytes s) s) s)

/-- GET_STATUS (R184). -/
def execGetStatus (tag : Byte) (s : State) : Result :=
  .next (request (frameOf (.getStatus tag)) (fun s => reads (statusBytes s) s) s)

/-- GET_TRIP (R148). -/
def execGetTrip (tag : Byte) (s : State) : Result :=
  .next (request (frameOf (.getTrip tag)) (fun s => reads (getTripBytes s) s) s)

/-- START (R137). -/
def execStart (tag : Byte) (s : State) : Result :=
  .next (request (frameOf (.start tag)) takeStart s)

/-- STOP_SOFT (R141). -/
def execStopSoft (tag : Byte) (s : State) : Result :=
  .next (request (frameOf (.stopSoft tag)) takeStopSoft s)

/-- STOP_IMMEDIATE (R141). -/
def execStopImmediate (tag : Byte) (s : State) : Result :=
  .next (request (frameOf (.stopImmediate tag)) takeStopImmediate s)

/-- CLEAR_HALT (R149). -/
def execClearHalt (tag : Byte) (s : State) : Result :=
  .next (request (frameOf (.clearHalt tag)) takeClearHalt s)

/-- SET_TARGETS (R55). -/
def execSetTargets (tag : Byte) (pairs : List (Byte × BitVec 16)) (s : State) : Result :=
  .next (request (frameOf (.setTargets tag pairs)) (takeSetTargets pairs) s)

/-- GET_PARAM (R182). -/
def execGetParam (tag : Byte) (ids : List Byte) (s : State) : Result :=
  .next (request (frameOf (.getParam tag ids)) (takeGetParam ids) s)

/-- SET_PARAM (R183). -/
def execSetParam (tag : Byte) (pairs : List (Byte × BitVec 32)) (s : State) : Result :=
  .next (request (frameOf (.setParam tag pairs)) (takeSetParam pairs) s)

/-- WRITE_SLOTS (R52). -/
def execWriteSlots (tag first : Byte) (recs : List SlotRec) (s : State) : Result :=
  .next (request (frameOf (.writeSlots tag first recs)) (takeWriteSlots first recs) s)

/-- READ_SLOTS (R53). -/
def execReadSlots (tag first count : Byte) (s : State) : Result :=
  .next (request (frameOf (.readSlots tag first count)) (takeReadSlots first count) s)

/-- WRITE_RESPONSES (R131). -/
def execWriteResponses (tag first : Byte) (recs : List ResponseRec) (s : State) : Result :=
  .next (request (frameOf (.writeResponses tag first recs)) (takeWriteResponses first recs) s)

/-- READ_RESPONSES (R133). -/
def execReadResponses (tag first count : Byte) (s : State) : Result :=
  .next (request (frameOf (.readResponses tag first count)) (takeReadResponses first count) s)

/-- CLEAR_MARKS (R130). -/
def execClearMarks (tag : Byte) (mask : BitVec 32) (s : State) : Result :=
  .next (request (frameOf (.clearMarks tag mask)) (takeClearMarks mask) s)

/-- WRITE_FILTER (R13). -/
def execWriteFilter (tag : Byte) (recs : List FilterRec) (s : State) : Result :=
  .next (request (frameOf (.writeFilter tag recs)) (takeWriteFilter recs) s)

/-- READ_FILTER (R14). -/
def execReadFilter (tag : Byte) (s : State) : Result :=
  .next (request (frameOf (.readFilter tag)) (fun s => reads (filterBytes s) s) s)

/-- FILTER_CONTROL with mode ENABLE (R11). -/
def execFilterControlEnable (tag : Byte) (s : State) : Result :=
  .next (request (frameOf (.filterControlEnable tag)) takeFilterEnable s)

/-- FILTER_CONTROL with mode DISABLE (R12). -/
def execFilterControlDisable (tag : Byte) (s : State) : Result :=
  .next (request (frameOf (.filterControlDisable tag)) takeFilterDisable s)

/-- WRITE_TRIM (R4). -/
def execWriteTrim (tag : Byte) (recs : List TrimRec) (s : State) : Result :=
  .next (request (frameOf (.writeTrim tag recs)) (takeWriteTrim recs) s)

/-- READ_TRIM (R5). -/
def execReadTrim (tag first count : Byte) (s : State) : Result :=
  .next (request (frameOf (.readTrim tag first count)) (takeReadTrim first count) s)

/-- READ_HISTORY (R115). -/
def execReadHistory (tag offset count : Byte) (s : State) : Result :=
  .next (request (frameOf (.readHistory tag offset count)) (takeReadHistory offset count) s)

/-- FETCH_NOTICES (R157). -/
def execFetchNotices (tag : Byte) (s : State) : Result :=
  .next (request (frameOf (.fetchNotices tag)) (fun s => reads (fetchBytes s) s) s)

/-- ACK_NOTICES (R158). -/
def execAckNotices (tag : Byte) (sources : List Byte) (s : State) : Result :=
  .next (request (frameOf (.ackNotices tag sources)) (takeAckNotices sources) s)

/-- SET_NOTICE_ENABLE with mode ASSIGN (R159). -/
def execSetNoticeEnableAssign (tag : Byte) (mask : BitVec 24) (s : State) : Result :=
  .next (request (frameOf (.setNoticeEnableAssign tag mask)) (takeSetEnable fun i _ => mask.getLsbD i.1) s)

/-- SET_NOTICE_ENABLE with mode SET (R159). -/
def execSetNoticeEnableSet (tag : Byte) (mask : BitVec 24) (s : State) : Result :=
  .next (request (frameOf (.setNoticeEnableSet tag mask)) (takeSetEnable fun i e => e || mask.getLsbD i.1) s)

/-- SET_NOTICE_ENABLE with mode CLEAR (R159). -/
def execSetNoticeEnableClear (tag : Byte) (mask : BitVec 24) (s : State) : Result :=
  .next (request (frameOf (.setNoticeEnableClear tag mask)) (takeSetEnable fun i e => e && !mask.getLsbD i.1) s)

/-- SET_NOTICE_LEVELS (R160). -/
def execSetNoticeLevels (tag : Byte) (pairs : List (Byte × Byte)) (s : State) : Result :=
  .next (request (frameOf (.setNoticeLevels tag pairs)) (takeSetLevels pairs) s)

/-- SET_WATCH (R164). -/
def execSetWatch (tag unit signal : Byte) (threshold : BitVec 32) (direction mode : Byte) (s : State) : Result :=
  .next (request (frameOf (.setWatch tag unit signal threshold direction mode))
    (takeSetWatch unit signal threshold direction mode) s)

/-- REARM_WATCH (R165). -/
def execRearmWatch (tag mask : Byte) (s : State) : Result :=
  .next (request (frameOf (.rearmWatch tag mask)) (takeRearm mask) s)

/-- TRACE_CONTROL with mode ARM (R169). -/
def execTraceControlArm (tag : Byte) (s : State) : Result :=
  .next (request (frameOf (.traceControlArm tag)) takeArm s)

/-- TRACE_CONTROL with mode DISABLE (R169). -/
def execTraceControlDisable (tag : Byte) (s : State) : Result :=
  .next (request (frameOf (.traceControlDisable tag)) takeDisable s)

/-- TRACE_CONTROL with mode TRIGGER (R169). -/
def execTraceControlTrigger (tag : Byte) (s : State) : Result :=
  .next (request (frameOf (.traceControlTrigger tag)) takeTraceTrigger s)

/-- TRACE_CONTROL with mode SET_MASK (R169). -/
def execTraceControlSetMask (tag : Byte) (mask : BitVec 24) (s : State) : Result :=
  .next (request (frameOf (.traceControlSetMask tag mask)) (takeSetMask mask) s)

/-- READ_TRACE (R170). -/
def execReadTrace (tag : Byte) (first : BitVec 16) (count : Byte) (s : State) : Result :=
  .next (request (frameOf (.readTrace tag first count)) (takeReadTrace first count) s)

/-- SAVE_SETTINGS (R192). -/
def execSaveSettings (tag : Byte) (s : State) : Result :=
  .next (request (frameOf (.saveSettings tag)) takeSaveSettings s)

/-- LOAD_SETTINGS (R191). -/
def execLoadSettings (tag : Byte) (s : State) : Result :=
  .next (request (frameOf (.loadSettings tag)) takeLoadSettings s)

/-- READ_STORE (R194). -/
def execReadStore (tag : Byte) (s : State) : Result :=
  .next (request (frameOf (.readStore tag)) takeReadStore s)

/-- RESET (R185): OK, and the soft reset once its reply has been transmitted. -/
def execReset (tag : Byte) (s : State) : Result :=
  .next (request (frameOf (.reset tag)) (fun s => (s, .ok)) s)

end Sys2Proof.Machine
end

