-- ==== Sys2Proof/Machine/StoreCommands.lean ====
section
/-!
DEFINITION. The meaning of the store writer's command.
-/

namespace Sys2Proof.Machine

/-- SAVE_ROW_WRITTEN (R192): the row being written, with the bits in which it came out wrong; nothing outside a save. -/
def execSaveRowWritten (errors : BitVec 39) (s : State) : Result :=
  .next (match s.sst.activity with
    | .saving n => saveRow n errors s
    | _ => s)

end Sys2Proof.Machine
end

