-- ==== Sys2Proof/Machine/Watches.lean ====
section
/-!
DEFINITION. The watch units at an angle update (R162, R163).
-/

namespace Sys2Proof.Machine

/-- The value of a watch signal at an update; the ALPHA signals are read from the regulator as it stands (R162). -/
def signalValue (u : AngleUpdate) (s : State) : WatchSignal → Int
  | .mag => u.m
  | .freqChz => centihertz u.w
  | .phaseErrAbs => u.e.natAbs
  | .unbal => u.uLast
  | .iMeas b => (u.set.idc.get b).toInt
  | .vdc => u.set.vdc.toInt
  | .alpha b => (s.crg.bridges.get b).alphaPrev

/-- A watch unit's condition at an update (R163). -/
def watchCondition (u : AngleUpdate) (s : State) (c : WatchConfig) : Bool :=
  if c.above then decide (c.threshold < signalValue u s c.signal) else decide (signalValue u s c.signal < c.threshold)

/-- The unit raises its source: its condition turns TRUE while it is armed (R163). -/
def watchFires (u : AngleUpdate) (s : State) (w : Watch) : Bool :=
  watchCondition u s w.config && !w.condition && w.armed

/-- A unit after an update: disarmed by an occurrence in mode ONCE, its condition state kept current (R163). -/
def watchAfter (u : AngleUpdate) (s : State) (w : Watch) : Watch :=
  { w with armed := w.armed && !(watchFires u s w && w.config.once), condition := watchCondition u s w.config }

/-- One unit takes an update (R163). -/
def watchUnit (u : AngleUpdate) (n : Fin 4) (s : State) : State :=
  let w := s.wcu.units.get n
  let t := s.withWcu ⟨s.wcu.units.set n (watchAfter u s w)⟩
  if watchFires u s w then occur (Source.ofWatch n) t else t

/-- The watch units take an angle update (R163), unit 0 first: R155 and R163 state no order among units that fire at one
update, and the order of their numbers is the model's choice (log 27). -/
def watchStep (u : AngleUpdate) (s : State) : State :=
  watchUnit u 3 (watchUnit u 2 (watchUnit u 1 (watchUnit u 0 s)))

end Sys2Proof.Machine
end

