-- ==== Sys2Proof/Machine/Update.lean ====
section
/-!
DEFINITION. One conversion set and the angle update that follows from it (chapter 1.4.1, R1, R6, R10, R17): the front end,
the filter bank and the tracker one after another, then the blocks that take the update, in the order that the tape of
orders gives (log 4).
-/

namespace Sys2Proof.Machine

/-- What a block does within one angle update. -/
inductive Deed where
  /-- the slot sequencer takes the update: it reads the run state and sees the block reasons (R44, R46) -/
  | take
  /-- the sequencer and the firing list at the path point of this distance (R43, R73) -/
  | path (d : Nat)
  /-- the firing list's samples and retirements after the update's crossings (R79, R84) -/
  | listEnd
  /-- the run controller's check of the trimmed set, where it does not come first (R143) -/
  | trip
  /-- the governor (R94) -/
  | governor
  /-- the regulator's ramp step (R59), at which it reads the governor for the whole update (R57) -/
  | ramp
  /-- the run controller (R139, R142, R151) -/
  | run
  /-- the watch units (R163) -/
  | watch
  deriving DecidableEq, Repr

/-- DONE heads retire, in order, each halt request taken at once (R84, R87). All retirements of an update are one deed, so no
trigger of another block comes between two of them: R167 allows it there, and that the model does not is its choice (log
27). -/
def retireDone : Nat → State → State
  | 0, s => s
  | n + 1, s =>
    match s.fls.list with
    | [] => s
    | e :: _ =>
      if e.state = .done then
        let r := retireHead s
        retireDone n (askHalt (r.2.map .misfire) r.1)
      else s

/-- The samples, then the retirements, of an update (R79, R84), with no trigger of another block between two retirements
(log 27). -/
def listEnd (u : AngleUpdate) (s : State) : State :=
  let t := sampleWindows u s
  retireDone t.fls.list.length t

/-- The governor takes the update. What its clear lifts is taken before a halt that the clear's close has asked for (R88). -/
def governorDeed (u : AngleUpdate) (s : State) : State :=
  let r := governorStep u s
  askHalt r.2 (takeUnblock r.1)

/-- What a deed leaves of what the update is taken under. -/
def View.after (v : View) (d : Deed) (s : State) : View :=
  match d with
  | .take => { v with live := s.active, unseen := !s.union }
  | .ramp => { v with floor := s.floorEp }
  | _ => v

/-- What the update is taken under at a place of the agenda: from the order's own place on the sequencer sees the block
reasons as they stand (R46, log 4). -/
def View.at (v : View) (o : UpdateOrder) (k : Nat) : View := { v with unseen := v.unseen && decide (k < o.sight) }

/-- A deed done. All that the sequencer and the firing list do at one path point is one deed, so no other block acts between
the crossings of two entries at one angle. R81 and R89 allow it there, and that the model does not is its choice (log 29). -/
def doDeed (v : View) (u : AngleUpdate) (d : Deed) (s : State) : State :=
  match d with
  | .take => s
  | .path n => pathPoint v u ((u.thetaPrev + n) % 23040) s
  | .listEnd => listEnd u s
  | .trip => tripCheck s
  | .governor => governorDeed u s
  | .ramp => rampStep s
  | .run => runStep u s
  | .watch => watchStep u s

/-- The path deeds of an update, each with its key, and the end of the list's part. A reseat crosses no angle (R42). -/
def pathDeeds (u : AngleUpdate) : List (Nat × Deed) :=
  let delta := if u.reseat then 0 else arc u.thetaPrev u.thetaNew
  (List.range delta).map (fun i => (16 * (i + 1), .path (i + 1))) ++ [(16 * (delta + 1), .listEnd)]

/-- A deed placed by its key, behind those of its own key. -/
def placeDeed (k : Nat) (d : Deed) : List (Nat × Deed) → List (Nat × Deed)
  | [] => [(k, d)]
  | x :: rest => if k < x.1 then (k, d) :: x :: rest else x :: placeDeed k d rest

/-- The deeds of an update in the order given (log 4); the sequencer takes the update, and the regulator its ramp step (R59),
before the first path point. -/
def agenda (o : UpdateOrder) (u : AngleUpdate) : List (Nat × Deed) :=
  let l := placeDeed o.watch .watch (placeDeed o.run .run (placeDeed (min 15 o.ramp) .ramp
    (placeDeed (min 15 o.take) .take (placeDeed o.governor .governor (pathDeeds u)))))
  if o.tripFirst then l else placeDeed o.trip .trip l

/-- The union of block reasons taken at a place of the agenda: a lifted one always, a risen one from the order's own place
on (R89, log 4). -/
def settleAt (o : UpdateOrder) (k : Nat) (s : State) : State :=
  if o.close ≤ k then settle s else takeUnblock s

/-- The deeds done one after another. -/
def doDeeds (o : UpdateOrder) (u : AngleUpdate) : View → List (Nat × Deed) → State → State
  | _, [], s => settle s
  | v, x :: rest, s =>
    let t := settleAt o x.1 s
    doDeeds o u (v.after x.2 t) rest (doDeed (v.at o x.1) u x.2 t)

/-- Every block takes an angle update. -/
def takeUpdate (u : AngleUpdate) (s : State) : State :=
  let t := takeReseat u s
  doDeeds s.order u t.view (agenda s.order u) t

/-- The tracker's part of a conversion set, and the blocks that take its angle update (R17). -/
def trackAndTake (f : FilteredSet) (s : State) : State :=
  let t := trackerUpdate f s
  match t.atr.last with
  | some u => takeUpdate u t
  | none => settle t

/-- The filter bank's part of a conversion set and what follows it (R10). -/
def filterAndTrack (t : TrimmedSet) (s : State) : State :=
  let v := filterSet t s
  match v.ffb.filtered with
  | some f => trackAndTake f v
  | none => settle v

/-- One conversion set (R1): completed, checked (R143), filtered, tracked, taken by every block; its order is used up. The
block reason of a halt that the check brings about is taken by the firing list from the order's own place on, as any other
(R89, R146, log 4). The check comes before the filter bank or after the tracker's update, never between the two; R6 gives it
no order there, and this is the model's choice (log 29). -/
def conversionSet (raw : RawSet) (s : State) : State :=
  let c := completeSet raw s
  let d := if s.order.tripFirst then settleAt s.order 0 (tripCheck c) else c
  State.dropOrder (match d.mfe.trimmed with
    | some t => filterAndTrack t d
    | none => settle d)

end Sys2Proof.Machine
end

