-- ==== Sys2Proof/Machine/UpdateCommands.lean ====
section
/-!
DEFINITION. The meanings of CONVERSION_SET, of the plant line, and of the events that the blocks bring about inside a
conversion set or a request. Sent by itself, such an event is taken when its own condition stands, and changes nothing
otherwise (log 1); the other blocks then take what it changes (R88).
-/

namespace Sys2Proof.Machine

/-- An event of the governor that needs the last angle update: taken in RUN and STOPPING (R94) when its test holds, with
the halt it asks for (log 5). -/
def governorEvent (due : AngleUpdate → State → Bool) (act : AngleUpdate → State → State × Option HaltCause) (s : State) :
    State :=
  match s.atr.last with
  | some u => if s.running && due u s then settle (let r := act u s; askHalt r.2 r.1) else s
  | none => s

/-- CONVERSION_SET (R1, and all that follows from it within the update). -/
def execConversionSet (raw : RawSet) (s : State) : Result := .next (whileAwake (conversionSet raw) s)

/-- The lock count of a seated SEARCH has reached LOCK_COUNT and no reseat request is pending (R28, R35). -/
def lockDue (s : State) : Bool :=
  s.atr.state == .search && s.atr.seated && !s.atr.reseatRequest && decide (s.parN .lockCount ≤ s.atr.lockCount)

/-- LOCKED is entered from SEARCH (R28). -/
def enterLocked (s : State) : State := occur .trackLocked (s.withAtr { s.atr with state := .locked, lockCount := 0 })

/-- TRACK_LOCKED (R28). -/
def execTrackLocked (s : State) : Result :=
  .next (whileAwake (fun s => if lockDue s then settle (enterLocked s) else s) s)

/-- The hold count has reached HOLD_LIMIT × 20 in HOLD and no reseat request is pending (R31, R35). -/
def lossDue (s : State) : Bool :=
  s.atr.state == .hold && !s.atr.reseatRequest && decide (s.parMs .holdLimit ≤ s.atr.holdCount)

/-- LOST is entered from HOLD (R31). -/
def enterLost (s : State) : State := occur .trackLost (s.withAtr { s.atr with state := .lost })

/-- TRACK_LOST (R31). -/
def execTrackLost (s : State) : Result := .next (whileAwake (fun s => if lossDue s then settle (enterLost s) else s) s)

/-- A slot's last retirement is a MISFIRE that stands at MISFIRE_LIMIT (R87). -/
def misfireDue (k : Fin 24) (s : State) : Bool :=
  decide (s.parN .misfireLimit ≤ (s.fls.status.get k).consecutive)
    && (match (s.fls.status.get k).last with | some l => l.outcome == .misfire | none => false)

/-- MISFIRE_LIMIT_REACHED (R87). -/
def execMisfireLimitReached (k : Fin 24) (s : State) : Result :=
  .next (whileAwake (fun s => if misfireDue k s then settle (takeHalt (.misfire k) s) else s) s)

/-- TRACE_FROZEN (R168). -/
def execTraceFrozen (s : State) : Result := .next (whileAwake judgeFreeze s)

/-- The D count has reached ONSET_COUNT outside an episode (R96, R98). -/
def onsetDue (_ : AngleUpdate) (s : State) : Bool :=
  !(s.dgv.state == .episode) && decide (s.parN .onsetCount ≤ s.dgv.dCount)

/-- EPISODE_ONSET (R98). -/
def execEpisodeOnset (s : State) : Result := .next (whileAwake (governorEvent onsetDue onset) s)

/-- The hold of the copy has run out in EPISODE (R106). -/
def expiryDue (u : AngleUpdate) (s : State) : Bool := s.dgv.state == .episode && holdDue u s

/-- HOLD_EXPIRY (R106). -/
def execHoldExpiry (s : State) : Result := .next (whileAwake (governorEvent expiryDue fun _ => expire) s)

/-- The episode has lasted EPISODE_MAX (R107). -/
def longDue (u : AngleUpdate) (s : State) : Bool := s.dgv.state == .episode && tooLong u s

/-- EPISODE_LONG (R107). -/
def execEpisodeLong (s : State) : Result :=
  .next (whileAwake (governorEvent longDue fun _ s => (s, some .episodeLong)) s)

/-- The C count has reached CLEAR_COUNT in EPISODE (R108, R109). -/
def clearDue (_ : AngleUpdate) (s : State) : Bool :=
  s.dgv.state == .episode && decide (s.parN .clearCount ≤ s.dgv.cCount)

/-- EPISODE_CLEAR (R109). -/
def execEpisodeClear (s : State) : Result :=
  .next (whileAwake (governorEvent clearDue fun u s => (clearEpisode u s, none)) s)

/-- The recovery count has reached ramp_ms × 20 in RECOVERY (R111). -/
def recoveryDue (_ : AngleUpdate) (s : State) : Bool :=
  s.dgv.state == .recovery && decide (rampLength s ≤ s.dgv.recovery)

/-- RECOVERY_DONE (R111). -/
def execRecoveryDone (s : State) : Result :=
  .next (whileAwake (governorEvent recoveryDue fun _ s => (endRecovery s, none)) s)

/-- The run state is STANDBY or HALT, which ends an episode or a recovery (R113). -/
def runOver (s : State) : Bool := s.rct.state == .standby || s.rct.state == .halt

/-- EPISODE_END (R113). -/
def execEpisodeEnd (s : State) : Result :=
  .next (whileAwake (fun s => if runOver s then settle (endEpisode s) else s) s)

/-- LIST_CLOSE (R89): a risen union taken, with the halts its retirements ask for. -/
def execListClose (s : State) : Result :=
  .next (whileAwake (fun s => let r := takeClose s; askMisfires r.2 r.1) s)

/-- UNBLOCK (R88): a lifted union taken. -/
def execUnblock (s : State) : Result := .next (whileAwake takeUnblock s)

/-- RUN_ENTERED (R139). -/
def execRunEntered (s : State) : Result :=
  .next (whileAwake (fun s => if s.rct.state = .sync ∧ settled s then settle (enterRun s) else s) s)

/-- SYNC_FAILED (R140). -/
def execSyncFailed (s : State) : Result :=
  .next (whileAwake (fun s =>
    if s.rct.state = .sync ∧ syncTimedOut s ∧ !settled s then settle (toStandby (some .syncFailed) s) else s) s)

/-- STOP_DONE (R142). -/
def execStopDone (s : State) : Result :=
  .next (whileAwake (fun s => if s.rct.state = .stopping then settle (judgeStop s) else s) s)

/-- SUPERVISION_LAPSE (R151). -/
def execSupervisionLapse (s : State) : Result :=
  .next (whileAwake (fun s => if lapseDue s then settle (lapse s) else s) s)

/-- HALT_CAUSE (R145). -/
def execHaltCause (c : HaltCause) (s : State) : Result := .next (whileAwake (fun s => settle (takeHalt c s)) s)

/-- TRIP_IN_ASSERT (R144): the line holds its level through a reset (R154), so its level is followed in a reset too. -/
def execTripInAssert (s : State) : Result :=
  .next (settle (if s.asleep then s.withRct { s.rct with tripIn := true } else assertTripIn s))

/-- TRIP_IN_RELEASE (R144), followed in a reset too. -/
def execTripInRelease (s : State) : Result := .next (settle (releaseTripIn s))

end Sys2Proof.Machine
end

