-- ==== Sys2Proof/Machine/Dispatch.lean ====
section
/-!
DEFINITION. The meaning of a command: one arm per row of the table of operations and events.
-/

namespace Sys2Proof.Machine

def exec (i : Instr) (s : State) : Host.Outcome State Fault Refusal :=
  match i with
  | .powerOnReset => Sys2Proof.Machine.execPowerOnReset s
  | .loadEnd => Sys2Proof.Machine.execLoadEnd s
  | .softReset => Sys2Proof.Machine.execSoftReset s
  | .conversionSet raw => Sys2Proof.Machine.execConversionSet raw s
  | .trackLocked => Sys2Proof.Machine.execTrackLocked s
  | .trackLost => Sys2Proof.Machine.execTrackLost s
  | .misfireLimitReached slot => Sys2Proof.Machine.execMisfireLimitReached slot s
  | .traceFrozen => Sys2Proof.Machine.execTraceFrozen s
  | .episodeOnset => Sys2Proof.Machine.execEpisodeOnset s
  | .holdExpiry => Sys2Proof.Machine.execHoldExpiry s
  | .episodeLong => Sys2Proof.Machine.execEpisodeLong s
  | .episodeClear => Sys2Proof.Machine.execEpisodeClear s
  | .recoveryDone => Sys2Proof.Machine.execRecoveryDone s
  | .episodeEnd => Sys2Proof.Machine.execEpisodeEnd s
  | .listClose => Sys2Proof.Machine.execListClose s
  | .unblock => Sys2Proof.Machine.execUnblock s
  | .runEntered => Sys2Proof.Machine.execRunEntered s
  | .syncFailed => Sys2Proof.Machine.execSyncFailed s
  | .stopDone => Sys2Proof.Machine.execStopDone s
  | .supervisionLapse => Sys2Proof.Machine.execSupervisionLapse s
  | .haltCause cause => Sys2Proof.Machine.execHaltCause cause s
  | .tripInAssert => Sys2Proof.Machine.execTripInAssert s
  | .tripInRelease => Sys2Proof.Machine.execTripInRelease s
  | .rxByte byte => Sys2Proof.Machine.execRxByte byte s
  | .rxFramingError => Sys2Proof.Machine.execRxFramingError s
  | .frameGapTimeout => Sys2Proof.Machine.execFrameGapTimeout s
  | .replyTransmitted => Sys2Proof.Machine.execReplyTransmitted s
  | .unknownKind kind tag payload => Sys2Proof.Machine.execUnknownKind kind tag payload s
  | .identify tag => Sys2Proof.Machine.execIdentify tag s
  | .getStatus tag => Sys2Proof.Machine.execGetStatus tag s
  | .getTrip tag => Sys2Proof.Machine.execGetTrip tag s
  | .start tag => Sys2Proof.Machine.execStart tag s
  | .stopSoft tag => Sys2Proof.Machine.execStopSoft tag s
  | .stopImmediate tag => Sys2Proof.Machine.execStopImmediate tag s
  | .clearHalt tag => Sys2Proof.Machine.execClearHalt tag s
  | .setTargets tag pairs => Sys2Proof.Machine.execSetTargets tag pairs s
  | .getParam tag ids => Sys2Proof.Machine.execGetParam tag ids s
  | .setParam tag pairs => Sys2Proof.Machine.execSetParam tag pairs s
  | .writeSlots tag first recs => Sys2Proof.Machine.execWriteSlots tag first recs s
  | .readSlots tag first count => Sys2Proof.Machine.execReadSlots tag first count s
  | .writeResponses tag first recs => Sys2Proof.Machine.execWriteResponses tag first recs s
  | .readResponses tag first count => Sys2Proof.Machine.execReadResponses tag first count s
  | .clearMarks tag mask => Sys2Proof.Machine.execClearMarks tag mask s
  | .writeFilter tag recs => Sys2Proof.Machine.execWriteFilter tag recs s
  | .readFilter tag => Sys2Proof.Machine.execReadFilter tag s
  | .filterControlEnable tag => Sys2Proof.Machine.execFilterControlEnable tag s
  | .filterControlDisable tag => Sys2Proof.Machine.execFilterControlDisable tag s
  | .writeTrim tag recs => Sys2Proof.Machine.execWriteTrim tag recs s
  | .readTrim tag first count => Sys2Proof.Machine.execReadTrim tag first count s
  | .readHistory tag offset count => Sys2Proof.Machine.execReadHistory tag offset count s
  | .fetchNotices tag => Sys2Proof.Machine.execFetchNotices tag s
  | .ackNotices tag sources => Sys2Proof.Machine.execAckNotices tag sources s
  | .setNoticeEnableAssign tag mask => Sys2Proof.Machine.execSetNoticeEnableAssign tag mask s
  | .setNoticeEnableSet tag mask => Sys2Proof.Machine.execSetNoticeEnableSet tag mask s
  | .setNoticeEnableClear tag mask => Sys2Proof.Machine.execSetNoticeEnableClear tag mask s
  | .setNoticeLevels tag pairs => Sys2Proof.Machine.execSetNoticeLevels tag pairs s
  | .setWatch tag unit signal threshold direction mode => Sys2Proof.Machine.execSetWatch tag unit signal threshold direction mode s
  | .rearmWatch tag mask => Sys2Proof.Machine.execRearmWatch tag mask s
  | .traceControlArm tag => Sys2Proof.Machine.execTraceControlArm tag s
  | .traceControlDisable tag => Sys2Proof.Machine.execTraceControlDisable tag s
  | .traceControlTrigger tag => Sys2Proof.Machine.execTraceControlTrigger tag s
  | .traceControlSetMask tag mask => Sys2Proof.Machine.execTraceControlSetMask tag mask s
  | .readTrace tag first count => Sys2Proof.Machine.execReadTrace tag first count s
  | .saveSettings tag => Sys2Proof.Machine.execSaveSettings tag s
  | .saveRowWritten errors => Sys2Proof.Machine.execSaveRowWritten errors s
  | .loadSettings tag => Sys2Proof.Machine.execLoadSettings tag s
  | .readStore tag => Sys2Proof.Machine.execReadStore tag s
  | .reset tag => Sys2Proof.Machine.execReset tag s
  | .resetNAsserted => Sys2Proof.Machine.execResetNAsserted s

end Sys2Proof.Machine
end

