-- ==== Sys2Proof/Safety.lean ====
section
/-!
DEFINITION. What claims call a sound state: the relations between blocks that the chapters promise and that every command
keeps.
-/

namespace Sys2Proof.Machine

/-- The firing list has taken the union of block reasons as it stands, and holds no entry while blocked (R88, R90). -/
def State.ListSettled (s : State) : Prop := s.fls.blocked = s.union ∧ (s.fls.blocked = true → s.fls.list = [])

/-- ALERT is asserted exactly while a latched, enabled source stands at or above the floor (R156). -/
def State.AlertTrue (s : State) : Prop := s.ntu.alert = s.alertDue

/-- The governor's promises (R94, R100, R101, R113, R116): EPISODE and RECOVERY lie within RUN and STOPPING; RIDE_OUT is
asserted, and a copy and a kind are held, exactly in them; block and freeze are present only in EPISODE. -/
def State.GovernorSound (s : State) : Prop :=
  (s.dgv.state ≠ .steady → s.running = true)
  ∧ (s.dgv.rideOut = true ↔ s.dgv.state ≠ .steady)
  ∧ (s.dgv.copy.isSome = true ↔ s.dgv.state ≠ .steady)
  ∧ (s.dgv.kind.isSome = true ↔ s.dgv.state ≠ .steady)
  ∧ ((s.dgv.block = true ∨ s.dgv.freeze = true) → s.dgv.state = .episode)

/-- Setpoints are 0 outside RUN and STOPPING (R58). -/
def State.SetpointsOff (s : State) : Prop := s.running = false → ∀ b, (s.crg.bridges.get b).setpoint = 0

/-- No target and no setpoint exceeds I_MAX (R55, R56, R59), with what keeps the limit in force at or below it: the i_limit
of every entry and of the copy (R57), and the recovery count within the copy's ramp (R111). -/
def State.Limited (s : State) : Prop :=
  (∀ b, (s.crg.bridges.get b).target ≤ s.parN .iMax ∧ (s.crg.bridges.get b).setpoint ≤ s.parN .iMax * 256)
  ∧ (∀ i, (s.rtb.entries.get i).resp.iLimit ≤ 4096)
  ∧ (∀ c, s.dgv.copy = some c → c.resp.iLimit ≤ 4096
      ∧ (s.dgv.state = .recovery → s.dgv.recovery ≤ c.resp.rampMs * Config.updatesPerMs))

/-- The tracker's values lie in their ranges: W between its clamps, P and the measured angle within one cycle, m and e
(R19, R20, R22, R23). -/
def State.TrackerInRange (s : State) : Prop :=
  13271 ≤ s.atr.w ∧ s.atr.w ≤ 19169 ∧ s.atr.p < 5898240 ∧ s.atr.thetaMeas < 23040 ∧ s.atr.m ≤ 8191
  ∧ -11520 ≤ s.atr.e ∧ s.atr.e ≤ 11519

/-- Ring, history and inbox hold no more than the chapters allow (R114, R166, R177). -/
def State.BuffersInRange (s : State) : Prop :=
  s.trc.ring.length ≤ 256 ∧ s.dgv.history.length ≤ 16 ∧ s.lnk.inbox.length ≤ 2

/-- Every gate line is OFF unless pulses are allowed: RUN or STOPPING with no block reason present (R77, R78, R88). -/
def State.GatesSafe (s : State) : Prop := ∀ g, s.gateOn g = true → s.running = true ∧ s.union = false

/-- Every parameter in force lies in its range (R183, R190). -/
def State.ParamsInRange (s : State) : Prop := ∀ p : ParamId, p.inRange (s.par p) = true

end Sys2Proof.Machine
end

