-- ==== Sys2Proof/WellFormed.lean ====
section
/-!
DEFINITION. Which commands the part's surroundings can send: a request fits its frame, an unknown kind is one, and a halt
cause carries a detail that its reason has.
-/

namespace Sys2Proof

/-- The kind codes of the request table (R187). -/
def requestKinds : List Byte :=
  [0x01, 0x02, 0x03, 0x08, 0x09, 0x0A, 0x10, 0x11, 0x12, 0x18, 0x19, 0x1A, 0x1B, 0x1C, 0x20, 0x21, 0x22, 0x23, 0x24, 0x28,
   0x30, 0x31, 0x32, 0x33, 0x34, 0x35, 0x38, 0x39, 0x3C, 0x3D, 0x3E, 0x3F]

/-- A payload fits a frame: at most 238 bytes (section 10.2). -/
def Instr.fitsFrame (i : Instr) : Bool :=
  match Machine.frameOf i with
  | some f => decide (f.payload.length ≤ 238)
  | none => true

/-- The detail of a halt cause is one that its reason has: an entry or DEFAULT for RESPONSE and EXPIRY (8.5). -/
def HaltCause.hasDetail : HaltCause → Bool
  | .response ix => ix != .none
  | .expiry ix => ix != .none
  | _ => true

/-- A command that the part's surroundings can send. -/
def Instr.wellFormed (i : Instr) : Bool :=
  i.fitsFrame &&
    match i with
    | .unknownKind kind _ _ => !requestKinds.contains kind
    | .haltCause c => c.hasDetail
    | _ => true

end Sys2Proof
end

