-- ==== Sys2Proof/Certificates/Slice0/Obligations.lean ====
section
/-!
DEFINITION. The statements for the provers, from the numbered rules of spec/. The words they share stand first, in
`Sys2Proof.Claims`. A next state is written as the state before with the fields that change, so that every field not named
is unchanged.
-/

namespace Sys2Proof.Claims

open Sys2Proof.Machine

/-- The part is awake, its inbox is empty, and the firing list has taken the union of block reasons as it stands: a request
sent now is handled at once (R178). -/
def Free (s : State) : Prop := s.asleep = false ∧ s.lnk.inbox = [] ∧ s.ListSettled

/-- What a request leaves of a state that already holds the owner's effect: its frame under handling, the supervision
restarted (R150), overrun NO and the reply with its condition byte (R178, R179), its kind the request's plus 80h. The kind
byte that answers a kind of 80h or above, to which the sum gives no byte, is a free value (log 26). -/
def answered (f : Frame) (c : ResultCode) (payload : List Byte) (s : State) : State :=
  let t : State := { s with
    rct := { s.rct with supervision := 0, lapsed := false }
    lnk := { s.lnk with inbox := [f] } }
  { t with lnk := { t.lnk with
      reply := some ⟨if f.kind.toNat < 128 then f.kind + 0x80 else Config.strayReplyKind f.kind, f.tag, c, t.conditionByte,
        payload⟩
      overrun := false } }

/-- A source has occurred once more, at the last conversion set completed (R155). -/
def Raised (src : Source) (s t : State) : Prop :=
  t.ntu.sources.get src.num =
    { s.ntu.sources.get src.num with
      latched := true, count := min 255 ((s.ntu.sources.get src.num).count + 1), last := some s.mfe.count }

/-- No source but the listed ones has changed. -/
def QuietBut (l : List Source) (s t : State) : Prop :=
  ∀ src : Source, src ∉ l → t.ntu.sources.get src.num = s.ntu.sources.get src.num

/-- The run state is SYNC, RUN or STOPPING. -/
def Running3 (s : State) : Prop := s.rct.state = .sync ∨ s.rct.state = .run ∨ s.rct.state = .stopping

/-- A settings save is in progress. -/
def SaveRunning (s : State) : Prop := ∃ n, s.sst.activity = .saving n

/-- Every setpoint is 0, every target, integrator, previous delay and preset as before (R58). -/
def SetpointsZeroed (s t : State) : Prop :=
  ∀ b, t.crg.bridges.get b = { s.crg.bridges.get b with setpoint := 0 }

/-- All four targets are 0, the rest of the regulator as before (R56). -/
def TargetsZeroed (s t : State) : Prop :=
  ∀ b, t.crg.bridges.get b = { s.crg.bridges.get b with target := 0 }

/-- Blocked, with an empty list and every gate line OFF (R89, R90). -/
def Shut (t : State) : Prop := t.fls.blocked = true ∧ t.fls.list = [] ∧ ∀ g, t.gateOn g = false

/-- The governor holds no episode, no copy and no request, and RIDE_OUT is released (R113). -/
def GovernorIdle (t : State) : Prop :=
  t.dgv.state = .steady ∧ t.dgv.copy = none ∧ t.dgv.rideOut = false ∧ t.dgv.block = false ∧ t.dgv.freeze = false

/-- The bytes of a number, low byte first, stand at an offset of a record (R188). -/
def Holds (l : List Byte) (offset width value : Nat) : Prop := (l.drop offset).take width = bytesOf width value

/-- An update's own values as extremes: m, |e| and |ΔW| (R96). -/
def ownExtremes (s : State) (u : AngleUpdate) : Extremes := ⟨u.m, u.m, u.e.natAbs, ((u.w : Int) - s.wNom).natAbs⟩

/-- Extremes with an update's values taken in; an empty set starts from them (R96, R104). -/
def extremesWith (old : Option Extremes) (x : Extremes) : Extremes :=
  match old with
  | none => x
  | some y => ⟨min y.mMin x.mMin, max y.mMax x.mMax, max y.eMax x.eMax, max y.dwMax x.dwMax⟩

/-- A window sample: the magnitude of the residual of the entry's notch channel, −32,768 taken as 32,767 (R79). -/
def windowSample (u : AngleUpdate) (e : Entry) : Nat :=
  min 32767 (u.set.residual.get e.config.channel.place).toInt.natAbs

end Sys2Proof.Claims

open Sys2Proof Sys2Proof.Machine Sys2Proof.Claims

/-! The queue and reset. -/

/-- A step runs the command at the front of the queue on the state with the queue's rest. -/
def Obligations.StepRunsFrontCommand : Prop :=
  ∀ (c : Instr) (rest : List Instr) (s : State), step (s.withPending (c :: rest)) = exec c (s.withPending rest)

/-- The tables of R38, R54, R93, R119, R154, R173 and R186 at the part as it comes out of RESET_N. That the power-on load is
running there is the model's choice (log 6), and so is what follows from the settings before that load has ended, which is
taken from their built-in defaults: W = 14,746 (log 7). -/
def Obligations.ResetLeaves : Prop :=
  let s := State.reset
  s.rct.state = .standby ∧ s.rct.trip = none ∧ s.rct.syncTimer = 0 ∧ s.rct.settleCount = 0 ∧ s.rct.stopCount = 0
  ∧ s.rct.supervision = 0 ∧ s.rct.lapsed = false
  ∧ s.atr.state = .search ∧ s.atr.seated = false ∧ s.atr.p = 0 ∧ s.atr.w = 14746 ∧ s.atr.e = 0 ∧ s.atr.m = 0
  ∧ s.atr.running = none ∧ s.atr.uLast = 0
  ∧ s.ssq.pointer = 0 ∧ s.ssq.pendingSync = false
  ∧ (∀ b, (s.crg.bridges.get b).target = 0 ∧ (s.crg.bridges.get b).setpoint = 0 ∧ (s.crg.bridges.get b).integ = 0)
  ∧ s.fls.list = [] ∧ s.fls.blocked = true ∧ s.fls.seq = 0
  ∧ s.dgv.state = .steady ∧ s.dgv.copy = none ∧ s.dgv.history = [] ∧ s.dgv.nextNumber = 0 ∧ s.dgv.rideOut = false
  ∧ s.ntu.alert = false ∧ (∀ n, (s.ntu.sources.get n).latched = false)
  ∧ s.trc.state = .recording ∧ s.trc.ring = []
  ∧ s.lnk.rx = .hunt ∧ s.lnk.inbox = [] ∧ s.lnk.errors = 0 ∧ s.lnk.overrun = false ∧ s.lnk.reply = none
  ∧ s.sst.activity = .powerOnLoad ∧ s.pending = []

/-- POWER_ON_RESET (R191): every block at its reset state, the load begun; the rows, the TRIP_IN line and the straps
stay as they are, but for the row that a save was writing (log 12). While the load runs every setting holds its built-in
default, which is the model's choice (log 7): the parameters, the trigger mask and W = 14,746. RESET_N_ASSERTED (R196): the part is held, every
output at its released or OFF level, no notice of a stopped save. -/
def Obligations.ResetLineHoldsAndLoads : Prop :=
  (
  ∀ s : State, ∃ t, exec .powerOnReset s = .next t
    ∧ t.sst.activity = .powerOnLoad ∧ t.pins = { s.pins with resetLow := false } ∧ t.rct = Rct.atReset none s.rct.tripIn
    ∧ t.mfe.count = 0 ∧ t.mfe.trimmed = none ∧ t.atr = Atr.atReset 14746 ∧ t.fls.list = [] ∧ t.fls.blocked = true
    ∧ t.dgv = Dgv.atReset [] 0 ∧ t.ntu.alert = false ∧ t.trc = Trc.atReset defaultTriggerMask
    ∧ t.lnk = Lnk.atReset s.pins.baud s.pins.clksel ∧ t.params = Params.defaults ∧ t.pending = s.pending
    ∧ (∀ n, s.sst.activity ≠ .saving n → t.sst.rows.get n = s.sst.rows.get n))
  ∧ (
  ∀ s : State, ∃ t, exec .resetNAsserted s = .next t
    ∧ t.pins = { s.pins with resetLow := true } ∧ t.asleep = true ∧ t.sst.activity = .idle
    ∧ t.ntu.alert = false ∧ t.dgv.rideOut = false ∧ (∀ g, t.gateOn g = false) ∧ t.lnk.reply = none
    ∧ (∀ n, (t.ntu.sources.get n).latched = false) ∧ t.pending = s.pending
    ∧ (∀ n, s.sst.activity ≠ .saving n → t.sst.rows.get n = s.sst.rows.get n))

/-- SOFT_RESET (R185, with the tables of R16, R38, R54, R71, R93, R119, R135, R154, R173, R186 and R193): what each block
keeps and what it clears. That a load of LOAD_SETTINGS under way is abandoned with it is the model's reading (log 24). -/
def Obligations.SoftResetKeepsSettings : Prop :=
  ∀ s : State, s.asleep = false → ∃ t, exec .softReset s = .next t
    ∧ t.params = s.params ∧ t.mfe.trims = s.mfe.trims ∧ t.mfe.count = 0 ∧ t.mfe.raw = none ∧ t.mfe.trimmed = none
    ∧ (∀ i, t.mfe.clips.get i = 0)
    ∧ t.ffb.coeffs = s.ffb.coeffs ∧ t.ffb.enabled = s.ffb.enabled ∧ t.ffb.stages = clearedStages
    ∧ (∀ i, t.ffb.saturations.get i = 0) ∧ t.ffb.filtered = none
    ∧ t.atr = Atr.atReset s.wNom
    ∧ t.ssq = { pointer := 0, pendingSync := false, config := s.ssq.config }
    ∧ (∀ b, t.crg.bridges.get b = ⟨0, 0, 0, s.parN .alphaStart, false, none⟩)
    ∧ t.fls.list = [] ∧ t.fls.blocked = true ∧ t.fls.seq = 0 ∧ (∀ b, t.fls.refAvg.get b = s.parN .refavgSeed)
    ∧ (∀ k, t.fls.status.get k = ⟨0, 0, 0, none⟩)
    ∧ GovernorIdle t ∧ t.dgv.kind = none ∧ t.dgv.expired = false ∧ t.dgv.dCount = 0 ∧ t.dgv.cCount = 0 ∧ t.dgv.recovery = 0
    ∧ t.dgv.runExtremes = none ∧ t.dgv.extremes = none ∧ t.dgv.nextNumber = s.dgv.nextNumber
    ∧ t.dgv.history = s.dgv.history.map (fun r =>
        if r.outcome = .ongoing then { r with outcome := .ended, duration := some (s.mfe.count - r.start) } else r)
    ∧ t.rtb.entries = s.rtb.entries ∧ (∀ i, t.rtb.marks.get i = ⟨false, false, false⟩)
    ∧ t.rct = Rct.atReset s.rct.trip s.rct.tripIn
    ∧ t.ntu.alert = false
    ∧ (∀ n, t.ntu.sources.get n = ⟨(s.ntu.sources.get n).level, (s.ntu.sources.get n).enable, false, 0, none⟩)
    ∧ (∀ u, t.wcu.units.get u = ⟨(s.wcu.units.get u).config, true, false⟩)
    ∧ t.trc = Trc.atReset s.trc.mask ∧ t.lnk = Lnk.atReset s.pins.baud s.pins.clksel
    ∧ t.sst.activity = .idle ∧ t.sst.latch = s.sst.latch ∧ t.sst.bad = s.sst.bad ∧ t.sst.corrected = s.sst.corrected
    ∧ (∀ n, s.sst.activity ≠ .saving n → t.sst.rows.get n = s.sst.rows.get n)

/-- LOAD_END (R190, R191): at a load's end every working copy takes the image of the rows read, the bad marks, corrected
count and latch follow from the rows, STORE_FAULT occurs once for every bad row, the activity returns to IDLE; targets,
setpoints and misfire counts come down to the limits in force (R56, R92), and the load at power-on gives W, the previous
delays and the reference averages the values that follow from the settings (R38, R71, R83). The reply of LOAD_SETTINGS is
built then. Outside a load nothing happens. -/
def Obligations.LoadEndInstallsImage : Prop :=
  ∀ s : State, s.ListSettled →
    ((s.sst.activity = .loading ∨ (s.sst.activity = .powerOnLoad ∧ s.pins.resetLow = false)) →
      ∃ t, exec .loadEnd s = .next t
        ∧ settingsOf t = (loadImage (s.sst.rows.map readRow).list).1
        ∧ t.sst.rows = s.sst.rows ∧ t.sst.activity = .idle
        ∧ (∀ n, t.sst.bad.get n = (decide (readRow (s.sst.rows.get n) = .uncorrectable)
            || (loadImage (s.sst.rows.map readRow).list).2.contains n.1))
        ∧ (t.sst.latch = true ↔ ∃ n, t.sst.bad.get n = true)
        ∧ t.sst.corrected = (s.sst.rows.map readRow).list.countP RowRead.isCorrected
        ∧ t.ffb.stages = clearedStages ∧ t.ffb.saturations = s.ffb.saturations ∧ t.mfe.clips = s.mfe.clips
        ∧ t.rtb.marks = s.rtb.marks ∧ t.rct = s.rct ∧ t.dgv = s.dgv
        ∧ (∀ b, t.crg.bridges.get b = { s.crg.bridges.get b with
            target := min (s.crg.bridges.get b).target (t.parN .iMax)
            setpoint := min (s.crg.bridges.get b).setpoint (t.parN .iMax * 256)
            alphaPrev :=
              if s.sst.activity = .powerOnLoad then t.parN .alphaStart else (s.crg.bridges.get b).alphaPrev })
        ∧ (∀ k, t.fls.status.get k = { s.fls.status.get k with
            consecutive := min (s.fls.status.get k).consecutive (t.parN .misfireLimit) })
        ∧ (∀ b, t.fls.refAvg.get b =
            if s.sst.activity = .powerOnLoad then t.parN .refavgSeed else s.fls.refAvg.get b)
        ∧ t.atr = (if s.sst.activity = .powerOnLoad
            then { s.atr with w := if t.par .nominalFreq = 60 then 17695 else 14746 } else s.atr)
        ∧ (let n := (List.finRange 512).countP fun n => t.sst.bad.get n
          let o := s.ntu.sources.get Source.storeFault.num
          let p := t.ntu.sources.get Source.storeFault.num
          (n = 0 → p.latched = o.latched ∧ p.count = o.count ∧ p.last = o.last)
          ∧ (0 < n → p.latched = true ∧ p.count = min 255 (o.count + n) ∧ p.last = some s.mfe.count))
        ∧ (∀ src : Source, src ≠ .storeFault → src ≠ .traceFrozen →
            let o := s.ntu.sources.get src.num
            let p := t.ntu.sources.get src.num
            p.latched = o.latched ∧ p.count = o.count ∧ p.last = o.last)
        ∧ t.ntu.alert = t.alertDue
        ∧ (s.sst.activity = .powerOnLoad → t.lnk = s.lnk)
        ∧ (∀ f rest, s.sst.activity = .loading → s.lnk.inbox = f :: rest → f.kind = 0x3D →
            t.lnk = { s.lnk with
              reply := some ⟨0xBD, f.tag, .ok, ({ t with lnk := s.lnk } : State).conditionByte, []⟩
              overrun := false }))
    ∧ (s.sst.activity = .idle → exec .loadEnd s = .next s)
    ∧ (∀ n, s.sst.activity = .saving n → exec .loadEnd s = .next s)

/-! Measurement, filter and tracker. -/

/-- The trimmed value of R3, with the default trim that passes every code unchanged; then CONVERSION_SET (R1, R2, R6): the
count, the raw and trimmed values, the clip counts and ADC_CLIP; the filter bank as it takes the trimmed set (R10); the
tracker as it takes the filtered set (R17), with the freeze request as it stands, or withdrawn by a halt at this set, and
but for a reseat request that the governor raises or withdraws after it (R34, R35); the supervision count (R150); the
settings of every block, the rows and the link as before, and in STANDBY and HALT the list, the regulator and the governor
too. While the part is held in reset or loads at power-on no set completes. Last, in the order of the worked sequences (an
empty tape, log 4), who takes the update after whom. -/
def Obligations.ConversionSetMeasures : Prop :=
  (
  (∀ (t : Trim) (raw : Code),
    (trimValue t raw).toInt =
      (let v := min 32767 (max (-32768) (((raw.toInt - t.offset.toInt) * t.gain.toNat + 4096) / 8192))
       if t.invert = true then (if v = -32768 then 32767 else -v) else v))
  ∧ (∀ raw : Code, trimValue ⟨0, 8192, false⟩ raw = raw)
  ∧ (∀ (t : Trim) (raw : Code), t.gain = 0 → trimValue t raw = 0))
  ∧ (
  ∀ (raw : RawSet) (s : State),
    (s.asleep = false → ∃ t, exec (.conversionSet raw) s = .next t
      ∧ t.mfe.count = s.mfe.count + 1 ∧ t.mfe.raw = some (rawTab raw)
      ∧ t.mfe.trimmed = some ⟨s.mfe.count + 1, Tab.ofFn fun i => trimValue (s.mfe.trims.get i) ((rawTab raw).get i)⟩
      ∧ (∀ i, t.mfe.clips.get i =
          if ((rawTab raw).get i).toInt = -32768 ∨ ((rawTab raw).get i).toInt = 32767
          then min 65535 (s.mfe.clips.get i + 1) else s.mfe.clips.get i)
      ∧ (t.ntu.sources.get Source.adcClip.num =
          if ∃ i, ((rawTab raw).get i).toInt = -32768 ∨ ((rawTab raw).get i).toInt = 32767
          then { s.ntu.sources.get Source.adcClip.num with
            latched := true, count := min 255 ((s.ntu.sources.get Source.adcClip.num).count + 1)
            last := some (s.mfe.count + 1) }
          else s.ntu.sources.get Source.adcClip.num)
      ∧ (∀ w, t.mfe.trimmed = some w → t.ffb = (filterSet w s).ffb)
      ∧ (∃ f freeze, t.ffb.filtered = some f
        ∧ (freeze = s.dgv.freeze
          ∨ (freeze = false ∧ s.order.tripFirst = true ∧ Running3 s ∧ t.rct.state = .halt))
        ∧ t.atr = { (trackerUpdate f { s with dgv := { s.dgv with freeze := freeze } }).atr with
            reseatRequest := t.atr.reseatRequest })
      ∧ t.rct.supervision = min 1200000 (s.rct.supervision + 1)
      ∧ (s.ListSettled → ¬ Running3 s → t.crg = s.crg ∧ t.fls = s.fls ∧ t.dgv = s.dgv ∧ t.rtb = s.rtb
        ∧ t.rct = { s.rct with supervision := t.rct.supervision } ∧ t.atr.reseatRequest = false
        ∧ t.ssq.pointer = s.ssq.pointer)
      ∧ settingsOf t = settingsOf s ∧ t.sst = s.sst ∧ t.lnk = s.lnk ∧ t.pins = s.pins ∧ t.rct.tripIn = s.rct.tripIn
      ∧ t.freeCount = s.freeCount ∧ t.pending = s.pending ∧ t.orders = s.orders.tail)
    ∧ (s.asleep = true → exec (.conversionSet raw) s = .next s))
  ∧ (
  ∀ (raw : RawSet) (s : State) (w : TrimmedSet) (f : FilteredSet) (u : AngleUpdate),
    s.asleep = false → s.ListSettled → s.TrackerInRange → s.order = .usual →
    let d := settle (tripCheck (completeSet raw s))
    d.mfe.trimmed = some w → (filterSet w d).ffb.filtered = some f →
    (trackerUpdate f (filterSet w d)).atr.last = some u →
    let a := settle (governorDeed u (settle (takeReseat u (trackerUpdate f (filterSet w d)))))
    let path := (List.range (if u.reseat = true then 0 else arc u.thetaPrev u.thetaNew)).foldl
      (fun x i => settle (pathPoint a.view u ((u.thetaPrev + (i + 1)) % 23040) x)) (settle (rampStep a))
    exec (.conversionSet raw) s =
      .next (settle (watchStep u (settle (runStep u (settle (listEnd u path)))))).dropOrder)

/-- One stage of the cascade (R8): the output and the shifted state; the three stages in turn, and when one of them
saturates (R7, R9); a default cascade passes its input. Then the filtered set of a conversion set (R10) with the bank
enabled and disabled, the saturation counts and FILTER_SAT (R9), and the frame of the filter bank. -/
def Obligations.FilterBankFollowsFormula : Prop :=
  (
  (∀ (c : Coeffs) (st : StageState) (x0 : Code),
    (stageOut c st x0).toInt =
      min 32767 (max (-32768) ((c.b0.toInt * x0.toInt + c.b1.toInt * st.x1.toInt + c.b2.toInt * st.x2.toInt
        - c.a1.toInt * st.y1.toInt - c.a2.toInt * st.y2.toInt + 8192) / 16384))
    ∧ stageShift c st x0 = ⟨x0, st.x1, stageOut c st x0, st.y1⟩)
  ∧ (∀ (cs : Tab Coeffs 3) (st : Tab StageState 3) (x : Code),
      let y0 := stageOut (cs.get 0) (st.get 0) x
      let y1 := stageOut (cs.get 1) (st.get 1) y0
      let out (k : Fin 3) (x0 : Code) : Prop :=
        let v := ((cs.get k).b0.toInt * x0.toInt + (cs.get k).b1.toInt * (st.get k).x1.toInt
          + (cs.get k).b2.toInt * (st.get k).x2.toInt - (cs.get k).a1.toInt * (st.get k).y1.toInt
          - (cs.get k).a2.toInt * (st.get k).y2.toInt + 8192) / 16384
        v < -32768 ∨ 32767 < v
      let r := runCascade cs st x
      r.2.1 = stageOut (cs.get 2) (st.get 2) y1
      ∧ r.1.get 0 = stageShift (cs.get 0) (st.get 0) x ∧ r.1.get 1 = stageShift (cs.get 1) (st.get 1) y0
      ∧ r.1.get 2 = stageShift (cs.get 2) (st.get 2) y1
      ∧ (r.2.2 = true ↔ out 0 x ∨ out 1 y0 ∨ out 2 y1))
  ∧ (∀ (st : Tab StageState 3) (x : Code),
      (runCascade (Tab.fill 3 ⟨16384, 0, 0, 0, 0⟩) st x).2 = (x, false)))
  ∧ (
  ∀ (t : TrimmedSet) (s : State),
    (s.ffb.enabled = false → (filterSet t s).ffb =
      { s.ffb with filtered := some ⟨t.count, ⟨[t.values.get 0, t.values.get 1, t.values.get 2], rfl⟩,
          ⟨[0, 0, 0], rfl⟩, Tab.ofFn fun b => t.values.get (currentChannel b), t.values.get 7⟩ })
    ∧ (s.ffb.enabled = true → ∃ f, (filterSet t s).ffb.filtered = some f ∧ f.count = t.count
      ∧ (∀ i : Fin 3,
        f.filtered.get i = (runCascade s.ffb.coeffs (s.ffb.stages.get i) (t.values.get (voltageChannel i))).2.1
        ∧ (f.residual.get i).toInt =
            min 32767 (max (-32768) ((t.values.get (voltageChannel i)).toInt - (f.filtered.get i).toInt))
        ∧ (filterSet t s).ffb.stages.get i =
            (runCascade s.ffb.coeffs (s.ffb.stages.get i) (t.values.get (voltageChannel i))).1)
      ∧ (∀ b, f.idc.get b = t.values.get (currentChannel b)) ∧ f.vdc = t.values.get 7)
    ∧ (s.ffb.enabled = true →
      let sat (i : Fin 3) : Prop :=
        (runCascade s.ffb.coeffs (s.ffb.stages.get i) (t.values.get (voltageChannel i))).2.2 = true
      (∀ i, (sat i → (filterSet t s).ffb.saturations.get i = min 65535 (s.ffb.saturations.get i + 1))
        ∧ (¬ sat i → (filterSet t s).ffb.saturations.get i = s.ffb.saturations.get i))
      ∧ ((∃ i, sat i) → Raised .filterSat s (filterSet t s) ∧ QuietBut [.filterSat, .traceFrozen] s (filterSet t s))
      ∧ ((∀ i, ¬ sat i) → (filterSet t s).ntu = s.ntu ∧ (filterSet t s).trc = s.trc))
    ∧ (s.ffb.enabled = false → (filterSet t s).ntu = s.ntu ∧ (filterSet t s).trc = s.trc)
    ∧ (filterSet t s).ffb.coeffs = s.ffb.coeffs ∧ (filterSet t s).ffb.enabled = s.ffb.enabled
    ∧ (∃ n c, filterSet t s = { s with ffb := (filterSet t s).ffb, ntu := n, trc := c }))

/-- An angle is crossed when 1 ≤ (x − θ_prev) mod 23,040 ≤ Δ; θ_prev is not crossed, an update with Δ = 0 or with the
reseat mark crosses nothing, and such an update has no path on which any block acts (R42). -/
def Obligations.CrossingFollowsArc : Prop :=
  ∀ u : AngleUpdate, u.thetaPrev < 23040 → u.thetaNew < 23040 →
    (∀ x, x < 23040 →
      (u.crosses x = true ↔
        u.reseat = false ∧ 1 ≤ ((x : Int) - u.thetaPrev) % 23040
        ∧ ((x : Int) - u.thetaPrev) % 23040 ≤ ((u.thetaNew : Int) - u.thetaPrev) % 23040))
    ∧ u.crosses u.thetaPrev = false
    ∧ (u.thetaNew = u.thetaPrev → ∀ x, u.crosses x = false)
    ∧ (u.reseat = true → (∀ x, u.crosses x = false) ∧ ∀ k d, (k, Deed.path d) ∉ pathDeeds u)
    ∧ (∀ d, (16 * d, Deed.path d) ∈ pathDeeds u ↔ u.reseat = false ∧ 1 ≤ d ∧ d ≤ arc u.thetaPrev u.thetaNew)

/-- The tracking step (R23, R24): W and P under the state that the judgement gives, and the tracker's frame; the
estimate never runs backward and advances at most 150 au. A reseat (R27): P at θ_meas, W at W_nom, e 0, the mark on
the angle update; it raises no notice. The vector (R18) with its ranges, the measured angle from the vectoring (R19; of
the vectoring itself its range, its turn by a quarter cycle and the worked vectors are stated here), a zero vector (R21)
and the magnitude, whose rounding is exact (R20). The half-cycle unbalance (R36), and what the angle update carries
(R17). -/
def Obligations.TrackerStepsOrReseats : Prop :=
  (
  ∀ (f : FilteredSet) (s : State), s.TrackerInRange → (verdictOf f s).reseat = false →
    let e := trackingError f s
    let t := trackerUpdate f s
    let w := min 19169 (max 13271 ((s.atr.w : Int) + s.par .trackKi * e / 256))
    ((t.atr.state = .search ∨ t.atr.state = .locked) →
      (t.atr.w : Int) = w
      ∧ t.atr.p = (s.atr.p + (min (2 * w) (max 0 (w + s.par .trackKp * e))).toNat) % 5898240)
    ∧ ((t.atr.state = .hold ∨ t.atr.state = .lost) →
      t.atr.w = s.atr.w ∧ t.atr.p = (s.atr.p + s.atr.w) % 5898240)
    ∧ t.atr.e = e ∧ -11520 ≤ e ∧ e ≤ 11519
    ∧ arc (s.atr.p / 256) (t.atr.p / 256) ≤ 150
    ∧ (∃ a n c, t = { s with atr := a, ntu := n, trc := c }))
  ∧ (
  ∀ (f : FilteredSet) (s : State), (verdictOf f s).reseat = true →
    let t := trackerUpdate f s
    t.atr.p = measuredAngle f s * 256 ∧ t.atr.w = s.wNom ∧ t.atr.e = 0 ∧ t.atr.state = .search ∧ t.atr.seated = true
    ∧ t.ntu = s.ntu
    ∧ ∃ u, t.atr.last = some u ∧ u.reseat = true ∧ u.thetaPrev = s.atr.p / 256 ∧ u.thetaNew = measuredAngle f s ∧ u.e = 0)
  ∧ (
  ∀ (f : FilteredSet) (s : State),
    let x := 2 * (f.filtered.get 0).toInt + (f.filtered.get 1).toInt
    let y := (f.filtered.get 1).toInt * 28378 / 16384
    (-98304 ≤ x ∧ x ≤ 98301 ∧ -56756 ≤ y ∧ y ≤ 56754)
    ∧ s.lNom = (s.parN .vNom * 28378 + 8192) / 16384
    ∧ (x = 0 ∧ y = 0 → measuredAngle f s = s.atr.thetaMeas ∧ measuredMagnitude f s = 0)
    ∧ (¬ (x = 0 ∧ y = 0) →
      (measuredAngle f s : Int) = ((thetaRaw x y : Int) + s.par .phaseCorr) % 23040
      ∧ thetaRaw x y < 23040 ∧ thetaRaw (-y) x = (thetaRaw x y + 5760) % 23040
      ∧ (0 < s.lNom → ∃ k : Nat, measuredMagnitude f s = min 8191 k
        ∧ (k = 0 ∨ ((2 * (k : Int) - 1) * s.lNom) ^ 2 ≤ 67108864 * (x ^ 2 + y ^ 2))
        ∧ 67108864 * (x ^ 2 + y ^ 2) < ((2 * (k : Int) + 1) * s.lNom) ^ 2)))
  ∧ (thetaRaw 30000 17320 = 1920 ∧ thetaRaw 2000 20784 = 5408 ∧ thetaRaw 1 0 = 0 ∧ thetaRaw 1 1 = 2880
    ∧ thetaRaw 98301 (-1) = 0 ∧ thetaRaw 1000 (-1) = 23036)
  ∧ (
  ∀ (f : FilteredSet) (s : State),
    let m := measuredMagnitude f s
    let t := trackerUpdate f s
    let pair := match s.atr.running with
      | none => (m, m)
      | some (lo, hi) => (min lo m, max hi m)
    let crossed (x : Nat) : Prop :=
      1 ≤ arc (s.atr.p / 256) x ∧ arc (s.atr.p / 256) x ≤ arc (s.atr.p / 256) (t.atr.p / 256)
    t.atr.m = m ∧ t.atr.thetaMeas = measuredAngle f s
    ∧ ((verdictOf f s).reseat = true → t.atr.running = some (m, m) ∧ t.atr.uLast = s.atr.uLast)
    ∧ ((verdictOf f s).reseat = false → (crossed 0 ∨ crossed 11520) →
        t.atr.running = some (m, m) ∧ t.atr.uLast = pair.2 - pair.1)
    ∧ ((verdictOf f s).reseat = false → ¬ (crossed 0 ∨ crossed 11520) →
        t.atr.running = some pair ∧ t.atr.uLast = s.atr.uLast)
    ∧ t.atr.last = some ⟨s.atr.p / 256, t.atr.p / 256, m, t.atr.e, t.atr.w, t.atr.state, (verdictOf f s).reseat, t.atr.uLast, f⟩)

/-- The judgement of an update (R26, R28 to R32, R34, R35) on the tracker's own state, with the notice it raises; a zero
vector is not strong, and takes LOCKED to HOLD (R21, log 15). TRACK_LOCKED and TRACK_LOST sent as events of their own (R28,
R31; log 1): the tracker's state and count, the notice, and what the lifted or risen block reason does to the firing list.
-/
def Obligations.TrackerEventsTaken : Prop :=
  (
  ∀ (f : FilteredSet) (s : State),
    let m := measuredMagnitude f s
    let e := trackingError f s
    let zero : Prop := 2 * (f.filtered.get 0).toInt + (f.filtered.get 1).toInt = 0
      ∧ (f.filtered.get 1).toInt * 28378 / 16384 = 0
    let strong : Prop := ¬ zero ∧ s.parN .mLoss + s.parN .mHyst ≤ m
    let weak : Prop := m < s.parN .mLoss
    let limit := s.parN .holdLimit * 20
    let v := verdictOf f s
    let t := trackerUpdate f s
    let a := s.atr
    t.atr.state = v.state ∧ t.atr.seated = v.seated ∧ t.atr.lockCount = v.lockCount ∧ t.atr.holdCount = v.holdCount
    ∧ t.atr.reseatRequest = false
    ∧ (∀ src, v.notice = some src → Raised src s t ∧ QuietBut [src, .traceFrozen] s t)
    ∧ (v.notice = none → t.ntu = s.ntu ∧ t.trc = s.trc)
    ∧ (a.reseatRequest = true →
        (strong → v = ⟨.search, true, 0, a.holdCount, true, none⟩)
        ∧ (¬ strong → v = ⟨.search, false, 0, a.holdCount, false, none⟩))
    ∧ (a.reseatRequest = false →
      (a.state = .search → a.seated = false →
        (strong → v = ⟨.search, true, a.lockCount, a.holdCount, true, none⟩)
        ∧ (¬ strong → v = ⟨.search, false, 0, a.holdCount, false, none⟩))
      ∧ (a.state = .search → a.seated = true →
        (weak → v = ⟨.search, false, 0, a.holdCount, false, none⟩)
        ∧ (¬ weak → strong → e.natAbs ≤ s.parN .lockErr → s.parN .lockCount ≤ a.lockCount + 1 →
            v = ⟨.locked, true, 0, a.holdCount, false, some .trackLocked⟩)
        ∧ (¬ weak → strong → e.natAbs ≤ s.parN .lockErr → a.lockCount + 1 < s.parN .lockCount →
            v = ⟨.search, true, a.lockCount + 1, a.holdCount, false, none⟩)
        ∧ (¬ weak → ¬ (strong ∧ e.natAbs ≤ s.parN .lockErr) → v = ⟨.search, true, 0, a.holdCount, false, none⟩))
      ∧ (a.state = .locked →
        ((weak ∨ zero ∨ s.dgv.freeze = true) → v = ⟨.hold, a.seated, a.lockCount, 0, false, some .trackHold⟩)
        ∧ (¬ (weak ∨ zero ∨ s.dgv.freeze = true) → v = ⟨.locked, a.seated, a.lockCount, a.holdCount, false, none⟩))
      ∧ (a.state = .hold →
        (¬ strong → limit ≤ a.holdCount + 1 →
          v = ⟨.lost, a.seated, a.lockCount, a.holdCount + 1, false, some .trackLost⟩)
        ∧ (¬ strong → a.holdCount + 1 < limit → v = ⟨.hold, a.seated, a.lockCount, a.holdCount + 1, false, none⟩)
        ∧ (strong → s.dgv.freeze = true → v = ⟨.hold, a.seated, a.lockCount, 0, false, none⟩)
        ∧ (strong → s.dgv.freeze = false → v = ⟨.locked, a.seated, a.lockCount, 0, false, some .trackLocked⟩))
      ∧ (a.state = .lost →
        (strong → v = ⟨.search, true, 0, a.holdCount, true, none⟩)
        ∧ (¬ strong → v = ⟨.lost, a.seated, a.lockCount, a.holdCount, false, none⟩))))
  ∧ (
  ∀ s : State, s.asleep = false → s.atr.reseatRequest = false → s.ListSettled →
    (s.atr.state = .search → s.atr.seated = true → s.parN .lockCount ≤ s.atr.lockCount →
      ∃ t, exec .trackLocked s = .next t ∧ Raised .trackLocked s t ∧ QuietBut [.trackLocked, .traceFrozen] s t
        ∧ t = { s with
            atr := { s.atr with state := .locked, lockCount := 0 }, ntu := t.ntu, trc := t.trc, fls := t.fls, crg := t.crg }
        ∧ t.fls = { s.fls with blocked := t.union })
    ∧ (s.atr.state = .hold → s.parMs .holdLimit ≤ s.atr.holdCount →
      ∃ t, exec .trackLost s = .next t ∧ t.atr = { s.atr with state := .lost } ∧ Raised .trackLost s t ∧ Shut t))

/-! Sequencer and regulator. -/

/-- The geometry of R39 for a group whose shifts pass the START check: base and dispatch angles, and both running once
round the cycle in slot order. -/
def Obligations.GeometryRunsOnceRound : Prop :=
  ∀ s : State, 1 ≤ s.parN .bridges → s.parN .bridges ≤ 4 → shiftFault s = none → s.ParamsInRange →
    (∀ k, s.baseAngle k = (s.parN .syncOffset + k / s.parN .bridges * 3840 + s.shift (s.slotBridge k)) % 23040)
    ∧ (∀ k, (s.dispatchAngle k : Int) = ((s.baseAngle k : Int) - 1920) % 23040)
    ∧ (∀ j k, j < k → k < 6 * s.parN .bridges →
        arc (s.dispatchAngle 0) (s.dispatchAngle j) < arc (s.dispatchAngle 0) (s.dispatchAngle k)
        ∧ arc (s.baseAngle 0) (s.baseAngle j) < arc (s.baseAngle 0) (s.baseAngle k))

/-- The slot pointer at a dispatch angle (R44 to R47), under what the update is taken under (log 4). An update that the
sequencer took while the pointer does not run is not judged. Else the slot is dispatched exactly when dispatching is
enabled, as the sequencer sees the block reasons, and the pointer advances either way. A dispatch takes the regulator's
answer on the bridge and the current that the update carries (R62 to R65); the entry becomes the last of the list with its
bridge, pair and angles, or, when the list has been closed before the hand-off, is retired at once as CANCELLED (R72,
R90). -/
def Obligations.PointerDispatchesOrPasses : Prop :=
  ∀ (v : View) (u : AngleUpdate) (s : State),
    (v.live = false → ∀ x, sequencerPoint v u x s = s)
    ∧ (v.live = true → s.ssq.pendingSync = false → s.ssq.pointer < 6 * s.parN .bridges → s.parN .bridges ≤ 4 →
    (s.fls.blocked = true → s.fls.list = []) →
    let k := s.ssq.pointer
    let b := s.slotBridge k
    let r := regulate s v.floor (s.crg.bridges.get b) (u.set.idc.get b)
    let t := sequencerPoint v u (s.dispatchAngle k) s
    let enabled : Prop :=
      (v.unseen = true ∨ ((s.rct.state = .run ∨ s.rct.state = .stopping) ∧ s.union = false))
      ∧ (u.state = .locked ∨ u.state = .hold)
    t.ssq = { s.ssq with pointer := if k + 1 < 6 * s.parN .bridges then k + 1 else 0 }
    ∧ (¬ enabled → t = { s with ssq := t.ssq })
    ∧ (enabled → t.crg.bridges.get b = r ∧ ∀ c, c ≠ b → t.crg.bridges.get c = s.crg.bridges.get c)
    ∧ (enabled → s.fls.blocked = false →
        ∃ e : Entry, t.fls.list = s.fls.list ++ [e]
          ∧ t = { s with ssq := t.ssq, fls := { s.fls with list := t.fls.list }, crg := t.crg }
          ∧ e.slot.1 = k ∧ e.bridge = b ∧ e.pair = k / s.parN .bridges ∧ e.state = .waiting ∧ e.alpha = r.alphaPrev
          ∧ (e.fire : Int) = ((s.baseAngle k : Int) + e.alpha) % 23040
          ∧ (e.refClose : Int) = ((s.baseAngle k : Int) + e.alpha - s.par .guard) % 23040
          ∧ (e.refOpen : Int) = ((s.baseAngle k : Int) + e.alpha - s.par .guard - s.par .refWidth) % 23040
          ∧ (e.gateOff : Int) = ((s.baseAngle k : Int) + e.alpha + s.par .gateWidth) % 23040
          ∧ (e.notchClose : Int) = ((s.baseAngle k : Int) + e.alpha + s.par .notchWidth) % 23040
          ∧ e.config = s.ssq.config.get (Fin.ofNat 24 k) ∧ e.iMeas = u.set.idc.get b
          ∧ e.iSet = (s.crg.bridges.get b).setpoint / 256
          ∧ e.refArea = 0 ∧ e.refSamples = 0 ∧ e.notchArea = 0 ∧ e.notchSamples = 0 ∧ e.disturbed = false
          ∧ e.drive = false ∧ e.outcome = none)
    ∧ (enabled → s.fls.blocked = true →
        t.fls.list = [] ∧ t.fls.blocked = true ∧ t.fls.seq = s.fls.seq + 1
        ∧ (t.fls.status.get (Fin.ofNat 24 k)).last =
            some ⟨s.fls.seq, .cancelled, r.alphaPrev, u.set.idc.get b, (s.crg.bridges.get b).setpoint / 256, none⟩
        ∧ t.ssq.pendingSync = false ∧ t.rct = s.rct ∧ t.dgv = s.dgv))

/-- Pending sync with the pointer running (R49): a dispatch angle loads the pointer with its slot and clears the flag, and
any other angle changes nothing. -/
def Obligations.PendingSyncResolves : Prop :=
  ∀ (v : View) (u : AngleUpdate) (x : Nat) (s : State), v.live = true → s.ssq.pendingSync = true →
    ((∀ k, k < 6 * s.parN .bridges → s.dispatchAngle k ≠ x) → sequencerPoint v u x s = s)
    ∧ (∀ k, k < 6 * s.parN .bridges → s.dispatchAngle k = x → (∀ j, j < k → s.dispatchAngle j ≠ x) →
        (sequencerPoint v u x s).ssq.pendingSync = false
        ∧ (sequencerPoint v u x s).ssq.pointer = (if k + 1 < 6 * s.parN .bridges then k + 1 else 0))

/-- A dispatch's delay and integrator (R62 to R65, R67): a pending preset first, then the commanded delay bounded below by
ALPHA_MIN, the slew limit and the episode floor and above by ALPHA_MAX, and the integrator held at a bound that the error
pushes against. The bounds are those of R63 and R69, not crossed. The floor is the one that the ramp step of the same update
has read (R57, R63). So every delay lies in [ALPHA_MIN, ALPHA_MAX] and advances by no more than ALPHA_SLEW_DN. -/
def Obligations.DelayStaysInBounds : Prop :=
  (∀ (s : State) (floor : Int) (b : Bridge) (i : Code), 0 ≤ s.par .alphaMin → s.par .alphaMin ≤ s.par .alphaMax →
    0 ≤ s.par .alphaSlewDn → floor ≤ s.par .alphaMax →
    (b.presetPending = false → (b.alphaPrev : Int) ≤ s.par .alphaMax) →
    let a : Int := min (s.par .alphaMax) (max (s.par .alphaMin) (b.startValue.getD 0))
    let p : Bridge :=
      if b.presetPending = true then
        { b with alphaPrev := a.toNat, integ := (s.par .alphaCenter - a) * 256, presetPending := false }
      else b
    let e : Int := b.setpoint / 256 - i.toInt
    let cmd := s.par .alphaCenter - (s.par .curKp * e + p.integ) / 256
    let lo := max (max (s.par .alphaMin) (p.alphaPrev - s.par .alphaSlewDn)) floor
    regulate s floor b i = { p with
      alphaPrev := (min (s.par .alphaMax) (max lo cmd)).toNat
      integ :=
        if (cmd < lo ∧ 0 < e) ∨ (s.par .alphaMax < cmd ∧ e < 0) then p.integ
        else min 268435456 (max (-268435456) (p.integ + s.par .curKi * e)) })
  ∧ (∀ (s : State) (floor : Int) (b : Bridge) (i : Code), 0 ≤ s.par .alphaMin → s.par .alphaMin ≤ s.par .alphaMax →
    let r := regulate s floor b i
    let before : Int := if b.presetPending = true
      then min (s.par .alphaMax) (max (s.par .alphaMin) (b.startValue.getD 0)) else b.alphaPrev
    s.par .alphaMin ≤ r.alphaPrev ∧ (r.alphaPrev : Int) ≤ s.par .alphaMax
    ∧ (before ≤ s.par .alphaMax → 0 ≤ s.par .alphaSlewDn → before - s.par .alphaSlewDn ≤ r.alphaPrev)
    ∧ (floor ≤ s.par .alphaMax → floor ≤ r.alphaPrev))
  ∧ (∀ (v : View) (s : State), s.par .alphaMin ≤ s.par .alphaMax →
    (v.after .ramp s).floor = (match s.dgv.state, s.dgv.copy with
      | .episode, some c => min (s.par .alphaMax) (max (s.par .alphaMin) (c.resp.alphaFloor : Int))
      | _, _ => 0))

/-- The ramp step (R59) in RUN and STOPPING, and its frame; no step in the other run states. The limit in force (R57,
R102, R110): I_MAX in STEADY, floor(I_MAX × i_limit / 4096) in EPISODE, rising from it to I_MAX in RECOVERY. -/
def Obligations.RampFollowsLimit : Prop :=
  (
  ∀ s : State,
    rampStep s = { s with crg := (rampStep s).crg }
    ∧ (¬ (s.rct.state = .run ∨ s.rct.state = .stopping) → rampStep s = s)
    ∧ ((s.rct.state = .run ∨ s.rct.state = .stopping) → ∀ b : Fin 4,
        let old := s.crg.bridges.get b
        let sp := min old.setpoint (s.limit * 256)
        let goal := min old.target s.limit * 256
        (s.parN .bridges ≤ b.1 → (rampStep s).crg.bridges.get b = old)
        ∧ (b.1 < s.parN .bridges → (rampStep s).crg.bridges.get b =
            { old with
              setpoint :=
                if sp < goal then min (sp + s.parN .rampUp) goal
                else if goal < sp then max (sp - s.parN .rampDn) goal else sp })))
  ∧ (∀ s : State, s.dgv.state = .steady → s.limit = s.parN .iMax)
  ∧ (
  ∀ (s : State) (c : GoverningCopy), s.dgv.copy = some c →
    let ep := s.parN .iMax * c.resp.iLimit / 4096
    (s.dgv.state = .episode → s.limit = ep)
    ∧ (s.dgv.state = .recovery → c.resp.rampMs = 0 → s.limit = s.parN .iMax)
    ∧ (s.dgv.state = .recovery → 0 < c.resp.rampMs →
        s.limit = ep + (s.parN .iMax - ep) * s.dgv.recovery / (c.resp.rampMs * 20))
    ∧ (c.resp.iLimit ≤ 4096 → s.dgv.recovery ≤ c.resp.rampMs * 20 → s.limit ≤ s.parN .iMax ∧ ep ≤ s.limit))

/-! The firing list. -/

/-- LIST_CLOSE (R89, R90), sent as a command of its own (log 1): a risen union closes and retires every entry under
consecutive retirement numbers, a DONE entry with the outcome it has, one in CONDUCTING as INDETERMINATE with its areas,
any other as CANCELLED without; the list is then empty, blocked is YES and every gate line OFF. UNBLOCK (R66, R88),
likewise: a lifted union sets blocked to NO and records a start value for every bridge: ALPHA_START in STEADY, the
copy's restart_alpha while a copy is held. -/
def Obligations.BlockClosesUnblockPresets : Prop :=
  (
  ∀ s : State, s.asleep = false → s.union = true → s.fls.blocked = false →
    ∃ t, exec .listClose s = .next t ∧ Shut t
      ∧ t.fls.seq = s.fls.seq + BitVec.ofNat 16 s.fls.list.length ∧ t.fls.refAvg = s.fls.refAvg
      ∧ (∀ (n : Nat) (e : Entry), s.fls.list[n]? = some e →
          (∀ (m : Nat) (e' : Entry), n < m → s.fls.list[m]? = some e' → e'.slot ≠ e.slot) →
          let o : RetireOutcome :=
            if e.state = .done then e.outcome.getD .cancelled
            else if e.state = .conducting then .indeterminate else .cancelled
          (t.fls.status.get e.slot).last =
            some ⟨s.fls.seq + BitVec.ofNat 16 n, o, e.alpha, e.iMeas, e.iSet,
              if o = .cancelled then none else some ⟨e.notchArea, e.notchSamples, e.refArea, e.refSamples⟩⟩)
      ∧ t.mfe = s.mfe ∧ t.ffb = s.ffb ∧ t.atr = s.atr ∧ t.ssq = s.ssq ∧ t.wcu = s.wcu ∧ t.lnk = s.lnk ∧ t.sst = s.sst
      ∧ t.params = s.params ∧ t.pins = s.pins)
  ∧ (
  ∀ s : State, s.asleep = false → s.union = false → s.fls.blocked = true →
    ∃ t, exec .unblock s = .next t
      ∧ t = { s with fls := { s.fls with blocked := false }, crg := t.crg }
      ∧ (∀ b, t.crg.bridges.get b = { s.crg.bridges.get b with
          presetPending := true
          startValue := some (match s.dgv.state, s.dgv.copy with
            | .steady, _ => s.parN .alphaStart
            | _, some c => c.resp.restartAlpha
            | _, none => s.parN .alphaStart) }))

/-- The life of an entry at a point of the path (R73 to R76): the reference window opens and closes, the entry fires and its
gate drive ends, each at its own angle and in life order where angles coincide; every entry is passed, head first. The gate
lines that the entries drive (R40, R77, R78). The window samples after an update's crossings (R79). A notch close (R80) and
the reference averages (R82): the outcome by the first case that applies, DONE with its episode mark and done time, areas
kept, and the bridge's average moved by a confirmation alone, between the old average and the area. -/
def Obligations.NotchIsJudged : Prop :=
  (
  ∀ (s : State) (u : AngleUpdate) (x : Nat) (e : Entry) (avg : Tab Nat 4),
    let r := passEntry s u x avg e
    let off : Prop := e.drive = true ∧ e.gateOff = x
    (e.state = .waiting → e.refOpen = x → e.refClose ≠ x → ¬ off →
      r = ({ e with state := .reference, refArea := 0, refSamples := 0 }, avg))
    ∧ (e.state = .reference → e.refClose = x → e.fire ≠ x → ¬ off →
      r = ({ e with state := .armed, disturbed := decide (e.config.refLimit.toNat < e.refArea) }, avg))
    ∧ (e.state = .armed → e.fire = x → e.gateOff ≠ x → e.notchClose ≠ x →
      r = ({ e with state := .conducting, notchArea := 0, notchSamples := 0, drive := true }, avg))
    ∧ (e.state = .reference → e.refClose = x → e.fire = x → e.gateOff ≠ x → e.notchClose ≠ x →
      r = ({ e with state := .conducting, disturbed := decide (e.config.refLimit.toNat < e.refArea), notchArea := 0
                    notchSamples := 0, drive := true }, avg))
    ∧ (e.state = .conducting → off → e.notchClose ≠ x → r = ({ e with drive := false }, avg))
    ∧ (e.state = .conducting → e.notchClose = x →
        let j := passNotchClose s u x avg e
        (off → r = ({ j.1 with drive := false }, j.2)) ∧ (¬ off → r = j))
    ∧ (¬ (e.state = .waiting ∧ e.refOpen = x) → ¬ (e.state = .reference ∧ e.refClose = x) →
        ¬ (e.state = .armed ∧ e.fire = x) → ¬ (e.state = .conducting ∧ e.notchClose = x) → ¬ off → r = (e, avg)))
  ∧ (
  ∀ (s : State) (u : AngleUpdate) (x : Nat),
    firePoint u x s = { s with fls := { s.fls with
      list := (firePoint u x s).fls.list, refAvg := (firePoint u x s).fls.refAvg } }
    ∧ (s.fls.list = [] → firePoint u x s = s)
    ∧ (∀ e rest, s.fls.list = e :: rest →
        let r := passEntry s u x s.fls.refAvg e
        let t := firePoint u x { s with fls := { s.fls with list := rest, refAvg := r.2 } }
        (firePoint u x s).fls.list = r.1 :: t.fls.list ∧ (firePoint u x s).fls.refAvg = t.fls.refAvg))
  ∧ (
  ∀ (s : State) (g : Fin 24), s.gateOn g = true ↔
    s.rct.tripIn = false ∧ ∃ e ∈ s.fls.list, e.drive = true
      ∧ (g.1 = 6 * e.bridge.1 + e.pair ∨ g.1 = 6 * e.bridge.1 + (e.pair + 5) % 6))
  ∧ (
  ∀ (s : State) (u : AngleUpdate),
    sampleWindows u s = { s with fls := { s.fls with list := (sampleWindows u s).fls.list } }
    ∧ ∀ n : Nat, (sampleWindows u s).fls.list[n]? = s.fls.list[n]?.map fun e =>
        let x := windowSample u e
        { e with
          refArea := if e.state = .reference then min 16777215 (e.refArea + x) else e.refArea
          refSamples := if e.state = .reference then min 65535 (e.refSamples + 1) else e.refSamples
          notchArea := if e.state = .conducting then min 16777215 (e.notchArea + x) else e.notchArea
          notchSamples := if e.state = .conducting then min 65535 (e.notchSamples + 1) else e.notchSamples })
  ∧ (
  ∀ (s : State) (u : AngleUpdate) (x : Nat) (e : Entry) (avg : Tab Nat 4),
    let old := avg.get e.bridge
    let o : RetireOutcome :=
      if e.disturbed = true ∨ s.dgv.state = .episode ∨ u.state ≠ .locked then .indeterminate
      else if max e.config.aMin.toNat (old * s.parN .confRatio / 16) ≤ e.notchArea then .confirmed
      else .misfire
    let new := if old < e.notchArea then old + (e.notchArea - old) / 2 ^ s.parN .refavgUpShift
      else old - (old - e.notchArea) / 2 ^ s.parN .refavgDnShift
    let r := passNotchClose s u x avg e
    (e.state = .conducting → e.notchClose = x →
      r.1 = { e with state := .done, outcome := some o, episodeMark := decide (s.dgv.state = .episode)
                     doneTime := u.set.count }
      ∧ (o = .confirmed → r.2.get e.bridge = new) ∧ (o ≠ .confirmed → r.2 = avg)
      ∧ (∀ b, b ≠ e.bridge → r.2.get b = avg.get b))
    ∧ ((e.state ≠ .conducting ∨ e.notchClose ≠ x) → r = (e, avg))
    ∧ min old e.notchArea ≤ new ∧ new ≤ max old e.notchArea)

/-- A retirement (R85, R86): the head leaves the list under the counter's number, its record goes to the trace while the
trace appends, its slot's status part is written and no other slot's. -/
def Obligations.RetirementRecordsHead : Prop :=
  ∀ (e : Entry) (rest : List Entry) (s : State), s.fls.list = e :: rest →
    let t := (retireHead s).1
    let o := e.outcome.getD .cancelled
    t.fls.list = rest ∧ t.fls.seq = s.fls.seq + 1 ∧ t.fls.refAvg = s.fls.refAvg ∧ t.fls.blocked = s.fls.blocked
    ∧ (∀ k, k ≠ e.slot → t.fls.status.get k = s.fls.status.get k)
    ∧ (∃ l, (t.fls.status.get e.slot).last = some l ∧ l.seq = s.fls.seq ∧ l.outcome = o ∧ l.alpha = e.alpha
        ∧ l.iMeas = e.iMeas ∧ l.iSet = e.iSet)
    ∧ (o = .confirmed → (t.fls.status.get e.slot).consecutive = 0)
    ∧ ((o = .indeterminate ∨ o = .cancelled) →
        (t.fls.status.get e.slot).consecutive = (s.fls.status.get e.slot).consecutive)
    ∧ (o ≠ .misfire → QuietBut [.traceFrozen] s t) ∧ QuietBut [.slotMisfire, .traceFrozen] s t
    ∧ t = { s with fls := t.fls, trc := t.trc, ntu := t.ntu }
    ∧ (o = .misfire → Raised .slotMisfire s t
        ∧ (t.fls.status.get e.slot).consecutive =
            (if (s.fls.status.get e.slot).consecutive < s.parN .misfireLimit
             then (s.fls.status.get e.slot).consecutive + 1 else (s.fls.status.get e.slot).consecutive))
    ∧ ((s.trc.state = .recording ∨ s.trc.state = .triggered) → ∃ r, t.trc.ring.getLast? = some r ∧ r.seq = s.fls.seq
        ∧ r.slot = e.slot ∧ r.outcome = o)
    ∧ ((s.trc.state = .idle ∨ s.trc.state = .frozen) → t.trc.ring = s.trc.ring)

/-! The governor. -/

/-- The search (R122 to R124): the first match of the primary group, else the first match of the secondary group, else the
built-in default. -/
def Obligations.SearchVisitsTwoGroups : Prop :=
  ∀ (k : Kind) (n : Nat) (s : State),
    let g := match k with
      | .sagSym => 0 | .sagAsym => 1 | .swell => 2 | .phaseJump => 2 | .freqDev => 3 | .loss => 3
    let hit (fb : Bool) (i : Fin 32) : Prop :=
      (s.rtb.entries.get i).valid = true ∧ (s.rtb.entries.get i).fallback = fb ∧ (s.rtb.entries.get i).kind = k
      ∧ (s.rtb.entries.get i).bandLo ≤ n ∧ n ≤ (s.rtb.entries.get i).bandHi
    (∀ i : Fin 32, i.1 / 8 = g → hit false i → (∀ j : Fin 32, j.1 / 8 = g → j < i → ¬ hit false j) →
      searchResult k n s = ⟨(s.rtb.entries.get i).resp, .entry i⟩)
    ∧ ((∀ j : Fin 32, j.1 / 8 = g → ¬ hit false j) →
      (∀ i : Fin 32, i.1 / 8 = 3 - g → hit true i → (∀ j : Fin 32, j.1 / 8 = 3 - g → j < i → ¬ hit true j) →
        searchResult k n s = ⟨(s.rtb.entries.get i).resp, .entry i⟩)
      ∧ ((∀ j : Fin 32, j.1 / 8 = 3 - g → ¬ hit true j) →
        searchResult k n s = ⟨⟨.block, 0, s.parN .alphaMax, 150, .trip, 7680, 1000, .freeze⟩, .dflt⟩))

/-- The conditions D and C (R95), the kind of a disturbed update in rank order and the band that a kind's formula gives
(R97). An update in STEADY and RECOVERY (R94, R96, R111): the D count and the run extremes, the onset, the recovery count,
and nothing outside RUN and STOPPING. EPISODE_ONSET (R98, R100, R116), sent as a command of its own (log 1), when the repeat
test does not trip and the response asks for no halt: a record opened, EPISODE entered under the copy found, RIDE_OUT
asserted, EPISODE_ONSET occurs. -/
def Obligations.OnsetOpensEpisode : Prop :=
  (
  ∀ (s : State) (u : AngleUpdate),
    let dw := ((u.w : Int) - s.wNom).natAbs
    (disturbanceD s u = true ↔
      u.m < s.parN .mSag ∨ s.parN .mSwell < u.m ∨ s.parN .eJump ≤ u.e.natAbs ∨ s.parN .wBand < dw)
    ∧ (clearC s u = true ↔
      s.parN .mSag + s.parN .mHyst ≤ u.m ∧ (u.m : Int) ≤ (s.parN .mSwell : Int) - s.parN .mHyst
      ∧ 2 * u.e.natAbs < s.parN .eJump ∧ dw ≤ s.parN .wBand
      ∧ (u.state = .locked ∨ (u.state = .hold ∧ s.dgv.freeze = true)))
    ∧ (u.m < s.parN .mLoss → classify s u = .loss)
    ∧ (s.parN .mLoss ≤ u.m →
      (u.m < s.parN .mSag → s.parN .unbalTh ≤ u.uLast → classify s u = .sagAsym)
      ∧ (u.m < s.parN .mSag → u.uLast < s.parN .unbalTh → classify s u = .sagSym)
      ∧ (s.parN .mSag ≤ u.m → s.parN .mSwell < u.m → classify s u = .swell)
      ∧ (s.parN .mSag ≤ u.m → u.m ≤ s.parN .mSwell → s.parN .eJump ≤ u.e.natAbs → classify s u = .phaseJump)
      ∧ (s.parN .mSag ≤ u.m → u.m ≤ s.parN .mSwell → u.e.natAbs < s.parN .eJump → classify s u = .freqDev)))
  ∧ (
  ∀ x : Extremes,
    (x.mMin ≤ 4096 → ∀ k ∈ [Kind.loss, .sagAsym, .sagSym], (bandOf k x : Int) = min 7 ((4096 - (x.mMin : Int)) / 512))
    ∧ (4096 ≤ x.mMax → (bandOf .swell x : Int) = min 7 (((x.mMax : Int) - 4096) / 128))
    ∧ bandOf .phaseJump x = min 7 (x.eMax / 320) ∧ bandOf .freqDev x = min 7 (x.dwMax / 147))
  ∧ (
  ∀ (s : State) (u : AngleUpdate),
    let counted : State := { s with dgv := { s.dgv with
      dCount := s.dgv.dCount + 1, runExtremes := some (extremesWith s.dgv.runExtremes (ownExtremes s u)) } }
    let calm : State := { s with dgv := { s.dgv with dCount := 0, runExtremes := none } }
    let base := if disturbanceD s u = true then counted else calm
    let quiet : Prop := base.dgv.dCount < s.parN .onsetCount
    (s.running = false → governorStep u s = (s, none))
    ∧ (s.running = true → s.dgv.state ≠ .episode → ¬ quiet → governorStep u s = onset u base)
    ∧ (s.running = true → s.dgv.state = .steady → quiet → governorStep u s = (base, none))
    ∧ (∀ c, s.running = true → s.dgv.state = .recovery → s.dgv.copy = some c → quiet →
      let r := governorStep u s
      (s.dgv.recovery + 1 < c.resp.rampMs * 20 →
        r = ({ base with dgv := { base.dgv with recovery := s.dgv.recovery + 1 } }, none))
      ∧ (c.resp.rampMs * 20 ≤ s.dgv.recovery + 1 →
        r.2 = none ∧ r.1.dgv.state = .steady ∧ r.1.dgv.copy = none ∧ r.1.dgv.rideOut = false
        ∧ Raised .recoveryDone s r.1 ∧ r.1.limit = s.parN .iMax)))
  ∧ (
  ∀ (s : State) (u : AngleUpdate), s.asleep = false → s.ListSettled → s.atr.last = some u → s.running = true →
    s.dgv.state ≠ .episode → s.parN .onsetCount ≤ s.dgv.dCount →
    ((s.dgv.history.take 15).countP fun r => decide ((u.set.count - r.start).toNat < s.parN .repeatWindow * 20)) + 1
      ≤ s.parN .repeatMax →
    let k := classify s u
    let band := bandOf k (s.dgv.runExtremes.getD (extremesOf s u))
    let c := searchResult k band s
    c.resp.action ≠ .trip →
    ∃ t, exec .episodeOnset s = .next t ∧ (t.rct.state = .run ∨ t.rct.state = .stopping ∨ t.rct.state = .halt)
      ∧ Raised .episodeOnset s t
      ∧ (t.rct.state ≠ .halt →
          t.dgv.state = .episode ∧ t.dgv.kind = some k ∧ t.dgv.band = band ∧ t.dgv.copy = some c ∧ t.dgv.rideOut = true
          ∧ t.dgv.start = u.set.count ∧ t.dgv.dCount = 0 ∧ t.dgv.cCount = 0 ∧ t.dgv.expired = false
          ∧ t.dgv.nextNumber = s.dgv.nextNumber + 1
          ∧ (t.dgv.block = true ↔ c.resp.action = .block ∨ c.resp.mode = .reseat)
          ∧ (t.dgv.freeze = true ↔ c.resp.mode = .freeze)
          ∧ (t.atr.reseatRequest = true ↔ c.resp.mode = .reseat ∨ s.atr.reseatRequest = true)
          ∧ t.dgv.history =
              ⟨s.dgv.nextNumber, u.set.count, k, k, band, c.ix, false, t.dgv.block, .ongoing, none⟩
                :: s.dgv.history.take 15))

/-- An onset that the repeat test trips (R99), sent as a command of its own (log 1): the record, which joins at most fifteen
older ones (R114), closed as TRIPPED with governing entry NONE and duration 0, STEADY, no mark set, a halt with reason
REPEAT. -/
def Obligations.RepeatTestHalts : Prop :=
  ∀ (s : State) (u : AngleUpdate), s.asleep = false → s.ListSettled → s.GovernorSound → s.atr.last = some u →
    s.running = true → s.dgv.state ≠ .episode → s.parN .onsetCount ≤ s.dgv.dCount → 0 < s.parN .repeatWindow →
    s.parN .repeatMax <
      ((s.dgv.history.take 15).countP fun r => decide ((u.set.count - r.start).toNat < s.parN .repeatWindow * 20)) + 1 →
    ∃ t r, exec .episodeOnset s = .next t ∧ t.rct.state = .halt ∧ t.rct.trip = some r ∧ r.cause = .repeated
      ∧ GovernorIdle t ∧ Shut t ∧ Raised .episodeOnset s t ∧ Raised .haltEntered s t
      ∧ t.rtb.marks = s.rtb.marks
      ∧ ∃ rec0 rest, t.dgv.history = rec0 :: rest ∧ rest = s.dgv.history.take 15 ∧ rec0.outcome = .tripped
          ∧ rec0.entry = .none ∧ rec0.duration = some 0 ∧ rec0.start = u.set.count ∧ rec0.number = s.dgv.nextNumber

/-- An update in EPISODE (R104): the extremes first, then the escalation, then expiry, length and clear, none of them after a
step that has asked for a halt. The escalation (R105): the kind rises by rank and the band with the extremes; a rise makes
one search, whose copy takes effect, with EPISODE_ESCALATE (R100, R101, R103). The expiry, the length limit and the C count
(R106 to R108). HOLD_EXPIRY (R106), sent as a command of its own (log 1): expired is set, and on_expiry trips the group with
the copy's index or raises the block and EPISODE_EXPIRED. EPISODE_LONG (R107), likewise: an episode of EPISODE_MAX or longer
halts the group. -/
def Obligations.EpisodeLimitsAct : Prop :=
  (
  ∀ (s : State) (u : AngleUpdate), s.running = true → s.dgv.state = .episode →
    let r := escalate u { s with dgv := { s.dgv with
      extremes := some (extremesWith s.dgv.extremes (ownExtremes s u)) } }
    governorStep u s = if r.2.isSome = true then r else judgeEpisode u r.1)
  ∧ (
  ∀ (s : State) (u : AngleUpdate) (old : Kind) (x : Extremes), s.dgv.kind = some old → s.dgv.extremes = some x →
    let seen := classify s u
    let k := if disturbanceD s u = true ∧ seen.rank < old.rank then seen else old
    let band := max s.dgv.band (bandOf k x)
    let c := searchResult k band s
    let r := escalate u s
    let t := r.1
    let shuts := decide (c.resp.action = .block ∨ c.resp.mode = .reseat)
    (k = old → band = s.dgv.band → r = (s, none))
    ∧ ((k ≠ old ∨ s.dgv.band < band) →
      Raised .episodeEscalate s t ∧ QuietBut [.episodeEscalate, .traceFrozen] s t
      ∧ r.2 = (if c.resp.action = .trip then some (.response c.ix) else none)
      ∧ t.dgv = { s.dgv with
          kind := some k, band := band, copy := some c, freeze := decide (c.resp.mode = .freeze)
          block := s.dgv.block || shuts, history := t.dgv.history }
      ∧ t.atr = { s.atr with reseatRequest :=
          (s.atr.reseatRequest || decide (c.resp.mode = .reseat ∧ s.dgv.copy.map (·.resp.mode) ≠ some .reseat)) }
      ∧ (∀ rec0 rest, s.dgv.history = rec0 :: rest → rec0.outcome = .ongoing →
          t.dgv.history =
            { rec0 with kind := k, band := band, entry := c.ix, blocked := rec0.blocked || shuts } :: rest)
      ∧ (∀ i, c.ix = .entry i → ∀ j, t.rtb.marks.get j =
          if j = i then { s.rtb.marks.get j with used := true } else s.rtb.marks.get j)
      ∧ (c.ix = .dflt → t.rtb = s.rtb) ∧ t.rtb.entries = s.rtb.entries
      ∧ t = { s with dgv := t.dgv, atr := t.atr, rtb := t.rtb, ntu := t.ntu, trc := t.trc }))
  ∧ (
  ∀ (s : State) (u : AngleUpdate) (c : GoverningCopy), s.dgv.copy = some c →
    let elapsed := (u.set.count - s.dgv.start).toNat
    let due : Prop := s.dgv.expired = false ∧ c.resp.holdMs * 20 ≤ elapsed
    let r := judgeEpisode u s
    (due → c.resp.onExpiry = .trip → r.2 = some (.expiry c.ix) ∧ r.1.dgv.expired = true ∧ r.1.ntu = s.ntu
        ∧ r.1.dgv.cCount = s.dgv.cCount)
    ∧ (due → c.resp.onExpiry = .block → ∃ t, r = judgeEpisode u t ∧ Raised .episodeExpired s t
        ∧ t = { s with dgv := { s.dgv with expired := true, block := true, history := t.dgv.history }
                       ntu := t.ntu, trc := t.trc }
        ∧ ∀ rec0 rest, s.dgv.history = rec0 :: rest → rec0.outcome = .ongoing →
            t.dgv.history = { rec0 with expired := true, blocked := true } :: rest)
    ∧ (¬ due → s.parN .episodeMax * 20 ≤ elapsed → r = (s, some .episodeLong))
    ∧ (¬ due → elapsed < s.parN .episodeMax * 20 →
        let n := if clearC s u = true then s.dgv.cCount + 1 else 0
        let t : State := { s with dgv := { s.dgv with cCount := n } }
        (n < s.parN .clearCount → r = (t, none)) ∧ (s.parN .clearCount ≤ n → r = takeClear u t)))
  ∧ (
  ∀ (s : State) (u : AngleUpdate) (c : GoverningCopy), s.asleep = false → s.ListSettled → s.atr.last = some u →
    s.running = true → s.dgv.state = .episode → s.dgv.copy = some c → s.dgv.expired = false →
    c.resp.holdMs * 20 ≤ (u.set.count - s.dgv.start).toNat →
    (c.resp.onExpiry = .trip → ∃ t r, exec .holdExpiry s = .next t ∧ t.rct.state = .halt ∧ t.rct.trip = some r
      ∧ r.cause = .expiry c.ix ∧ GovernorIdle t ∧ Shut t)
    ∧ (c.resp.onExpiry = .block → ∃ t, exec .holdExpiry s = .next t ∧ Raised .episodeExpired s t ∧ Shut t
      ∧ (t.rct.state ≠ .halt → t.dgv.state = .episode ∧ t.dgv.expired = true ∧ t.dgv.block = true)))
  ∧ (
  ∀ (s : State) (u : AngleUpdate), s.asleep = false → s.ListSettled → s.atr.last = some u → s.running = true →
    s.dgv.state = .episode → s.parN .episodeMax * 20 ≤ (u.set.count - s.dgv.start).toNat →
    ∃ t r, exec .episodeLong s = .next t ∧ t.rct.state = .halt ∧ t.rct.trip = some r ∧ r.cause = .episodeLong
      ∧ r.time = s.mfe.count ∧ r.left = s.rct.state ∧ GovernorIdle t ∧ Shut t ∧ Raised .haltEntered s t
      ∧ ∀ rec0 rest, s.dgv.history = rec0 :: rest → rec0.outcome = .ongoing →
          t.dgv.history = { rec0 with outcome := .tripped, duration := some (s.mfe.count - rec0.start) } :: rest)

/-- EPISODE_CLEAR (R109), sent as a command of its own (log 1): the record closed as RODE, RECOVERY from t = 0 with the copy
kept, block, freeze and a reseat request not yet taken withdrawn, RIDE_OUT as it was, the rode mark set on the copy's entry.
Within an update that has itself raised the episode block the list is closed first (R89, R101), and the clear then is an
unblock that records the copy's restart_alpha (R66, R88). -/
def Obligations.ClearEntersRecovery : Prop :=
  (
  ∀ (s : State) (u : AngleUpdate), s.asleep = false → s.ListSettled → s.atr.last = some u → s.running = true →
    s.dgv.state = .episode → s.parN .clearCount ≤ s.dgv.cCount →
    ∃ t, exec .episodeClear s = .next t ∧ Raised .episodeClear s t ∧ QuietBut [.episodeClear, .traceFrozen] s t
      ∧ t = { s with dgv := t.dgv, atr := { s.atr with reseatRequest := false }, rtb := t.rtb, ntu := t.ntu, trc := t.trc
                     fls := t.fls, crg := t.crg }
      ∧ t.dgv = { s.dgv with
          state := .recovery, recovery := 0, freeze := false, block := false, cCount := 0, extremes := none
          history := t.dgv.history }
      ∧ t.fls = { s.fls with blocked := t.union }
      ∧ (∀ i, s.dgv.copy.map (·.ix) = some (.entry i) →
          ∀ j, t.rtb.marks.get j =
            if j = i then { s.rtb.marks.get j with rode := true } else s.rtb.marks.get j)
      ∧ (∀ rec0 rest, s.dgv.history = rec0 :: rest → rec0.outcome = .ongoing →
          t.dgv.history = { rec0 with outcome := .rode, duration := some (u.set.count - rec0.start) } :: rest))
  ∧ (
  ∀ (s : State) (u : AngleUpdate),
    let r := takeClear u s
    ((s.union = false ∨ s.fls.blocked = true) → r = (clearEpisode u s, none))
    ∧ (s.union = true → s.fls.blocked = false → r.1.fls.list = [] ∧ r.1.fls.blocked = true
        ∧ r.1.fls.seq = s.fls.seq + BitVec.ofNat 16 s.fls.list.length ∧ r.1.dgv.state = .recovery
        ∧ (∀ c, s.dgv.copy = some c → r.1.union = false →
            let t := takeUnblock r.1
            t.fls.list = [] ∧ t.fls.blocked = false
            ∧ ∀ b, t.crg.bridges.get b = { s.crg.bridges.get b with
                presetPending := true, startValue := some c.resp.restartAlpha })))

/-- RECOVERY_DONE (R111), sent as a command of its own (log 1): STEADY, the copy dropped, RIDE_OUT released,
RECOVERY_DONE occurs. EPISODE_END (R113), likewise: with the run state in STANDBY or HALT an episode or recovery is
over, with no notice; the record of an episode closes as TRIPPED for the governor's own reasons in HALT, as ENDED
otherwise. -/
def Obligations.EpisodeReturnsSteady : Prop :=
  (
  ∀ (s : State) (u : AngleUpdate) (c : GoverningCopy), s.asleep = false → s.ListSettled → s.atr.last = some u →
    s.running = true → s.dgv.state = .recovery → s.dgv.copy = some c → c.resp.rampMs * 20 ≤ s.dgv.recovery →
    ∃ t, exec .recoveryDone s = .next t ∧ Raised .recoveryDone s t ∧ QuietBut [.recoveryDone, .traceFrozen] s t
      ∧ t.dgv.state = .steady ∧ t.dgv.copy = none ∧ t.dgv.rideOut = false ∧ t.dgv.history = s.dgv.history
      ∧ t.limit = s.parN .iMax
      ∧ t = { s with dgv := t.dgv, ntu := t.ntu, trc := t.trc })
  ∧ (
  ∀ s : State, s.asleep = false → s.ListSettled → (s.rct.state = .standby ∨ s.rct.state = .halt) →
    s.dgv.state ≠ .steady →
    ∃ t, exec .episodeEnd s = .next t ∧ GovernorIdle t ∧ t.dgv.dCount = 0 ∧ t.dgv.cCount = 0
      ∧ t.ntu = s.ntu ∧ t = { s with dgv := t.dgv, rtb := t.rtb }
      ∧ (s.dgv.state = .recovery → t.dgv.history = s.dgv.history ∧ t.rtb = s.rtb)
      ∧ (∀ rec0 rest, s.dgv.state = .episode → s.dgv.history = rec0 :: rest → rec0.outcome = .ongoing →
          t.dgv.history =
            { rec0 with
              outcome := if endsTripped s then .tripped else .ended
              duration := some (s.mfe.count - rec0.start) } :: rest)
      ∧ (endsTripped s = true ↔ s.rct.state = .halt ∧ ∃ r, s.rct.trip = some r ∧ ((∃ ix, r.cause = .response ix)
          ∨ (∃ ix, r.cause = .expiry ix) ∨ r.cause = .episodeLong ∨ r.cause = .repeated)))

/-! Run states and protection. -/

/-- HALT_CAUSE (R145 to R147): taken in SYNC, RUN and STOPPING it enters HALT and writes the trip record from the
state as it stands; in STANDBY and HALT it is ignored. MISFIRE_LIMIT_REACHED (R87), sent as a command of its own (log
1): a slot that stands at its limit with a misfire as its last retirement halts a running group with reason MISFIRE;
in STANDBY and HALT nothing happens. -/
def Obligations.HaltCauseEntersHalt : Prop :=
  (
  ∀ (c : HaltCause) (s : State), s.asleep = false → s.ListSettled →
    (Running3 s → ∃ t, exec (.haltCause c) s = .next t
      ∧ t.rct = { s.rct with
          state := .halt, syncTimer := 0, settleCount := 0, stopCount := 0
          trip := some { cause := c, time := s.mfe.count, left := s.rct.state, m := s.atr.m, w := s.atr.w
                         currents := Tab.ofFn s.lastCurrent, episode := s.dgv.kind.map fun k => (k, s.dgv.band) } }
      ∧ Raised .haltEntered s t ∧ SetpointsZeroed s t ∧ Shut t
      ∧ (s.dgv.state ≠ .steady → GovernorIdle t)
      ∧ t.mfe = s.mfe ∧ t.ffb = s.ffb ∧ t.atr = s.atr ∧ t.ssq = s.ssq ∧ t.wcu = s.wcu ∧ t.lnk = s.lnk ∧ t.sst = s.sst
      ∧ t.params = s.params ∧ t.rtb.entries = s.rtb.entries)
    ∧ (¬ Running3 s → exec (.haltCause c) s = .next s))
  ∧ (
  ∀ (k : Fin 24) (l : LastRetirement) (s : State), s.asleep = false → s.ListSettled →
    (s.fls.status.get k).last = some l → l.outcome = .misfire → s.parN .misfireLimit ≤ (s.fls.status.get k).consecutive →
    (Running3 s → ∃ t r, exec (.misfireLimitReached k) s = .next t ∧ t.rct.state = .halt ∧ t.rct.trip = some r
      ∧ r.cause = .misfire k ∧ Shut t)
    ∧ (¬ Running3 s → exec (.misfireLimitReached k) s = .next s))

/-- The trimmed-set check (R143) in the order in which it comes before the filter bank (log 4): the lowest configured
bridge above I_TRIP, else VDC above V_TRIP, halts a running group at the conversion set that shows it. -/
def Obligations.TrimmedSetTrips : Prop :=
  ∀ (raw : RawSet) (s : State), s.asleep = false → Running3 s → s.order.tripFirst = true →
    let v (i : Fin 8) : Int := (trimValue (s.mfe.trims.get i) ((rawTab raw).get i)).toInt
    (∀ b : Fin 4, b.1 < s.parN .bridges → s.par .iTrip < v (currentChannel b) →
        (∀ a : Fin 4, a < b → v (currentChannel a) ≤ s.par .iTrip) →
      ∃ t r, exec (.conversionSet raw) s = .next t ∧ t.rct.state = .halt ∧ t.rct.trip = some r
        ∧ r.cause = .overcurrent b ∧ r.time = s.mfe.count + 1 ∧ r.left = s.rct.state)
    ∧ ((∀ b : Fin 4, b.1 < s.parN .bridges → v (currentChannel b) ≤ s.par .iTrip) → s.par .vTrip < v 7 →
      ∃ t r, exec (.conversionSet raw) s = .next t ∧ t.rct.state = .halt ∧ t.rct.trip = some r
        ∧ r.cause = .overvoltage ∧ r.time = s.mfe.count + 1)

/-- TRIP_IN_ASSERT and TRIP_IN_RELEASE (R144, R78): the assertion holds every gate line off and halts SYNC, RUN and STOPPING
with TRIP_INPUT; in STANDBY and HALT it only raises the reason; a release lifts it without a notice. -/
def Obligations.TripInActs : Prop :=
  ∀ s : State, s.ListSettled →
    (s.asleep = false → Running3 s → ∃ t r, exec .tripInAssert s = .next t ∧ t.rct.tripIn = true
      ∧ t.rct.state = .halt ∧ t.rct.trip = some r ∧ r.cause = .tripInput ∧ Shut t ∧ Raised .haltEntered s t)
    ∧ (¬ Running3 s → exec .tripInAssert s = .next { s with rct := { s.rct with tripIn := true } })
    ∧ (¬ Running3 s → exec .tripInRelease s = .next { s with rct := { s.rct with tripIn := false } })
    ∧ (∀ r : Rct, r.tripIn = true → ∀ g, ({ s with rct := r } : State).gateOn g = false)

/-- What the run controller does at an angle update (R139, R140, R142, R150, R151): the supervision count in every run state;
in SYNC the timer and the qualifying test, with RUN before the timeout; in STOPPING the test on setpoints and currents; in
RUN the lapse. RUN_ENTERED and SYNC_FAILED (R139, R140), sent as commands of their own (log 1): RUN once the settle count has
reached SYNC_SETTLE, which lifts the run controller's reason; STANDBY once the timer has reached SYNC_TIMEOUT × 20 without
it. STOP_DONE (R142), likewise: 20 qualifying updates in STOPPING end the stop in STANDBY. -/
def Obligations.SyncAndStopEnd : Prop :=
  (
  ∀ (s : State) (u : AngleUpdate),
    let t := runStep u s
    let silence := min 1200000 (s.rct.supervision + 1)
    t.rct.supervision = silence
    ∧ ((s.rct.state = .standby ∨ s.rct.state = .halt) → t = { s with rct := { s.rct with supervision := silence } })
    ∧ (s.rct.state = .sync →
      let good : Prop := u.state = .locked ∧ s.parN .mSag + s.parN .mHyst ≤ u.m
        ∧ (u.m : Int) ≤ (s.parN .mSwell : Int) - s.parN .mHyst ∧ s.ssq.pendingSync = false
      ∀ n, (good → n = s.rct.settleCount + 1) → (¬ good → n = 0) →
        (s.parN .syncSettle ≤ n → Raised .runEntered s t ∧ QuietBut [.runEntered, .traceFrozen] s t
          ∧ t = { s with
              rct := { s.rct with state := .run, syncTimer := 0, settleCount := 0, supervision := silence }
              ntu := t.ntu, trc := t.trc })
        ∧ (n < s.parN .syncSettle → s.parN .syncTimeout * 20 ≤ s.rct.syncTimer + 1 → Raised .syncFailed s t
          ∧ t.rct = { s.rct with
              state := .standby, syncTimer := 0, settleCount := 0, stopCount := 0, supervision := silence })
        ∧ (n < s.parN .syncSettle → s.rct.syncTimer + 1 < s.parN .syncTimeout * 20 →
          t = { s with rct := { s.rct with
            syncTimer := s.rct.syncTimer + 1, settleCount := n, supervision := silence } }))
    ∧ (s.rct.state = .stopping →
      let good : Prop := (∀ b, (s.crg.bridges.get b).setpoint = 0)
        ∧ ∀ b : Fin 4, b.1 < s.parN .bridges → (u.set.idc.get b).toInt < s.par .iZero
      ∀ n, (good → n = s.rct.stopCount + 1) → (¬ good → n = 0) →
        (20 ≤ n → Raised .stopDone s t ∧ t.rct = { s.rct with
            state := .standby, syncTimer := 0, settleCount := 0, stopCount := 0, supervision := silence })
        ∧ (n < 20 → t = { s with rct := { s.rct with stopCount := n, supervision := silence } }))
    ∧ (s.rct.state = .run →
      let due : Prop := s.par .supervision ≠ 0 ∧ s.rct.lapsed = false ∧ s.parN .supervision * 20 ≤ silence
      (due → Raised .supervisionLapse s t ∧ TargetsZeroed s t
        ∧ t.rct = { s.rct with supervision := silence, lapsed := true })
      ∧ (¬ due → t = { s with rct := { s.rct with supervision := silence } })))
  ∧ (
  ∀ s : State, s.asleep = false → s.ListSettled → s.rct.state = .sync →
    (s.parN .syncSettle ≤ s.rct.settleCount →
      ∃ t, exec .runEntered s = .next t
        ∧ t.rct = { s.rct with state := .run, syncTimer := 0, settleCount := 0 }
        ∧ Raised .runEntered s t ∧ QuietBut [.runEntered, .traceFrozen] s t
        ∧ t = { s with rct := t.rct, ntu := t.ntu, trc := t.trc, fls := t.fls, crg := t.crg }
        ∧ t.fls = { s.fls with blocked := t.union })
    ∧ (s.rct.settleCount < s.parN .syncSettle → s.parN .syncTimeout * 20 ≤ s.rct.syncTimer → s.dgv.state = .steady →
      ∃ t, exec .syncFailed s = .next t
        ∧ t.rct = { s.rct with state := .standby, syncTimer := 0, settleCount := 0, stopCount := 0 }
        ∧ Raised .syncFailed s t ∧ QuietBut [.syncFailed, .traceFrozen] s t ∧ SetpointsZeroed s t ∧ Shut t
        ∧ t.dgv.history = s.dgv.history ∧ t.ssq = s.ssq ∧ t.atr = s.atr))
  ∧ (
  ∀ s : State, s.asleep = false → s.ListSettled → s.rct.state = .stopping → 20 ≤ s.rct.stopCount →
    ∃ t, exec .stopDone s = .next t
      ∧ t.rct = { s.rct with state := .standby, syncTimer := 0, settleCount := 0, stopCount := 0 }
      ∧ Raised .stopDone s t ∧ SetpointsZeroed s t ∧ Shut t ∧ (s.dgv.state ≠ .steady → GovernorIdle t)
      ∧ t.ssq = s.ssq ∧ t.atr = s.atr ∧ t.mfe = s.mfe ∧ t.params = s.params)

/-- SUPERVISION_LAPSE (R151), sent as a command of its own (log 1): in RUN, after a silence of SUPERVISION, lapsed is
YES, every target 0, the run state stays. -/
def Obligations.SupervisionLapseZeroesTargets : Prop :=
  ∀ s : State, s.asleep = false → s.ListSettled → s.rct.state = .run → s.par .supervision ≠ 0 → s.rct.lapsed = false →
    s.parN .supervision * 20 ≤ s.rct.supervision →
    ∃ t, exec .supervisionLapse s = .next t ∧ t.rct = { s.rct with lapsed := true } ∧ TargetsZeroed s t
      ∧ Raised .supervisionLapse s t ∧ QuietBut [.supervisionLapse, .traceFrozen] s t
      ∧ t = { s with rct := t.rct, crg := t.crg, ntu := t.ntu, trc := t.trc }

/-- START refused (R137): the first check that fails gives the code, and no state of any block changes. The
configuration checks of START (R41, R69, R117, R137, R152): the parameter reported is the one of the first check of
the list that fails, and none is when all pass. -/
def Obligations.StartRefusedInOrder : Prop :=
  (
  ∀ (tag : Byte) (s : State), Free s →
    let f : Frame := ⟨0x08, tag, []⟩
    (s.rct.state ≠ .standby → exec (.start tag) s = .next (answered f .state [] s))
    ∧ (s.rct.state = .standby → SaveRunning s → exec (.start tag) s = .next (answered f .busy [] s))
    ∧ (s.rct.state = .standby → ¬ SaveRunning s → s.sst.latch = true →
        exec (.start tag) s = .next (answered f .store [] s))
    ∧ (s.rct.state = .standby → ¬ SaveRunning s → s.sst.latch = false → s.rct.tripIn = true →
        exec (.start tag) s = .next (answered f .interlock [] s))
    ∧ (∀ p, s.rct.state = .standby → ¬ SaveRunning s → s.sst.latch = false → s.rct.tripIn = false →
        configFault s = some p →
        exec (.start tag) s = .next (answered f .config [BitVec.ofNat 8 p.info.code] s)))
  ∧ (
  ∀ s : State,
    let n := s.parN .bridges
    let checks : List (ParamId × Bool) :=
      [(.shift1, decide (2 ≤ n → s.par .shift0 < s.par .shift1)),
       (.shift2, decide (3 ≤ n → s.par .shift1 < s.par .shift2)),
       (.shift3, decide (4 ≤ n → s.par .shift2 < s.par .shift3)),
       (.guard, decide (s.par .guard + s.par .refWidth ≤ 1920 + s.par .alphaMin)),
       (.gateWidth, decide (s.par .gateWidth ≤ s.par .notchWidth)),
       (.alphaMin, decide (s.par .alphaMin ≤ s.par .alphaMax)),
       (.mSag, decide (s.par .mLoss + s.par .mHyst < s.par .mSag)),
       (.mSwell, decide (s.par .mSag + s.par .mHyst < s.par .mSwell - s.par .mHyst)),
       (.iMax, decide (s.par .iMax < s.par .iTrip))]
    configFault s = (checks.find? fun c => !c.2).map (·.1))

/-- START accepted (R138): SYNC with timer and count at 0, setpoints 0, misfire counts 0, averages seeded, pending sync set;
targets, trip record, tracker and governor as they were. -/
def Obligations.StartEntersSync : Prop :=
  ∀ (tag : Byte) (s : State), Free s → s.rct.state = .standby → ¬ SaveRunning s → s.sst.latch = false →
    s.rct.tripIn = false → configFault s = none →
    ∃ t, exec (.start tag) s = .next (answered ⟨0x08, tag, []⟩ .ok [] t)
      ∧ t = { s with
          rct := { s.rct with state := .sync, syncTimer := 0, settleCount := 0 }
          ssq := { s.ssq with pendingSync := true }
          crg := t.crg
          fls := { s.fls with refAvg := t.fls.refAvg, status := t.fls.status } }
      ∧ SetpointsZeroed s t ∧ (∀ b, t.fls.refAvg.get b = s.parN .refavgSeed)
      ∧ (∀ k, t.fls.status.get k = { s.fls.status.get k with consecutive := 0 })

/-- STOP (R141, R56): refused with STATE in STANDBY and HALT; a soft stop in RUN enters STOPPING with targets 0, in
STOPPING it changes nothing; a mode byte above 1 is refused with RANGE. Every entry to STANDBY by STOP (R141, R58,
R89, R113): the counts 0, STOP_DONE, setpoints 0 with targets kept, the list closed, the governor idle, the reply OK.
-/
def Obligations.StopTakesModes : Prop :=
  (
  ∀ (tag : Byte) (s : State), Free s →
    ((s.rct.state = .standby ∨ s.rct.state = .halt) →
      exec (.stopSoft tag) s = .next (answered ⟨0x09, tag, [0]⟩ .state [] s)
      ∧ exec (.stopImmediate tag) s = .next (answered ⟨0x09, tag, [1]⟩ .state [] s))
    ∧ (s.rct.state = .run → ∃ t, exec (.stopSoft tag) s = .next (answered ⟨0x09, tag, [0]⟩ .ok [] t)
        ∧ t = { s with rct := { s.rct with state := .stopping, stopCount := 0 }, crg := t.crg } ∧ TargetsZeroed s t)
    ∧ (s.rct.state = .stopping → exec (.stopSoft tag) s = .next (answered ⟨0x09, tag, [0]⟩ .ok [] s))
    ∧ (∀ m : Byte, 1 < m.toNat → handle ⟨0x09, tag, [m]⟩ s = (s, .reply .range [])))
  ∧ (
  ∀ (c : Instr) (f : Frame) (s : State), Free s →
    ((∃ tag, c = .stopImmediate tag ∧ f = ⟨0x09, tag, [1]⟩ ∧ Running3 s)
      ∨ (∃ tag, c = .stopSoft tag ∧ f = ⟨0x09, tag, [0]⟩ ∧ s.rct.state = .sync)) →
    ∃ t, exec c s = .next (answered f .ok [] t)
      ∧ t.rct = { s.rct with state := .standby, syncTimer := 0, settleCount := 0, stopCount := 0, supervision := 0
                             lapsed := false }
      ∧ Raised .stopDone s t ∧ SetpointsZeroed s t ∧ Shut t ∧ (s.dgv.state ≠ .steady → GovernorIdle t)
      ∧ t.ssq = s.ssq ∧ t.atr = s.atr ∧ t.mfe = s.mfe ∧ t.params = s.params ∧ t.sst = s.sst
      ∧ t.lnk = { s.lnk with inbox := [f] })

/-- CLEAR_HALT (R149): refused with STATE outside HALT, then with INTERLOCK while TRIP_IN is asserted; else STANDBY, with
the trip record, the targets and the history kept and no notice. -/
def Obligations.ClearHaltReturnsStandby : Prop :=
  ∀ (tag : Byte) (s : State), Free s →
    let f : Frame := ⟨0x0A, tag, []⟩
    (s.rct.state ≠ .halt → exec (.clearHalt tag) s = .next (answered f .state [] s))
    ∧ (s.rct.state = .halt → s.rct.tripIn = true → exec (.clearHalt tag) s = .next (answered f .interlock [] s))
    ∧ (s.rct.state = .halt → s.rct.tripIn = false → s.dgv.state = .steady →
      ∃ t, exec (.clearHalt tag) s = .next (answered f .ok [] t)
        ∧ t = { s with
            rct := { s.rct with state := .standby, syncTimer := 0, settleCount := 0, stopCount := 0 }
            crg := t.crg, dgv := { s.dgv with dCount := 0, runExtremes := none } }
        ∧ SetpointsZeroed s t)

/-! Notices, watches and the trace. -/

/-- An occurrence (R155, R156): its source latched, counted and stamped whatever its enable and level; levels and
enables, and every other source but TRACE_FROZEN, as they were; ALERT as the condition then stands; nothing else but
the trace changes. An occurrence of a source that the trigger mask names is handed on as a trigger with that source as its
cause, which is taken in RECORDING alone and freezes the trace at once with TRACE_POST = 0; one of a source that the mask
does not name leaves the trace as it was (R155, R167, R168). A trigger (R167) is recorded in RECORDING alone; TRACE_FROZEN
(R168), sent as a command of its own (log 1), freezes a TRIGGERED trace once the post count has reached TRACE_POST, and
completes with nothing changed otherwise. -/
def Obligations.OccurrenceLatchesAndTriggers : Prop :=
  (
  ∀ (src : Source) (s : State), src ≠ .traceFrozen →
    let t := occur src s
    Raised src s t ∧ QuietBut [src, .traceFrozen] s t ∧ t.ntu.alert = t.alertDue
    ∧ t = { s with ntu := t.ntu, trc := t.trc } ∧ t.trc.ring = s.trc.ring ∧ t.trc.mask = s.trc.mask
    ∧ ((s.trc.mask.getLsbD src.num.1 = false ∨ s.trc.state ≠ .recording) → t.trc = s.trc ∧ QuietBut [src] s t)
    ∧ (s.trc.mask.getLsbD src.num.1 = true → s.trc.state = .recording →
        t.trc = { s.trc with
          state := if s.parN .tracePost = 0 then .frozen else .triggered
          post := 0, position := s.trc.ring.getLast?.map (·.seq), cause := some (.source src.num)
          time := some s.mfe.count }
        ∧ (s.parN .tracePost = 0 → Raised .traceFrozen s t) ∧ (s.parN .tracePost ≠ 0 → QuietBut [src] s t))
    ∧ (t.alertDue = true ↔ ∃ n, (t.ntu.sources.get n).latched = true ∧ (t.ntu.sources.get n).enable = true
        ∧ s.parN .alertFloor ≤ (t.ntu.sources.get n).level))
  ∧ (
  ∀ (c : TriggerCause) (s : State),
    (s.trc.state ≠ .recording → takeTrigger c s = s)
    ∧ (s.trc.state = .recording →
        (takeTrigger c s).trc = { s.trc with
          state := if s.parN .tracePost = 0 then .frozen else .triggered
          post := 0, position := s.trc.ring.getLast?.map (·.seq), cause := some c, time := some s.mfe.count })
    ∧ (s.asleep = false → s.trc.state = .triggered → s.parN .tracePost ≤ s.trc.post →
        ∃ t, exec .traceFrozen s = .next t ∧ Raised .traceFrozen s t ∧ QuietBut [.traceFrozen] s t
          ∧ t = { s with trc := { s.trc with state := .frozen }, ntu := t.ntu })
    ∧ (s.asleep = false → (s.trc.state ≠ .triggered ∨ s.trc.post < s.parN .tracePost) → exec .traceFrozen s = .next s))

/-- A watch unit at an angle update (R163). SET_WATCH and REARM_WATCH (R164, R165). -/
def Obligations.WatchesRaiseOnTurn : Prop :=
  (
  ∀ (u : AngleUpdate) (n : Fin 4) (s : State),
    let w := s.wcu.units.get n
    let v := signalValue u s w.config.signal
    let now : Bool := if w.config.above = true then decide (w.config.threshold < v) else decide (v < w.config.threshold)
    let t := watchUnit u n s
    (t.wcu.units.get n).condition = now ∧ (t.wcu.units.get n).config = w.config
    ∧ (∀ m, m ≠ n → t.wcu.units.get m = s.wcu.units.get m)
    ∧ ((now = true ∧ w.condition = false ∧ w.armed = true) →
        Raised (Source.ofWatch n) s t ∧ (t.wcu.units.get n).armed = !w.config.once)
    ∧ (¬ (now = true ∧ w.condition = false ∧ w.armed = true) → t.ntu = s.ntu ∧ (t.wcu.units.get n).armed = w.armed)
    ∧ t = { s with wcu := t.wcu, ntu := t.ntu, trc := t.trc })
  ∧ (
  ∀ (tag unit signal direction mode mask : Byte) (threshold : BitVec 32) (s : State), Free s →
    let f : Frame := ⟨0x34, tag, [unit, signal] ++ w32 threshold ++ [direction, mode]⟩
    let c : Instr := .setWatch tag unit signal threshold direction mode
    let good : Prop := unit.toNat ≤ 3 ∧ signal.toNat ≤ 12 ∧ direction.toNat ≤ 1 ∧ mode.toNat ≤ 1
    (¬ good → exec c s = .next (answered f .range [] s))
    ∧ (good → SaveRunning s → exec c s = .next (answered f .busy [] s))
    ∧ (good → ¬ SaveRunning s → ∃ w sig, exec c s = .next (answered f .ok [] { s with wcu := w })
        ∧ WatchSignal.ofCode? signal.toNat = some sig
        ∧ ∀ n : Fin 4, w.units.get n =
            if n.1 = unit.toNat then ⟨⟨sig, threshold.toInt, direction == 0, mode == 1⟩, true, false⟩
            else s.wcu.units.get n)
    ∧ (∃ w, exec (.rearmWatch tag mask) s = .next (answered ⟨0x35, tag, [mask]⟩ .ok [] { s with wcu := w })
        ∧ ∀ n : Fin 4, w.units.get n =
            { s.wcu.units.get n with armed := (s.wcu.units.get n).armed || mask.getLsbD n.1 }))

/-- FETCH_NOTICES (R157): the number of latched sources, then up to eight records, of every latched source once, by level
from 7 down and by number within a level; no state changes. -/
def Obligations.FetchOrdersByLevel : Prop :=
  ∀ s : State, (∀ n, (s.ntu.sources.get n).level ≤ 7) →
    ∃ l : List (Fin 24),
      (∀ n, n ∈ l ↔ (s.ntu.sources.get n).latched = true)
      ∧ l.Pairwise (fun a b =>
        (s.ntu.sources.get b).level < (s.ntu.sources.get a).level
        ∨ ((s.ntu.sources.get b).level = (s.ntu.sources.get a).level ∧ a < b))
      ∧ ∀ tag, Free s → exec (.fetchNotices tag) s = .next (answered ⟨0x30, tag, []⟩ .ok
          (BitVec.ofNat 8 l.length :: (l.take 8).flatMap fun n =>
            let r := s.ntu.sources.get n
            [BitVec.ofNat 8 n.1, BitVec.ofNat 8 r.level, if r.enable = true then 1 else 0, BitVec.ofNat 8 r.count]
              ++ bytesOf 4 (r.last.getD 0).toNat) s)

/-- ACK_NOTICES, SET_NOTICE_LEVELS (R158, R160): the whole list is checked first; then each listed source is cleared,
or takes the level of its last pair, and ALERT is judged. SET_NOTICE_ENABLE in its three modes (R159): BUSY during a
save; else the enables follow mode and mask, ALERT is judged and nothing else changes; a mode byte above 2 is refused
with RANGE. -/
def Obligations.NoticeSettingsTaken : Prop :=
  (
  ∀ (tag : Byte) (s : State), Free s →
    (∀ l : List Byte, (l = [] ∨ 24 < l.length ∨ ∃ b ∈ l, 23 < b.toNat) →
      exec (.ackNotices tag l) s = .next (answered ⟨0x31, tag, l⟩ .range [] s))
    ∧ (∀ l : List Byte, l ≠ [] → l.length ≤ 24 → (∀ b ∈ l, b.toNat ≤ 23) →
      ∃ t counts, exec (.ackNotices tag l) s = .next (answered ⟨0x31, tag, l⟩ .ok counts t)
        ∧ t = { s with ntu := t.ntu } ∧ t.ntu.alert = t.alertDue ∧ counts.length = l.length
        ∧ (∀ n, t.ntu.sources.get n =
            if (∃ b ∈ l, b.toNat = n.1) then { s.ntu.sources.get n with latched := false, count := 0, last := none }
            else s.ntu.sources.get n)
        ∧ (∀ i b, l[i]? = some b → counts[i]? = some
            (if b ∈ l.take i then 0 else BitVec.ofNat 8 (s.ntu.sources.get (Fin.ofNat 24 b.toNat)).count)))
    ∧ (∀ l : List (Byte × Byte), (l = [] ∨ 24 < l.length ∨ ∃ p ∈ l, 23 < p.1.toNat ∨ 7 < p.2.toNat) →
      exec (.setNoticeLevels tag l) s = .next (answered ⟨0x33, tag, l.flatMap levelBytes⟩ .range [] s))
    ∧ (∀ l : List (Byte × Byte), l ≠ [] → l.length ≤ 24 → (∀ p ∈ l, p.1.toNat ≤ 23 ∧ p.2.toNat ≤ 7) →
      (SaveRunning s → exec (.setNoticeLevels tag l) s = .next (answered ⟨0x33, tag, l.flatMap levelBytes⟩ .busy [] s))
      ∧ (¬ SaveRunning s → ∃ t, exec (.setNoticeLevels tag l) s =
            .next (answered ⟨0x33, tag, l.flatMap levelBytes⟩ .ok [] t)
          ∧ t = { s with ntu := t.ntu } ∧ t.ntu.alert = t.alertDue
          ∧ (∀ n, t.ntu.sources.get n = { s.ntu.sources.get n with
              level := match l.reverse.find? (fun p => p.1.toNat == n.1) with
                | some p => p.2.toNat
                | none => (s.ntu.sources.get n).level }))))
  ∧ (
  ∀ (tag : Byte) (mask : BitVec 24) (s : State), Free s →
    (∀ (c : Instr) (m : Byte), (c, m) ∈ [(Instr.setNoticeEnableAssign tag mask, (0 : Byte)),
        (.setNoticeEnableSet tag mask, 1), (.setNoticeEnableClear tag mask, 2)] →
      (SaveRunning s → exec c s = .next (answered ⟨0x32, tag, m :: w24 mask⟩ .busy [] s))
      ∧ (¬ SaveRunning s → ∃ t, exec c s = .next (answered ⟨0x32, tag, m :: w24 mask⟩ .ok [] t)
          ∧ t = { s with ntu := t.ntu } ∧ t.ntu.alert = t.alertDue
          ∧ ∀ n, t.ntu.sources.get n = { s.ntu.sources.get n with
              enable := if m = 0 then mask.getLsbD n.1
                else if m = 1 then ((s.ntu.sources.get n).enable || mask.getLsbD n.1)
                else ((s.ntu.sources.get n).enable && !mask.getLsbD n.1) }))
    ∧ (∀ m : Byte, 2 < m.toNat → handle ⟨0x32, tag, m :: w24 mask⟩ s = (s, .reply .range [])))

/-- TRACE_CONTROL (R169): ARM empties and records, DISABLE keeps and idles, TRIGGER acts in RECORDING alone, SET_MASK writes
the mask outside a save. -/
def Obligations.TraceControlActs : Prop :=
  ∀ (tag : Byte) (mask : BitVec 24) (s : State), Free s →
    exec (.traceControlArm tag) s = .next (answered ⟨0x38, tag, [0]⟩ .ok []
      { s with trc := { ring := [], state := .recording, mask := s.trc.mask, post := 0, position := none, cause := none
                        time := none } })
    ∧ exec (.traceControlDisable tag) s = .next (answered ⟨0x38, tag, [1]⟩ .ok []
        { s with trc := { s.trc with state := .idle } })
    ∧ (s.trc.state ≠ .recording → exec (.traceControlTrigger tag) s = .next (answered ⟨0x38, tag, [2]⟩ .state [] s))
    ∧ (s.trc.state = .recording → ∃ t, exec (.traceControlTrigger tag) s = .next (answered ⟨0x38, tag, [2]⟩ .ok [] t)
        ∧ t = { s with trc := t.trc, ntu := t.ntu } ∧ t.trc.cause = some .request ∧ t.trc.ring = s.trc.ring
        ∧ t.trc.time = some s.mfe.count ∧ t.trc.post = 0
        ∧ (t.trc.state = .frozen ↔ s.parN .tracePost = 0) ∧ (t.trc.state = .triggered ↔ 0 < s.parN .tracePost))
    ∧ (SaveRunning s → exec (.traceControlSetMask tag mask) s = .next (answered ⟨0x38, tag, 3 :: w24 mask⟩ .busy [] s))
    ∧ (¬ SaveRunning s → exec (.traceControlSetMask tag mask) s =
        .next (answered ⟨0x38, tag, 3 :: w24 mask⟩ .ok [] { s with trc := { s.trc with mask := mask } }))
    ∧ (∀ m : Byte, 3 < m.toNat → handle ⟨0x38, tag, [m]⟩ s = (s, .reply .range []))

/-! Requests that read. -/

/-- The requests that only read, without operands (R181, R184, R148, R14, R157, R194): OK, and no state changes but the link's
and the supervision; GET_STATUS reports the state as it is when the reply is formed (DEDUCED, log 19). UNKNOWN_KIND is
refused with KIND (R180); the kind byte of its reply is a free value for a kind of 80h or above (log 26). -/
def Obligations.ReadsChangeNothing : Prop :=
  ∀ (tag : Byte) (s : State), Free s →
    exec (.identify tag) s = .next (answered ⟨0x01, tag, []⟩ .ok
      [0x88, 0x09, 1, 4, 32, 0, 1, s.lnk.baud.setWidth 8, s.lnk.clksel.setWidth 8] s)
    ∧ exec (.getStatus tag) s = .next (answered ⟨0x02, tag, []⟩ .ok (statusBytes (answered ⟨0x02, tag, []⟩ .ok [] s)) s)
    ∧ exec (.getTrip tag) s = .next (answered ⟨0x03, tag, []⟩ .ok (getTripBytes s) s)
    ∧ exec (.readFilter tag) s = .next (answered ⟨0x21, tag, []⟩ .ok (filterBytes s) s)
    ∧ exec (.fetchNotices tag) s = .next (answered ⟨0x30, tag, []⟩ .ok (fetchBytes s) s)
    ∧ exec (.readStore tag) s = .next (answered ⟨0x3E, tag, []⟩ .ok (storeBytes s) s)
    ∧ (∀ (kind : Byte) (p : List Byte), kind ∉ requestKinds →
        exec (.unknownKind kind tag p) s = .next (answered ⟨kind, tag, p⟩ .kind [] s))

/-- The requests that read a range or a list (R5, R53, R115, R133, R170, R182): out of range they are refused with RANGE;
else OK with their records in order; nothing else changes either way. -/
def Obligations.RangedReadsChangeNothing : Prop :=
  ∀ (tag a n : Byte) (first : BitVec 16) (ids : List Byte) (s : State), Free s →
    let reply (f : Frame) (ok : Prop) (payload : List Byte) (c : Instr) : Prop :=
      (ok → exec c s = .next (answered f .ok payload s)) ∧ (¬ ok → exec c s = .next (answered f .range [] s))
    let run (g : Nat → List Byte) : List Byte := (List.range n.toNat).flatMap fun i => g (a.toNat + i)
    reply ⟨0x19, tag, [a, n]⟩ (a.toNat ≤ 23 ∧ 1 ≤ n.toNat ∧ n.toNat ≤ 4 ∧ a.toNat + n.toNat ≤ 24) (run (slotBytes s))
      (.readSlots tag a n)
    ∧ reply ⟨0x1B, tag, [a, n]⟩ (a.toNat ≤ 31 ∧ 1 ≤ n.toNat ∧ n.toNat ≤ 4 ∧ a.toNat + n.toNat ≤ 32)
      (s.governingIndex :: run (responseBytes s)) (.readResponses tag a n)
    ∧ reply ⟨0x24, tag, [a, n]⟩ (a.toNat ≤ 7 ∧ 1 ≤ n.toNat ∧ a.toNat + n.toNat ≤ 8) (run (trimBytes s)) (.readTrim tag a n)
    ∧ reply ⟨0x28, tag, [a, n]⟩ (a.toNat ≤ 15 ∧ 1 ≤ n.toNat ∧ n.toNat ≤ 4)
      (bytesOf 1 s.dgv.history.length ++ ((s.dgv.history.drop a.toNat).take n.toNat).flatMap historyBytes)
      (.readHistory tag a n)
    ∧ reply ⟨0x39, tag, w16 first ++ [n]⟩ (1 ≤ n.toNat ∧ n.toNat ≤ 8) (readTraceBytes s.trc first n.toNat)
      (.readTrace tag first n)
    ∧ reply ⟨0x11, tag, ids⟩
      (ids ≠ [] ∧ ids.length ≤ 32 ∧ ∀ b ∈ ids, ∃ p : ParamId, p.info.code = b.toNat)
      (ids.flatMap fun b => b :: (match ParamId.ofCode? b.toNat with | some p => bytesOfInt 4 (s.par p) | none => []))
      (.getParam tag ids)

/-- The status record (R184, R188): 57 bytes, with every field of the layout at its offset. The part of the ring that READ_TRACE
returns (R170): from the start sequence, with FOUND, when its entry is held, from the oldest otherwise, with OLDEST, for a
ring whose sequences are consecutive; the trace header and entry. The layouts of the trip record, the slot record (with the
reference average of the slot's bridge for the slots 0..S − 1; for the others it is a free value, log 25), the response entry
as read, the history record, and the payloads of READ_STORE and READ_FILTER (R187, R188). -/
def Obligations.ReadLayouts : Prop :=
  (
  ∀ s : State,
    (statusBytes s).length = 57
    ∧ (statusBytes s).take 8 = [s.rct.state.code, s.reasonsByte, s.atr.state.code, s.dgv.state.code,
        kindByte s.dgv.kind, bandByte s.dgv.kind s.dgv.band, s.governingAction, s.governingIndex]
    ∧ s.reasonsByte = BitVec.ofNat 8 ((decide (s.rct.state ≠ .run ∧ s.rct.state ≠ .stopping)).toNat
        + 2 * s.rct.tripIn.toNat + 4 * (decide (s.atr.state = .search ∨ s.atr.state = .lost)).toNat
        + 8 * s.dgv.block.toNat + 16 * s.ssq.pendingSync.toNat)
    ∧ Holds (statusBytes s) 8 2 s.atr.m ∧ Holds (statusBytes s) 10 2 ((4000000 * s.atr.w + 5898240) / 11796480)
    ∧ Holds (statusBytes s) 12 2 (s.atr.p / 256) ∧ Holds (statusBytes s) 14 2 s.atr.uLast
    ∧ (∀ b : Fin 4, Holds (statusBytes s) (16 + 8 * b.1) 2 (s.crg.bridges.get b).target
        ∧ Holds (statusBytes s) (18 + 8 * b.1) 2 ((s.crg.bridges.get b).setpoint / 256)
        ∧ Holds (statusBytes s) (20 + 8 * b.1) 2 (s.lastCurrent b).toNat
        ∧ Holds (statusBytes s) (22 + 8 * b.1) 2 (s.crg.bridges.get b).alphaPrev)
    ∧ Holds (statusBytes s) 48 1 s.fls.list.length ∧ (statusBytes s)[49]? = some s.trc.state.code
    ∧ Holds (statusBytes s) 50 2 s.lnk.errors ∧ Holds (statusBytes s) 52 4 s.mfe.count.toNat
    ∧ Holds (statusBytes s) 56 1 ((decide (∃ n, s.sst.activity = .saving n)).toNat + 2 * s.sst.latch.toNat))
  ∧ (
  ∀ (c : Trc) (o : BitVec 16) (first : BitVec 16) (n : Nat), c.ring.length ≤ 256 →
    (∀ i (h : i < c.ring.length), c.ring[i].seq = o + BitVec.ofNat 16 i) →
    let l := readTraceBytes c first n
    (∀ i (h : i < c.ring.length), c.ring[i].seq = first →
      l.drop 17 = ((c.ring.drop i).take n).flatMap traceEntryBytes ∧ l[15]? = some 0)
    ∧ ((∀ r ∈ c.ring, r.seq ≠ first) → l.drop 17 = (c.ring.take n).flatMap traceEntryBytes ∧ l[15]? = some 1)
    ∧ l[0]? = some c.state.code ∧ Holds l 1 2 c.ring.length
    ∧ (c.ring ≠ [] → Holds l 3 2 o.toNat ∧ Holds l 5 2 (o + BitVec.ofNat 16 (c.ring.length - 1)).toNat)
    ∧ (c.ring = [] → Holds l 3 2 0 ∧ Holds l 5 2 0)
    ∧ Holds l 7 2 (c.position.getD 0).toNat
    ∧ l[9]? = some (match c.cause with | none => 0xFF | some .request => 0x80 | some (.source k) => BitVec.ofNat 8 k.1)
    ∧ Holds l 10 4 (c.time.getD 0).toNat ∧ Holds l 14 1 c.post
    ∧ Holds l 16 1 ((decide (c.ring ≠ [])).toNat + 2 * c.position.isSome.toNat + 4 * c.time.isSome.toNat))
  ∧ (
  ∀ r : TraceRecord,
    let l := traceEntryBytes r
    l.length = 20 ∧ Holds l 0 2 r.seq.toNat ∧ Holds l 2 4 r.doneTime.toNat ∧ Holds l 6 1 r.slot.1
    ∧ Holds l 7 1 (r.bridge.1 + 4 * r.outcome.code.toNat + 16 * r.episodeMark.toNat + 32 * r.areas.isSome.toNat)
    ∧ Holds l 8 2 r.alpha ∧ Holds l 10 2 r.fire ∧ Holds l 12 3 (r.areas.getD (0, 0)).1
    ∧ Holds l 15 3 (r.areas.getD (0, 0)).2 ∧ Holds l 18 2 r.iMeas.toNat)
  ∧ (
  ∀ r : TripRecord,
    let l := tripBytes r
    l.length = 21 ∧ l.take 2 = [haltReasonCode r.cause, haltDetailCode r.cause] ∧ Holds l 2 4 r.time.toNat
    ∧ l[6]? = some r.left.code ∧ Holds l 7 2 r.m ∧ Holds l 9 2 r.w
    ∧ (∀ b : Fin 4, Holds l (11 + 2 * b.1) 2 (r.currents.get b).toNat)
    ∧ l.drop 19 = (match r.episode with | some (k, band) => [k.code, BitVec.ofNat 8 band] | none => [0xFF, 0xFF]))
  ∧ (
  ∀ (s : State) (k : Fin 24),
    let l := slotBytes s k.1
    let c := s.ssq.config.get k
    let t := s.fls.status.get k
    l.length = 37 ∧ Holds l 0 1 k.1 ∧ l[1]? = some c.channel.code ∧ Holds l 2 3 c.aMin.toNat ∧ Holds l 5 3 c.refLimit.toNat
    ∧ Holds l 8 1 t.consecutive ∧ Holds l 9 2 t.totalMisfires ∧ Holds l 11 4 t.totalConfirmed
    ∧ (t.last = none → (l.drop 15).take 19 = List.replicate 19 0)
    ∧ (∀ r, t.last = some r →
      let a := r.areas.getD ⟨0, 0, 0, 0⟩
      Holds l 15 2 r.seq.toNat ∧ Holds l 17 1 (r.outcome.code.toNat + 64 * r.areas.isSome.toNat + 128)
      ∧ Holds l 18 2 r.alpha ∧ Holds l 20 2 r.iMeas.toNat ∧ Holds l 22 2 r.iSet ∧ Holds l 24 3 a.notch
      ∧ Holds l 27 2 a.notchSamples ∧ Holds l 29 3 a.reference ∧ Holds l 32 2 a.refSamples)
    ∧ (k.1 < 6 * s.parN .bridges → Holds l 34 3 (s.fls.refAvg.get (Fin.ofNat 4 (k.1 % s.parN .bridges)))))
  ∧ (
  ∀ (s : State) (i : Fin 32),
    let l := responseBytes s i.1
    let e := s.rtb.entries.get i
    let r := e.resp
    let m := s.rtb.marks.get i
    l.length = 15 ∧ Holds l 0 1 i.1
    ∧ (e.bandLo ≤ 7 → e.bandHi ≤ 7 →
      Holds l 1 1 (e.kind.code.toNat + 8 * e.fallback.toNat + 128 * e.valid.toNat) ∧ Holds l 2 1 (e.bandLo + 16 * e.bandHi))
    ∧ Holds l 3 1 (r.action.code.toNat + 4 * (decide (r.onExpiry = .block)).toNat + 16 * r.mode.code.toNat)
    ∧ Holds l 4 2 r.iLimit ∧ Holds l 6 2 r.alphaFloor ∧ Holds l 8 2 r.holdMs ∧ Holds l 10 2 r.restartAlpha
    ∧ Holds l 12 2 r.rampMs ∧ Holds l 14 1 (m.used.toNat + 2 * m.rode.toNat + 4 * m.tripped.toNat))
  ∧ (
  ∀ r : HistoryRecord,
    let l := historyBytes r
    l.length = 13 ∧ Holds l 0 2 r.number.toNat ∧ Holds l 2 4 r.start.toNat
    ∧ Holds l 6 1 (r.onsetKind.code.toNat + 16 * r.kind.code.toNat)
    ∧ (r.band ≤ 7 → Holds l 7 1 (r.band + 8 * r.expired.toNat + 16 * r.blocked.toNat + 32 * r.outcome.code.toNat))
    ∧ l[8]? = some (match r.entry with | .entry i => BitVec.ofNat 8 i.1 | .dflt => 0x40 | .none => 0xFF)
    ∧ Holds l 9 4 (r.duration.getD 0).toNat)
  ∧ (
  ∀ s : State,
    let l := storeBytes s
    let f := filterBytes s
    l.length = 67 ∧ l[0]? = some s.storeByte ∧ Holds l 1 2 s.sst.corrected
    ∧ (∀ n : Fin 512, (l.getD (3 + n.1 / 8) 0).getLsbD (n.1 % 8) = s.sst.bad.get n)
    ∧ f.length = 37 ∧ (∀ i : Fin 3,
        let c := s.ffb.coeffs.get i
        Holds f (10 * i.1) 2 c.b0.toNat ∧ Holds f (10 * i.1 + 2) 2 c.b1.toNat ∧ Holds f (10 * i.1 + 4) 2 c.b2.toNat
        ∧ Holds f (10 * i.1 + 6) 2 c.a1.toNat ∧ Holds f (10 * i.1 + 8) 2 c.a2.toNat
        ∧ Holds f (31 + 2 * i.1) 2 (s.ffb.saturations.get i))
    ∧ Holds f 30 1 s.ffb.enabled.toNat)

/-! Requests that write. -/

/-- SET_TARGETS (R55): the whole list checked first; then each bridge takes its last pair's value, at most I_MAX, and the
reply is CLAMPED when a value was reduced. -/
def Obligations.TargetsTakeLastPair : Prop :=
  ∀ (tag : Byte) (l : List (Byte × BitVec 16)) (s : State), Free s →
    let f : Frame := ⟨0x10, tag, l.flatMap targetBytes⟩
    let good : Prop := l ≠ [] ∧ l.length ≤ 4 ∧ ∀ p ∈ l, p.1.toNat ≤ 3
    (¬ good → exec (.setTargets tag l) s = .next (answered f .range [] s))
    ∧ (good → (s.rct.state = .stopping ∨ s.rct.state = .halt) →
        exec (.setTargets tag l) s = .next (answered f .state [] s))
    ∧ (good → s.rct.state ≠ .stopping → s.rct.state ≠ .halt →
        ∃ g, exec (.setTargets tag l) s = .next (answered f
            (if (∃ p ∈ l, s.parN .iMax < p.2.toNat) then .clamped else .ok) [] { s with crg := g })
          ∧ ∀ b : Fin 4, g.bridges.get b = { s.crg.bridges.get b with
              target := match l.reverse.find? (fun p => p.1.toNat == b.1) with
                | some p => min p.2.toNat (s.parN .iMax)
                | none => (s.crg.bridges.get b).target })

/-- SET_PARAM of one pair (R183): the first check that fails gives the code; a pair that passes is written, no other
parameter changes, and I_MAX, MISFIRE_LIMIT and ALERT_FLOOR have the effects of R56, R92 and R161. The cross checks of
SET_PARAM (R69, R117, R152). -/
def Obligations.SetParamWritesOne : Prop :=
  (
  ∀ (tag id : Byte) (v : BitVec 32) (s : State), Free s →
    let f : Frame := ⟨0x12, tag, id :: w32 v⟩
    let c : Instr := .setParam tag [(id, v)]
    (SaveRunning s → exec c s = .next (answered f .busy [] s))
    ∧ (¬ SaveRunning s → (∀ p : ParamId, p.info.code ≠ id.toNat) → exec c s = .next (answered f .range [] s))
    ∧ (∀ p : ParamId, ¬ SaveRunning s → p.info.code = id.toNat →
        (p.inRange v.toInt = false → exec c s = .next (answered f .range [] s))
        ∧ (p.inRange v.toInt = true → p.info.standbyOnly = true → s.rct.state ≠ .standby →
            exec c s = .next (answered f .state [] s))
        ∧ (p.inRange v.toInt = true → (p.info.standbyOnly = true → s.rct.state = .standby) →
            (crossCheck s p v.toInt = false → exec c s = .next (answered f .config [id] s))
            ∧ (crossCheck s p v.toInt = true → ∃ t, exec c s = .next (answered f .ok [] t)
                ∧ t.par p = v.toInt ∧ (∀ q, q ≠ p → t.par q = s.par q)
                ∧ t = { s with params := t.params, crg := t.crg, fls := t.fls, ntu := t.ntu }
                ∧ (p ≠ .iMax → t.crg = s.crg) ∧ (p ≠ .misfireLimit → t.fls = s.fls) ∧ (p ≠ .alertFloor → t.ntu = s.ntu)
                ∧ (p = .iMax → ∀ b, t.crg.bridges.get b = { s.crg.bridges.get b with
                    target := min (s.crg.bridges.get b).target v.toInt.toNat
                    setpoint := min (s.crg.bridges.get b).setpoint (v.toInt.toNat * 256) })
                ∧ (p = .misfireLimit → t.fls = { s.fls with status := t.fls.status } ∧ ∀ k, t.fls.status.get k =
                    { s.fls.status.get k with
                      consecutive := min (s.fls.status.get k).consecutive v.toInt.toNat })
                ∧ (p = .alertFloor → t.ntu = { s.ntu with alert := t.alertDue })))))
  ∧ (
  ∀ (s : State) (v : Int),
    (crossCheck s .alphaMin v = true ↔ v ≤ s.par .alphaMax) ∧ (crossCheck s .alphaMax v = true ↔ s.par .alphaMin ≤ v)
    ∧ (crossCheck s .alphaStart v = true ↔ s.par .alphaMin ≤ v ∧ v ≤ s.par .alphaMax)
    ∧ (crossCheck s .iMax v = true ↔ v < s.par .iTrip) ∧ (crossCheck s .iTrip v = true ↔ s.par .iMax < v)
    ∧ (∀ p ∈ [ParamId.mLoss, .mHyst, .mSag, .mSwell], (¬ Running3 s → crossCheck s p v = true)
      ∧ (Running3 s →
          let a (x : ParamId) : Int := if x = p then v else s.par x
          (crossCheck s p v = true ↔ a .mLoss + a .mHyst < a .mSag ∧ a .mSag + a .mHyst < a .mSwell - a .mHyst)))
    ∧ (∀ p, p ∉ [ParamId.alphaMin, .alphaMax, .alphaStart, .iMax, .iTrip, .mLoss, .mHyst, .mSag, .mSwell] →
        crossCheck s p v = true))

/-- SET_PARAM of a list (R183): the whole list refused with RANGE or BUSY before any pair is written; else the pairs are
written in order up to the first that fails, and the reply tells OK, the first pair's own failure, or PARTIAL with the
number written, the code and the id. -/
def Obligations.SetParamStopsAtFailure : Prop :=
  ∀ (tag : Byte) (l : List (Byte × BitVec 32)) (s : State), Free s →
    let f : Frame := ⟨0x12, tag, l.flatMap paramBytes⟩
    ((l = [] ∨ 32 < l.length) → exec (.setParam tag l) s = .next (answered f .range [] s))
    ∧ (l ≠ [] → l.length ≤ 32 → SaveRunning s → exec (.setParam tag l) s = .next (answered f .busy [] s))
    ∧ (l ≠ [] → l.length ≤ 32 → ¬ SaveRunning s →
      (∀ t, l.foldlM (fun u x => putParam x u) s = Except.ok t →
        exec (.setParam tag l) s = .next (answered f .ok [] t))
      ∧ (∀ pre q post t c, l = pre ++ q :: post → pre.foldlM (fun u x => putParam x u) s = Except.ok t →
          putParam q t = .error c →
          exec (.setParam tag l) s = .next
            (if pre = [] then answered f c (if c = .config then [q.1] else []) t
             else answered f .partialWrite [BitVec.ofNat 8 pre.length, c.code, q.1] t)))

/-- WRITE_SLOTS and WRITE_RESPONSES (R52, R131, R132): checked as a whole, then written record by record up to the
first that fails; the count written is answered by PARTIAL, and WRITE_RESPONSES answers the governing index too. A
response record fails exactly when a field lies outside the table of 7.1 (R131). -/
def Obligations.RecordWritesStopAtFailure : Prop :=
  (
  ∀ (tag first : Byte) (s : State), Free s →
    (∀ l : List SlotRec,
      let f : Frame := ⟨0x18, tag, first :: l.flatMap slotRecBytes⟩
      let good : Prop := first.toNat ≤ 23 ∧ l ≠ [] ∧ l.length ≤ 8 ∧ first.toNat + l.length ≤ 24
      let n := (l.takeWhile fun r => decide (r.channel.toNat ≤ 2)).length
      (¬ good → exec (.writeSlots tag first l) s = .next (answered f .range [] s))
      ∧ (good → SaveRunning s → exec (.writeSlots tag first l) s = .next (answered f .busy [] s))
      ∧ (good → ¬ SaveRunning s → ∃ g, exec (.writeSlots tag first l) s =
            .next (answered f (if n = l.length then .ok else .partialWrite)
              (if n = l.length then [] else [BitVec.ofNat 8 n]) { s with ssq := g })
          ∧ g.pointer = s.ssq.pointer ∧ g.pendingSync = s.ssq.pendingSync
          ∧ (∀ k : Fin 24, ¬ (first.toNat ≤ k.1 ∧ k.1 < first.toNat + n) → g.config.get k = s.ssq.config.get k)
          ∧ (∀ i (_ : i < n) r, l[i]? = some r → ∀ k : Fin 24, k.1 = first.toNat + i →
              (g.config.get k).channel.code = r.channel ∧ (g.config.get k).aMin = r.aMin
              ∧ (g.config.get k).refLimit = r.refLimit)))
    ∧ (∀ l : List ResponseRec,
      let f : Frame := ⟨0x1A, tag, first :: l.flatMap responseRecBytes⟩
      let good : Prop := first.toNat ≤ 31 ∧ l ≠ [] ∧ l.length ≤ 4 ∧ first.toNat + l.length ≤ 32
      let n := (l.takeWhile fun r => (responseOfRec r).isSome).length
      (¬ good → exec (.writeResponses tag first l) s = .next (answered f .range [] s))
      ∧ (good → SaveRunning s → exec (.writeResponses tag first l) s = .next (answered f .busy [] s))
      ∧ (good → ¬ SaveRunning s → ∃ g, exec (.writeResponses tag first l) s =
            .next (answered f (if n = l.length then .ok else .partialWrite) [BitVec.ofNat 8 n, s.governingIndex]
              { s with rtb := g })
          ∧ g.marks = s.rtb.marks
          ∧ (∀ k : Fin 32, ¬ (first.toNat ≤ k.1 ∧ k.1 < first.toNat + n) → g.entries.get k = s.rtb.entries.get k)
          ∧ (∀ i (_ : i < n) r, l[i]? = some r → ∀ k : Fin 32, k.1 = first.toNat + i →
              responseOfRec r = some (g.entries.get k)))))
  ∧ (
  ∀ r : ResponseRec,
    ((responseOfRec r).isSome = true ↔
      r.kind.toNat ≤ 5 ∧ r.action.toNat ≤ 2 ∧ r.mode.toNat ≤ 2 ∧ r.bandLo.toNat ≤ r.bandHi.toNat
      ∧ r.iLimit.toNat ≤ 4096 ∧ r.alphaFloor.toNat ≤ 11520 ∧ 1 ≤ r.holdMs.toNat ∧ r.holdMs.toNat ≤ 5000
      ∧ r.restartAlpha.toNat ≤ 11520 ∧ r.rampMs.toNat ≤ 10000)
    ∧ (∀ e, responseOfRec r = some e → recOfResponse e = r))

/-- CLEAR_MARKS, WRITE_TRIM, WRITE_FILTER and FILTER_CONTROL (R130, R4, R11, R12, R13); a filter mode byte above 1 is
refused with RANGE. -/
def Obligations.TrimFilterMarksWritten : Prop :=
  ∀ (tag : Byte) (s : State), Free s →
    (∀ mask : BitVec 32, ∃ m, exec (.clearMarks tag mask) s =
        .next (answered ⟨0x1C, tag, w32 mask⟩ .ok [] { s with rtb := { s.rtb with marks := m } })
      ∧ ∀ i : Fin 32, m.get i = if mask.getLsbD i.1 = true then ⟨false, false, false⟩ else s.rtb.marks.get i)
    ∧ (∀ l : List TrimRec,
      let f : Frame := ⟨0x23, tag, l.flatMap trimRecBytes⟩
      let good : Prop := l ≠ [] ∧ l.length ≤ 8 ∧ ∀ r ∈ l, r.channel.toNat ≤ 7 ∧ r.invert.toNat ≤ 1
      (¬ good → exec (.writeTrim tag l) s = .next (answered f .range [] s))
      ∧ (good → SaveRunning s → exec (.writeTrim tag l) s = .next (answered f .busy [] s))
      ∧ (good → ¬ SaveRunning s → ∃ m, exec (.writeTrim tag l) s =
            .next (answered f .ok [] { s with mfe := { s.mfe with trims := m } })
          ∧ ∀ c : Fin 8, m.get c = match l.reverse.find? (fun r => r.channel.toNat == c.1) with
            | some r => ⟨r.offset, r.gain, r.invert == 1⟩
            | none => s.mfe.trims.get c))
    ∧ (∀ l : List FilterRec,
      let f : Frame := ⟨0x20, tag, l.flatMap filterRecBytes⟩
      let good : Prop := l ≠ [] ∧ l.length ≤ 3 ∧ ∀ r ∈ l, r.stage.toNat ≤ 2
      (¬ good → exec (.writeFilter tag l) s = .next (answered f .range [] s))
      ∧ (good → SaveRunning s → exec (.writeFilter tag l) s = .next (answered f .busy [] s))
      ∧ (good → ¬ SaveRunning s → s.ffb.enabled = true →
          exec (.writeFilter tag l) s = .next (answered f .filterActive [] s))
      ∧ (good → ¬ SaveRunning s → s.ffb.enabled = false → ∃ m, exec (.writeFilter tag l) s =
            .next (answered f .ok [] { s with ffb := { s.ffb with coeffs := m } })
          ∧ ∀ c : Fin 3, m.get c = match l.reverse.find? (fun r => r.stage.toNat == c.1) with
            | some r => ⟨r.b0, r.b1, r.b2, r.a1, r.a2⟩
            | none => s.ffb.coeffs.get c))
    ∧ (SaveRunning s → exec (.filterControlEnable tag) s = .next (answered ⟨0x22, tag, [1]⟩ .busy [] s)
        ∧ exec (.filterControlDisable tag) s = .next (answered ⟨0x22, tag, [0]⟩ .busy [] s))
    ∧ (¬ SaveRunning s →
        exec (.filterControlEnable tag) s = .next (answered ⟨0x22, tag, [1]⟩ .ok []
          { s with ffb := if s.ffb.enabled = true then s.ffb
                     else { s.ffb with enabled := true, stages := clearedStages } })
        ∧ (Running3 s → exec (.filterControlDisable tag) s = .next (answered ⟨0x22, tag, [0]⟩ .state [] s))
        ∧ (¬ Running3 s → exec (.filterControlDisable tag) s =
            .next (answered ⟨0x22, tag, [0]⟩ .ok [] { s with ffb := { s.ffb with enabled := false } })))
    ∧ (∀ m : Byte, 1 < m.toNat → handle ⟨0x22, tag, [m]⟩ s = (s, .reply .range []))

/-- SAVE_SETTINGS, LOAD_SETTINGS and RESET (R185, R191, R192): a save and a load start in STANDBY outside a save; a load's
reply follows its end, so none is under transmission; RESET is always OK and changes nothing before its reply is sent. -/
def Obligations.StoreRequestsTaken : Prop :=
  ∀ (tag : Byte) (s : State), Free s →
    (s.rct.state ≠ .standby →
      exec (.saveSettings tag) s = .next (answered ⟨0x3C, tag, []⟩ .state [] s)
      ∧ exec (.loadSettings tag) s = .next (answered ⟨0x3D, tag, []⟩ .state [] s))
    ∧ (s.rct.state = .standby → SaveRunning s →
      exec (.saveSettings tag) s = .next (answered ⟨0x3C, tag, []⟩ .busy [] s)
      ∧ exec (.loadSettings tag) s = .next (answered ⟨0x3D, tag, []⟩ .busy [] s))
    ∧ (s.rct.state = .standby → ¬ SaveRunning s →
      exec (.saveSettings tag) s = .next (answered ⟨0x3C, tag, []⟩ .ok []
        { s with sst := { s.sst with activity := .saving 0 } })
      ∧ exec (.loadSettings tag) s = .next { s with
          sst := { s.sst with activity := .loading }
          rct := { s.rct with supervision := 0, lapsed := false }
          lnk := { s.lnk with inbox := [⟨0x3D, tag, []⟩] } })
    ∧ exec (.reset tag) s = .next (answered ⟨0x3F, tag, []⟩ .ok [] s)

/-! The link. -/

/-- The receiver (R176), byte by byte: HUNT, LENGTH, BODY and the first CRC byte; the second CRC byte drops a frame
that is not intact and hands an intact one to the inbox; while the power-on load runs every byte is discarded. A
missing stop bit and a gap of more than 1 ms (R174, R176): nothing in HUNT, else the partial frame is dropped, counted
and noticed. -/
def Obligations.ReceiverTakesBytes : Prop :=
  (
  ∀ (b : Byte) (s : State), s.asleep = false →
    let l := s.lnk.partialFrame.headD 0
    let n := s.lnk.partialFrame.length
    let dropped : Prop := ∃ t, exec (.rxByte b) s = .next t ∧ Raised .linkFault s t
      ∧ t = { s with lnk := { s.lnk with rx := .hunt, partialFrame := [], errors := min 65535 (s.lnk.errors + 1) }
                     ntu := t.ntu, trc := t.trc }
    (s.lnk.rx = .hunt → b = 0xC3 →
      exec (.rxByte b) s = .next { s with lnk := { s.lnk with rx := .length, partialFrame := [] } })
    ∧ (s.lnk.rx = .hunt → b ≠ 0xC3 → exec (.rxByte b) s = .next s)
    ∧ (s.lnk.rx = .length → 2 ≤ b.toNat → b.toNat ≤ 240 →
      exec (.rxByte b) s = .next { s with lnk := { s.lnk with rx := .body, partialFrame := [b] } })
    ∧ (s.lnk.rx = .length → ¬ (2 ≤ b.toNat ∧ b.toNat ≤ 240) → dropped)
    ∧ (s.lnk.rx = .body → s.lnk.partialFrame ≠ [] →
      exec (.rxByte b) s = .next { s with lnk := { s.lnk with
        rx := if n = l.toNat then .crc else .body, partialFrame := s.lnk.partialFrame ++ [b] } })
    ∧ (s.lnk.rx = .crc → n = l.toNat + 1 →
      exec (.rxByte b) s = .next { s with lnk := { s.lnk with partialFrame := s.lnk.partialFrame ++ [b] } })
    ∧ (s.lnk.rx = .crc → n = l.toNat + 2 →
        (crc (s.lnk.partialFrame.take (n - 1))).toNat ≠ (s.lnk.partialFrame.getD (n - 1) 0).toNat + 256 * b.toNat →
        dropped)
    ∧ (s.lnk.rx = .crc → n = l.toNat + 2 → 2 ≤ l.toNat →
        (crc (s.lnk.partialFrame.take (n - 1))).toNat = (s.lnk.partialFrame.getD (n - 1) 0).toNat + 256 * b.toNat →
        exec (.rxByte b) s = .next (receive
          ⟨s.lnk.partialFrame.getD 1 0, s.lnk.partialFrame.getD 2 0, (s.lnk.partialFrame.drop 3).take (l.toNat - 2)⟩
          { s with lnk := { s.lnk with rx := .hunt, partialFrame := [] } })))
  ∧ (∀ (b : Byte) (s : State), s.asleep = true → exec (.rxByte b) s = .next s)
  ∧ (
  ∀ (c : Instr) (s : State), (c = .rxFramingError ∨ c = .frameGapTimeout) → s.asleep = false →
    (s.lnk.rx = .hunt → exec c s = .next s)
    ∧ (s.lnk.rx ≠ .hunt → ∃ t, exec c s = .next t ∧ Raised .linkFault s t ∧ QuietBut [.linkFault, .traceFrozen] s t
        ∧ t = { s with lnk := { s.lnk with rx := .hunt, partialFrame := [], errors := min 65535 (s.lnk.errors + 1) }
                       ntu := t.ntu, trc := t.trc }))

/-- The inbox (R177, R178): a second frame waits, restarting the supervision; a third is dropped, counted, noticed and
sets overrun. REPLY_TRANSMITTED (R178, R185): the frame leaves the inbox and a waiting one is handled; after RESET's
reply the soft reset is taken; with no reply under transmission nothing happens. -/
def Obligations.InboxServesInOrder : Prop :=
  (
  ∀ (f : Frame) (s : State),
    (s.lnk.inbox.length = 1 → receive f s = { s with
      lnk := { s.lnk with inbox := s.lnk.inbox ++ [f] }, rct := { s.rct with supervision := 0, lapsed := false } })
    ∧ (2 ≤ s.lnk.inbox.length → Raised .linkFault s (receive f s)
        ∧ receive f s = { s with
            lnk := { s.lnk with errors := min 65535 (s.lnk.errors + 1), overrun := true }
            ntu := (receive f s).ntu, trc := (receive f s).trc }))
  ∧ (
  ∀ s : State, s.asleep = false →
    (s.lnk.reply = none → exec .replyTransmitted s = .next s)
    ∧ (∀ (r : ReplyFrame) (f : Frame), s.lnk.reply = some r → ¬ (r.kind = 0xBF ∧ r.code = .ok) → s.lnk.inbox = [f] →
        exec .replyTransmitted s = .next { s with lnk := { s.lnk with reply := none, inbox := [] } })
    ∧ (∀ (r : ReplyFrame) (f g : Frame), s.lnk.reply = some r → ¬ (r.kind = 0xBF ∧ r.code = .ok) → s.lnk.inbox = [f, g] →
        exec .replyTransmitted s =
          .next (serve g (handle g) { s with lnk := { s.lnk with reply := none, inbox := [g] } }))
    ∧ (∀ r : ReplyFrame, s.lnk.reply = some r → r.kind = 0xBF → r.code = .ok →
        exec .replyTransmitted s = exec .softReset s))

/-- Every request that fits its frame is read back from the frame it is written as. A frame of any other kind is refused with
KIND, one whose payload length its kind does not take with LENGTH, a TRACE_CONTROL mode above 3 with RANGE; a refused frame
has no effect (R180, R187, R188). -/
def Obligations.RequestFramesRoundTrip : Prop :=
  (∀ (i : Instr) (f : Frame), i.wellFormed = true → frameOf i = some f → (∀ k t p, i ≠ .unknownKind k t p) →
    decodeRequest f = .ok i)
  ∧ (∀ (k t : Byte) (p : List Byte), k ∉ requestKinds → decodeRequest ⟨k, t, p⟩ = .error .kind)
  ∧ (∀ (k : Byte) (n : Nat), (k, n) ∈ [((0x01 : Byte), 0), (0x02, 0), (0x03, 0), (0x08, 0), (0x09, 1), (0x0A, 0), (0x19, 2),
        (0x1B, 2), (0x1C, 4), (0x21, 0), (0x22, 1), (0x24, 2), (0x28, 2), (0x30, 0), (0x32, 4), (0x34, 8), (0x35, 1),
        (0x39, 3), (0x3C, 0), (0x3D, 0), (0x3E, 0), (0x3F, 0)] →
      ∀ (t : Byte) (p : List Byte), p.length ≠ n → decodeRequest ⟨k, t, p⟩ = .error .length)
  ∧ (∀ (k : Byte) (first item : Nat), (k, first, item) ∈ [((0x10 : Byte), 0, 3), (0x12, 0, 5), (0x18, 1, 7), (0x1A, 1, 13),
        (0x20, 0, 11), (0x23, 0, 6), (0x33, 0, 2)] →
      ∀ (t : Byte) (p : List Byte), ¬ (first ≤ p.length ∧ (p.length - first) % item = 0) →
        decodeRequest ⟨k, t, p⟩ = .error .length)
  ∧ (∀ (t m : Byte) (rest : List Byte),
      decodeRequest ⟨0x38, t, []⟩ = .error .length
      ∧ (m.toNat ≤ 2 → rest ≠ [] → decodeRequest ⟨0x38, t, m :: rest⟩ = .error .length)
      ∧ (m.toNat = 3 → rest.length ≠ 3 → decodeRequest ⟨0x38, t, m :: rest⟩ = .error .length)
      ∧ (3 < m.toNat → rest.length ≠ 0 → rest.length ≠ 3 → decodeRequest ⟨0x38, t, m :: rest⟩ = .error .length)
      ∧ (3 < m.toNat → (rest.length = 0 ∨ rest.length = 3) → decodeRequest ⟨0x38, t, m :: rest⟩ = .error .range))
  ∧ (∀ (f : Frame) (s : State) (c : ResultCode), decodeRequest f = .error c → handle f s = (s, .reply c []))

/-- The bytes of a request's frame, taken one after another by a receiver in HUNT, do what the request's own command does
(R175 to R178). -/
def Obligations.FrameBytesDoTheRequest : Prop :=
  ∀ (i : Instr) (f : Frame) (s : State), i.wellFormed = true → frameOf i = some f → Free s → s.lnk.rx = .hunt →
    s.lnk.partialFrame = [] →
    ∃ t, exec i s = .next t ∧ f.wire.foldl (fun u b => takeByte b u) s = t

/-! The settings store. -/

/-- The check code of a row (R189): clean as written, any one of the 39 bits in error corrected, any two detected. -/
def Obligations.RowCodeCorrectsOneDetectsTwo : Prop :=
  ∀ d : BitVec 32,
    readRow (encodeRow d) = .clean d
    ∧ (∀ i, i < 39 → readRow (disturbRow (encodeRow d) (1#39 <<< i)) = .corrected d)
    ∧ (∀ i j, i < j → j < 39 → readRow (disturbRow (encodeRow d) ((1#39 <<< i) ||| (1#39 <<< j))) = .uncorrectable)

/-- SAVE_ROW_WRITTEN (R192, R193): a row written right is marked good and the next follows, row 511 completes the save with
STORE_SAVED; a row written wrong is marked bad, sets the latch and stops the save with STORE_FAULT; outside a save nothing
happens. -/
def Obligations.SaveWritesRowByRow : Prop :=
  ∀ (errors : BitVec 39) (s : State),
    (¬ SaveRunning s → exec (.saveRowWritten errors) s = .next s)
    ∧ (∀ n : Fin 512, s.sst.activity = .saving n →
      let d := (settingsOf s).word n.1
      (errors = 0 → ∃ t, exec (.saveRowWritten errors) s = .next t
          ∧ t.sst.rows = s.sst.rows.set n (encodeRow d) ∧ t.sst.bad = s.sst.bad.set n false
          ∧ (∀ h : n.1 + 1 < 512, t.sst.activity = .saving ⟨n.1 + 1, h⟩ ∧ t.sst.latch = s.sst.latch
              ∧ t = { s with sst := t.sst })
          ∧ (n.1 = 511 → t.sst.activity = .idle ∧ t.sst.latch = false ∧ t.sst.corrected = 0 ∧ Raised .storeSaved s t
              ∧ t = { s with sst := t.sst, ntu := t.ntu, trc := t.trc }))
      ∧ (errors ≠ 0 → ∃ t, exec (.saveRowWritten errors) s = .next t
            ∧ t.sst.rows = s.sst.rows.set n (disturbRow (encodeRow d) errors) ∧ t.sst.bad = s.sst.bad.set n true
            ∧ t.sst.activity = .idle ∧ t.sst.latch = true ∧ t.sst.corrected = s.sst.corrected
            ∧ Raised .storeFault s t ∧ t = { s with sst := t.sst, ntu := t.ntu, trc := t.trc }))

/-- A configuration whose values lie in range and that is written to the rows is the configuration a load installs, with no
row marked (R189, R190, R192). -/
def Obligations.SavedSettingsLoadBack : Prop :=
  ∀ c : Settings,
    (∀ p : ParamId, p.inRange (c.params.get p.place) = true) → (∀ n, c.levels.get n ≤ 7) →
    (∀ i, responseOfRec (recOfResponse (c.responses.get i)) = some (c.responses.get i)) →
    (∀ u, -2147483648 ≤ (c.watches.get u).threshold ∧ (c.watches.get u).threshold ≤ 2147483647) →
    loadImage (c.image.map readRow).list = (c, [])

/-! What every command keeps. -/

/-- The invariants below hold of the part as it comes out of RESET_N. -/
def Obligations.ResetMeetsInvariants : Prop :=
  State.reset.AlertTrue ∧ State.reset.ListSettled ∧ State.reset.GovernorSound ∧ State.reset.SetpointsOff
  ∧ State.reset.Limited ∧ State.reset.TrackerInRange ∧ State.reset.ParamsInRange ∧ State.reset.BuffersInRange

/-- ALERT is asserted exactly while a latched, enabled source stands at or above the floor, after every step, and every
reply carries the line as it stands when the reply is built (R156). -/
def Obligations.AlertAlwaysTrue : Prop :=
  (∀ s t : State, s.AlertTrue → step s = .next t → t.AlertTrue)
  ∧ (∀ s : State, s.alertDue = true ↔ ∃ n, (s.ntu.sources.get n).latched = true ∧ (s.ntu.sources.get n).enable = true
      ∧ s.parN .alertFloor ≤ (s.ntu.sources.get n).level)
  ∧ (∀ (f : Frame) (c : ResultCode) (payload : List Byte) (s : State), ∃ r,
      (sendReply f c payload s).lnk.reply = some r ∧ (r.condition.getLsbD 0 = true ↔ s.ntu.alert = true))

/-- After every step the firing list has taken the union of block reasons, holds no entry while blocked, and so no gate line
is ON unless the group runs with no block reason present (R77, R88, R90). -/
def Obligations.GatesOnlyWhileUnblocked : Prop :=
  ∀ s t : State, s.ListSettled → step s = .next t → t.ListSettled ∧ t.GatesSafe

/-- The governor's promises are kept by every step (R94, R101, R113, R116). -/
def Obligations.GovernorStaysSound : Prop :=
  ∀ s t : State, s.GovernorSound → step s = .next t → t.GovernorSound

/-- No target and no setpoint ever exceeds I_MAX (R56, R59, R152), and setpoints stay 0 outside RUN and STOPPING (R58). -/
def Obligations.CurrentsStayWithinIMax : Prop :=
  (∀ s t : State, s.Limited → step s = .next t → t.Limited)
  ∧ (∀ s t : State, s.SetpointsOff → step s = .next t → t.SetpointsOff)

/-- The tracker's values stay in their ranges (R19, R20, R22, R23); every parameter in force stays in its range (R182, R183,
R190); ring, history and inbox never hold more than 256, 16 and 2 (R114, R166, R177). -/
def Obligations.ValuesStayInRange : Prop :=
  (∀ s t : State, s.TrackerInRange → step s = .next t → t.TrackerInRange)
  ∧ (∀ s t : State, s.ParamsInRange → step s = .next t → t.ParamsInRange)
  ∧ (∀ s t : State, s.BuffersInRange → step s = .next t → t.BuffersInRange)
end

