-- ==== Sys2Proof/Laws/State.lean ====
section
/-!
SUPPORT. The fields of the state under each named update (one lemma per field per update, true by rfl), and reading a table
after writing it.
-/

namespace Sys2Proof.Machine

@[simp] theorem State.withMfe_mfe (s : State) (v : Mfe) : (s.withMfe v).mfe = v := rfl
@[simp] theorem State.withMfe_ffb (s : State) (v : Mfe) : (s.withMfe v).ffb = s.ffb := rfl
@[simp] theorem State.withMfe_atr (s : State) (v : Mfe) : (s.withMfe v).atr = s.atr := rfl
@[simp] theorem State.withMfe_ssq (s : State) (v : Mfe) : (s.withMfe v).ssq = s.ssq := rfl
@[simp] theorem State.withMfe_crg (s : State) (v : Mfe) : (s.withMfe v).crg = s.crg := rfl
@[simp] theorem State.withMfe_fls (s : State) (v : Mfe) : (s.withMfe v).fls = s.fls := rfl
@[simp] theorem State.withMfe_dgv (s : State) (v : Mfe) : (s.withMfe v).dgv = s.dgv := rfl
@[simp] theorem State.withMfe_rtb (s : State) (v : Mfe) : (s.withMfe v).rtb = s.rtb := rfl
@[simp] theorem State.withMfe_rct (s : State) (v : Mfe) : (s.withMfe v).rct = s.rct := rfl
@[simp] theorem State.withMfe_ntu (s : State) (v : Mfe) : (s.withMfe v).ntu = s.ntu := rfl
@[simp] theorem State.withMfe_wcu (s : State) (v : Mfe) : (s.withMfe v).wcu = s.wcu := rfl
@[simp] theorem State.withMfe_trc (s : State) (v : Mfe) : (s.withMfe v).trc = s.trc := rfl
@[simp] theorem State.withMfe_lnk (s : State) (v : Mfe) : (s.withMfe v).lnk = s.lnk := rfl
@[simp] theorem State.withMfe_sst (s : State) (v : Mfe) : (s.withMfe v).sst = s.sst := rfl
@[simp] theorem State.withMfe_params (s : State) (v : Mfe) : (s.withMfe v).params = s.params := rfl
@[simp] theorem State.withMfe_pins (s : State) (v : Mfe) : (s.withMfe v).pins = s.pins := rfl
@[simp] theorem State.withMfe_orders (s : State) (v : Mfe) : (s.withMfe v).orders = s.orders := rfl
@[simp] theorem State.withMfe_freeCount (s : State) (v : Mfe) : (s.withMfe v).freeCount = s.freeCount := rfl
@[simp] theorem State.withMfe_pending (s : State) (v : Mfe) : (s.withMfe v).pending = s.pending := rfl
@[simp] theorem State.withFfb_mfe (s : State) (v : Ffb) : (s.withFfb v).mfe = s.mfe := rfl
@[simp] theorem State.withFfb_ffb (s : State) (v : Ffb) : (s.withFfb v).ffb = v := rfl
@[simp] theorem State.withFfb_atr (s : State) (v : Ffb) : (s.withFfb v).atr = s.atr := rfl
@[simp] theorem State.withFfb_ssq (s : State) (v : Ffb) : (s.withFfb v).ssq = s.ssq := rfl
@[simp] theorem State.withFfb_crg (s : State) (v : Ffb) : (s.withFfb v).crg = s.crg := rfl
@[simp] theorem State.withFfb_fls (s : State) (v : Ffb) : (s.withFfb v).fls = s.fls := rfl
@[simp] theorem State.withFfb_dgv (s : State) (v : Ffb) : (s.withFfb v).dgv = s.dgv := rfl
@[simp] theorem State.withFfb_rtb (s : State) (v : Ffb) : (s.withFfb v).rtb = s.rtb := rfl
@[simp] theorem State.withFfb_rct (s : State) (v : Ffb) : (s.withFfb v).rct = s.rct := rfl
@[simp] theorem State.withFfb_ntu (s : State) (v : Ffb) : (s.withFfb v).ntu = s.ntu := rfl
@[simp] theorem State.withFfb_wcu (s : State) (v : Ffb) : (s.withFfb v).wcu = s.wcu := rfl
@[simp] theorem State.withFfb_trc (s : State) (v : Ffb) : (s.withFfb v).trc = s.trc := rfl
@[simp] theorem State.withFfb_lnk (s : State) (v : Ffb) : (s.withFfb v).lnk = s.lnk := rfl
@[simp] theorem State.withFfb_sst (s : State) (v : Ffb) : (s.withFfb v).sst = s.sst := rfl
@[simp] theorem State.withFfb_params (s : State) (v : Ffb) : (s.withFfb v).params = s.params := rfl
@[simp] theorem State.withFfb_pins (s : State) (v : Ffb) : (s.withFfb v).pins = s.pins := rfl
@[simp] theorem State.withFfb_orders (s : State) (v : Ffb) : (s.withFfb v).orders = s.orders := rfl
@[simp] theorem State.withFfb_freeCount (s : State) (v : Ffb) : (s.withFfb v).freeCount = s.freeCount := rfl
@[simp] theorem State.withFfb_pending (s : State) (v : Ffb) : (s.withFfb v).pending = s.pending := rfl
@[simp] theorem State.withAtr_mfe (s : State) (v : Atr) : (s.withAtr v).mfe = s.mfe := rfl
@[simp] theorem State.withAtr_ffb (s : State) (v : Atr) : (s.withAtr v).ffb = s.ffb := rfl
@[simp] theorem State.withAtr_atr (s : State) (v : Atr) : (s.withAtr v).atr = v := rfl
@[simp] theorem State.withAtr_ssq (s : State) (v : Atr) : (s.withAtr v).ssq = s.ssq := rfl
@[simp] theorem State.withAtr_crg (s : State) (v : Atr) : (s.withAtr v).crg = s.crg := rfl
@[simp] theorem State.withAtr_fls (s : State) (v : Atr) : (s.withAtr v).fls = s.fls := rfl
@[simp] theorem State.withAtr_dgv (s : State) (v : Atr) : (s.withAtr v).dgv = s.dgv := rfl
@[simp] theorem State.withAtr_rtb (s : State) (v : Atr) : (s.withAtr v).rtb = s.rtb := rfl
@[simp] theorem State.withAtr_rct (s : State) (v : Atr) : (s.withAtr v).rct = s.rct := rfl
@[simp] theorem State.withAtr_ntu (s : State) (v : Atr) : (s.withAtr v).ntu = s.ntu := rfl
@[simp] theorem State.withAtr_wcu (s : State) (v : Atr) : (s.withAtr v).wcu = s.wcu := rfl
@[simp] theorem State.withAtr_trc (s : State) (v : Atr) : (s.withAtr v).trc = s.trc := rfl
@[simp] theorem State.withAtr_lnk (s : State) (v : Atr) : (s.withAtr v).lnk = s.lnk := rfl
@[simp] theorem State.withAtr_sst (s : State) (v : Atr) : (s.withAtr v).sst = s.sst := rfl
@[simp] theorem State.withAtr_params (s : State) (v : Atr) : (s.withAtr v).params = s.params := rfl
@[simp] theorem State.withAtr_pins (s : State) (v : Atr) : (s.withAtr v).pins = s.pins := rfl
@[simp] theorem State.withAtr_orders (s : State) (v : Atr) : (s.withAtr v).orders = s.orders := rfl
@[simp] theorem State.withAtr_freeCount (s : State) (v : Atr) : (s.withAtr v).freeCount = s.freeCount := rfl
@[simp] theorem State.withAtr_pending (s : State) (v : Atr) : (s.withAtr v).pending = s.pending := rfl
@[simp] theorem State.withSsq_mfe (s : State) (v : Ssq) : (s.withSsq v).mfe = s.mfe := rfl
@[simp] theorem State.withSsq_ffb (s : State) (v : Ssq) : (s.withSsq v).ffb = s.ffb := rfl
@[simp] theorem State.withSsq_atr (s : State) (v : Ssq) : (s.withSsq v).atr = s.atr := rfl
@[simp] theorem State.withSsq_ssq (s : State) (v : Ssq) : (s.withSsq v).ssq = v := rfl
@[simp] theorem State.withSsq_crg (s : State) (v : Ssq) : (s.withSsq v).crg = s.crg := rfl
@[simp] theorem State.withSsq_fls (s : State) (v : Ssq) : (s.withSsq v).fls = s.fls := rfl
@[simp] theorem State.withSsq_dgv (s : State) (v : Ssq) : (s.withSsq v).dgv = s.dgv := rfl
@[simp] theorem State.withSsq_rtb (s : State) (v : Ssq) : (s.withSsq v).rtb = s.rtb := rfl
@[simp] theorem State.withSsq_rct (s : State) (v : Ssq) : (s.withSsq v).rct = s.rct := rfl
@[simp] theorem State.withSsq_ntu (s : State) (v : Ssq) : (s.withSsq v).ntu = s.ntu := rfl
@[simp] theorem State.withSsq_wcu (s : State) (v : Ssq) : (s.withSsq v).wcu = s.wcu := rfl
@[simp] theorem State.withSsq_trc (s : State) (v : Ssq) : (s.withSsq v).trc = s.trc := rfl
@[simp] theorem State.withSsq_lnk (s : State) (v : Ssq) : (s.withSsq v).lnk = s.lnk := rfl
@[simp] theorem State.withSsq_sst (s : State) (v : Ssq) : (s.withSsq v).sst = s.sst := rfl
@[simp] theorem State.withSsq_params (s : State) (v : Ssq) : (s.withSsq v).params = s.params := rfl
@[simp] theorem State.withSsq_pins (s : State) (v : Ssq) : (s.withSsq v).pins = s.pins := rfl
@[simp] theorem State.withSsq_orders (s : State) (v : Ssq) : (s.withSsq v).orders = s.orders := rfl
@[simp] theorem State.withSsq_freeCount (s : State) (v : Ssq) : (s.withSsq v).freeCount = s.freeCount := rfl
@[simp] theorem State.withSsq_pending (s : State) (v : Ssq) : (s.withSsq v).pending = s.pending := rfl
@[simp] theorem State.withCrg_mfe (s : State) (v : Crg) : (s.withCrg v).mfe = s.mfe := rfl
@[simp] theorem State.withCrg_ffb (s : State) (v : Crg) : (s.withCrg v).ffb = s.ffb := rfl
@[simp] theorem State.withCrg_atr (s : State) (v : Crg) : (s.withCrg v).atr = s.atr := rfl
@[simp] theorem State.withCrg_ssq (s : State) (v : Crg) : (s.withCrg v).ssq = s.ssq := rfl
@[simp] theorem State.withCrg_crg (s : State) (v : Crg) : (s.withCrg v).crg = v := rfl
@[simp] theorem State.withCrg_fls (s : State) (v : Crg) : (s.withCrg v).fls = s.fls := rfl
@[simp] theorem State.withCrg_dgv (s : State) (v : Crg) : (s.withCrg v).dgv = s.dgv := rfl
@[simp] theorem State.withCrg_rtb (s : State) (v : Crg) : (s.withCrg v).rtb = s.rtb := rfl
@[simp] theorem State.withCrg_rct (s : State) (v : Crg) : (s.withCrg v).rct = s.rct := rfl
@[simp] theorem State.withCrg_ntu (s : State) (v : Crg) : (s.withCrg v).ntu = s.ntu := rfl
@[simp] theorem State.withCrg_wcu (s : State) (v : Crg) : (s.withCrg v).wcu = s.wcu := rfl
@[simp] theorem State.withCrg_trc (s : State) (v : Crg) : (s.withCrg v).trc = s.trc := rfl
@[simp] theorem State.withCrg_lnk (s : State) (v : Crg) : (s.withCrg v).lnk = s.lnk := rfl
@[simp] theorem State.withCrg_sst (s : State) (v : Crg) : (s.withCrg v).sst = s.sst := rfl
@[simp] theorem State.withCrg_params (s : State) (v : Crg) : (s.withCrg v).params = s.params := rfl
@[simp] theorem State.withCrg_pins (s : State) (v : Crg) : (s.withCrg v).pins = s.pins := rfl
@[simp] theorem State.withCrg_orders (s : State) (v : Crg) : (s.withCrg v).orders = s.orders := rfl
@[simp] theorem State.withCrg_freeCount (s : State) (v : Crg) : (s.withCrg v).freeCount = s.freeCount := rfl
@[simp] theorem State.withCrg_pending (s : State) (v : Crg) : (s.withCrg v).pending = s.pending := rfl
@[simp] theorem State.withFls_mfe (s : State) (v : Fls) : (s.withFls v).mfe = s.mfe := rfl
@[simp] theorem State.withFls_ffb (s : State) (v : Fls) : (s.withFls v).ffb = s.ffb := rfl
@[simp] theorem State.withFls_atr (s : State) (v : Fls) : (s.withFls v).atr = s.atr := rfl
@[simp] theorem State.withFls_ssq (s : State) (v : Fls) : (s.withFls v).ssq = s.ssq := rfl
@[simp] theorem State.withFls_crg (s : State) (v : Fls) : (s.withFls v).crg = s.crg := rfl
@[simp] theorem State.withFls_fls (s : State) (v : Fls) : (s.withFls v).fls = v := rfl
@[simp] theorem State.withFls_dgv (s : State) (v : Fls) : (s.withFls v).dgv = s.dgv := rfl
@[simp] theorem State.withFls_rtb (s : State) (v : Fls) : (s.withFls v).rtb = s.rtb := rfl
@[simp] theorem State.withFls_rct (s : State) (v : Fls) : (s.withFls v).rct = s.rct := rfl
@[simp] theorem State.withFls_ntu (s : State) (v : Fls) : (s.withFls v).ntu = s.ntu := rfl
@[simp] theorem State.withFls_wcu (s : State) (v : Fls) : (s.withFls v).wcu = s.wcu := rfl
@[simp] theorem State.withFls_trc (s : State) (v : Fls) : (s.withFls v).trc = s.trc := rfl
@[simp] theorem State.withFls_lnk (s : State) (v : Fls) : (s.withFls v).lnk = s.lnk := rfl
@[simp] theorem State.withFls_sst (s : State) (v : Fls) : (s.withFls v).sst = s.sst := rfl
@[simp] theorem State.withFls_params (s : State) (v : Fls) : (s.withFls v).params = s.params := rfl
@[simp] theorem State.withFls_pins (s : State) (v : Fls) : (s.withFls v).pins = s.pins := rfl
@[simp] theorem State.withFls_orders (s : State) (v : Fls) : (s.withFls v).orders = s.orders := rfl
@[simp] theorem State.withFls_freeCount (s : State) (v : Fls) : (s.withFls v).freeCount = s.freeCount := rfl
@[simp] theorem State.withFls_pending (s : State) (v : Fls) : (s.withFls v).pending = s.pending := rfl
@[simp] theorem State.withDgv_mfe (s : State) (v : Dgv) : (s.withDgv v).mfe = s.mfe := rfl
@[simp] theorem State.withDgv_ffb (s : State) (v : Dgv) : (s.withDgv v).ffb = s.ffb := rfl
@[simp] theorem State.withDgv_atr (s : State) (v : Dgv) : (s.withDgv v).atr = s.atr := rfl
@[simp] theorem State.withDgv_ssq (s : State) (v : Dgv) : (s.withDgv v).ssq = s.ssq := rfl
@[simp] theorem State.withDgv_crg (s : State) (v : Dgv) : (s.withDgv v).crg = s.crg := rfl
@[simp] theorem State.withDgv_fls (s : State) (v : Dgv) : (s.withDgv v).fls = s.fls := rfl
@[simp] theorem State.withDgv_dgv (s : State) (v : Dgv) : (s.withDgv v).dgv = v := rfl
@[simp] theorem State.withDgv_rtb (s : State) (v : Dgv) : (s.withDgv v).rtb = s.rtb := rfl
@[simp] theorem State.withDgv_rct (s : State) (v : Dgv) : (s.withDgv v).rct = s.rct := rfl
@[simp] theorem State.withDgv_ntu (s : State) (v : Dgv) : (s.withDgv v).ntu = s.ntu := rfl
@[simp] theorem State.withDgv_wcu (s : State) (v : Dgv) : (s.withDgv v).wcu = s.wcu := rfl
@[simp] theorem State.withDgv_trc (s : State) (v : Dgv) : (s.withDgv v).trc = s.trc := rfl
@[simp] theorem State.withDgv_lnk (s : State) (v : Dgv) : (s.withDgv v).lnk = s.lnk := rfl
@[simp] theorem State.withDgv_sst (s : State) (v : Dgv) : (s.withDgv v).sst = s.sst := rfl
@[simp] theorem State.withDgv_params (s : State) (v : Dgv) : (s.withDgv v).params = s.params := rfl
@[simp] theorem State.withDgv_pins (s : State) (v : Dgv) : (s.withDgv v).pins = s.pins := rfl
@[simp] theorem State.withDgv_orders (s : State) (v : Dgv) : (s.withDgv v).orders = s.orders := rfl
@[simp] theorem State.withDgv_freeCount (s : State) (v : Dgv) : (s.withDgv v).freeCount = s.freeCount := rfl
@[simp] theorem State.withDgv_pending (s : State) (v : Dgv) : (s.withDgv v).pending = s.pending := rfl
@[simp] theorem State.withRtb_mfe (s : State) (v : Rtb) : (s.withRtb v).mfe = s.mfe := rfl
@[simp] theorem State.withRtb_ffb (s : State) (v : Rtb) : (s.withRtb v).ffb = s.ffb := rfl
@[simp] theorem State.withRtb_atr (s : State) (v : Rtb) : (s.withRtb v).atr = s.atr := rfl
@[simp] theorem State.withRtb_ssq (s : State) (v : Rtb) : (s.withRtb v).ssq = s.ssq := rfl
@[simp] theorem State.withRtb_crg (s : State) (v : Rtb) : (s.withRtb v).crg = s.crg := rfl
@[simp] theorem State.withRtb_fls (s : State) (v : Rtb) : (s.withRtb v).fls = s.fls := rfl
@[simp] theorem State.withRtb_dgv (s : State) (v : Rtb) : (s.withRtb v).dgv = s.dgv := rfl
@[simp] theorem State.withRtb_rtb (s : State) (v : Rtb) : (s.withRtb v).rtb = v := rfl
@[simp] theorem State.withRtb_rct (s : State) (v : Rtb) : (s.withRtb v).rct = s.rct := rfl
@[simp] theorem State.withRtb_ntu (s : State) (v : Rtb) : (s.withRtb v).ntu = s.ntu := rfl
@[simp] theorem State.withRtb_wcu (s : State) (v : Rtb) : (s.withRtb v).wcu = s.wcu := rfl
@[simp] theorem State.withRtb_trc (s : State) (v : Rtb) : (s.withRtb v).trc = s.trc := rfl
@[simp] theorem State.withRtb_lnk (s : State) (v : Rtb) : (s.withRtb v).lnk = s.lnk := rfl
@[simp] theorem State.withRtb_sst (s : State) (v : Rtb) : (s.withRtb v).sst = s.sst := rfl
@[simp] theorem State.withRtb_params (s : State) (v : Rtb) : (s.withRtb v).params = s.params := rfl
@[simp] theorem State.withRtb_pins (s : State) (v : Rtb) : (s.withRtb v).pins = s.pins := rfl
@[simp] theorem State.withRtb_orders (s : State) (v : Rtb) : (s.withRtb v).orders = s.orders := rfl
@[simp] theorem State.withRtb_freeCount (s : State) (v : Rtb) : (s.withRtb v).freeCount = s.freeCount := rfl
@[simp] theorem State.withRtb_pending (s : State) (v : Rtb) : (s.withRtb v).pending = s.pending := rfl
@[simp] theorem State.withRct_mfe (s : State) (v : Rct) : (s.withRct v).mfe = s.mfe := rfl
@[simp] theorem State.withRct_ffb (s : State) (v : Rct) : (s.withRct v).ffb = s.ffb := rfl
@[simp] theorem State.withRct_atr (s : State) (v : Rct) : (s.withRct v).atr = s.atr := rfl
@[simp] theorem State.withRct_ssq (s : State) (v : Rct) : (s.withRct v).ssq = s.ssq := rfl
@[simp] theorem State.withRct_crg (s : State) (v : Rct) : (s.withRct v).crg = s.crg := rfl
@[simp] theorem State.withRct_fls (s : State) (v : Rct) : (s.withRct v).fls = s.fls := rfl
@[simp] theorem State.withRct_dgv (s : State) (v : Rct) : (s.withRct v).dgv = s.dgv := rfl
@[simp] theorem State.withRct_rtb (s : State) (v : Rct) : (s.withRct v).rtb = s.rtb := rfl
@[simp] theorem State.withRct_rct (s : State) (v : Rct) : (s.withRct v).rct = v := rfl
@[simp] theorem State.withRct_ntu (s : State) (v : Rct) : (s.withRct v).ntu = s.ntu := rfl
@[simp] theorem State.withRct_wcu (s : State) (v : Rct) : (s.withRct v).wcu = s.wcu := rfl
@[simp] theorem State.withRct_trc (s : State) (v : Rct) : (s.withRct v).trc = s.trc := rfl
@[simp] theorem State.withRct_lnk (s : State) (v : Rct) : (s.withRct v).lnk = s.lnk := rfl
@[simp] theorem State.withRct_sst (s : State) (v : Rct) : (s.withRct v).sst = s.sst := rfl
@[simp] theorem State.withRct_params (s : State) (v : Rct) : (s.withRct v).params = s.params := rfl
@[simp] theorem State.withRct_pins (s : State) (v : Rct) : (s.withRct v).pins = s.pins := rfl
@[simp] theorem State.withRct_orders (s : State) (v : Rct) : (s.withRct v).orders = s.orders := rfl
@[simp] theorem State.withRct_freeCount (s : State) (v : Rct) : (s.withRct v).freeCount = s.freeCount := rfl
@[simp] theorem State.withRct_pending (s : State) (v : Rct) : (s.withRct v).pending = s.pending := rfl
@[simp] theorem State.withNtu_mfe (s : State) (v : Ntu) : (s.withNtu v).mfe = s.mfe := rfl
@[simp] theorem State.withNtu_ffb (s : State) (v : Ntu) : (s.withNtu v).ffb = s.ffb := rfl
@[simp] theorem State.withNtu_atr (s : State) (v : Ntu) : (s.withNtu v).atr = s.atr := rfl
@[simp] theorem State.withNtu_ssq (s : State) (v : Ntu) : (s.withNtu v).ssq = s.ssq := rfl
@[simp] theorem State.withNtu_crg (s : State) (v : Ntu) : (s.withNtu v).crg = s.crg := rfl
@[simp] theorem State.withNtu_fls (s : State) (v : Ntu) : (s.withNtu v).fls = s.fls := rfl
@[simp] theorem State.withNtu_dgv (s : State) (v : Ntu) : (s.withNtu v).dgv = s.dgv := rfl
@[simp] theorem State.withNtu_rtb (s : State) (v : Ntu) : (s.withNtu v).rtb = s.rtb := rfl
@[simp] theorem State.withNtu_rct (s : State) (v : Ntu) : (s.withNtu v).rct = s.rct := rfl
@[simp] theorem State.withNtu_ntu (s : State) (v : Ntu) : (s.withNtu v).ntu = v := rfl
@[simp] theorem State.withNtu_wcu (s : State) (v : Ntu) : (s.withNtu v).wcu = s.wcu := rfl
@[simp] theorem State.withNtu_trc (s : State) (v : Ntu) : (s.withNtu v).trc = s.trc := rfl
@[simp] theorem State.withNtu_lnk (s : State) (v : Ntu) : (s.withNtu v).lnk = s.lnk := rfl
@[simp] theorem State.withNtu_sst (s : State) (v : Ntu) : (s.withNtu v).sst = s.sst := rfl
@[simp] theorem State.withNtu_params (s : State) (v : Ntu) : (s.withNtu v).params = s.params := rfl
@[simp] theorem State.withNtu_pins (s : State) (v : Ntu) : (s.withNtu v).pins = s.pins := rfl
@[simp] theorem State.withNtu_orders (s : State) (v : Ntu) : (s.withNtu v).orders = s.orders := rfl
@[simp] theorem State.withNtu_freeCount (s : State) (v : Ntu) : (s.withNtu v).freeCount = s.freeCount := rfl
@[simp] theorem State.withNtu_pending (s : State) (v : Ntu) : (s.withNtu v).pending = s.pending := rfl
@[simp] theorem State.withWcu_mfe (s : State) (v : Wcu) : (s.withWcu v).mfe = s.mfe := rfl
@[simp] theorem State.withWcu_ffb (s : State) (v : Wcu) : (s.withWcu v).ffb = s.ffb := rfl
@[simp] theorem State.withWcu_atr (s : State) (v : Wcu) : (s.withWcu v).atr = s.atr := rfl
@[simp] theorem State.withWcu_ssq (s : State) (v : Wcu) : (s.withWcu v).ssq = s.ssq := rfl
@[simp] theorem State.withWcu_crg (s : State) (v : Wcu) : (s.withWcu v).crg = s.crg := rfl
@[simp] theorem State.withWcu_fls (s : State) (v : Wcu) : (s.withWcu v).fls = s.fls := rfl
@[simp] theorem State.withWcu_dgv (s : State) (v : Wcu) : (s.withWcu v).dgv = s.dgv := rfl
@[simp] theorem State.withWcu_rtb (s : State) (v : Wcu) : (s.withWcu v).rtb = s.rtb := rfl
@[simp] theorem State.withWcu_rct (s : State) (v : Wcu) : (s.withWcu v).rct = s.rct := rfl
@[simp] theorem State.withWcu_ntu (s : State) (v : Wcu) : (s.withWcu v).ntu = s.ntu := rfl
@[simp] theorem State.withWcu_wcu (s : State) (v : Wcu) : (s.withWcu v).wcu = v := rfl
@[simp] theorem State.withWcu_trc (s : State) (v : Wcu) : (s.withWcu v).trc = s.trc := rfl
@[simp] theorem State.withWcu_lnk (s : State) (v : Wcu) : (s.withWcu v).lnk = s.lnk := rfl
@[simp] theorem State.withWcu_sst (s : State) (v : Wcu) : (s.withWcu v).sst = s.sst := rfl
@[simp] theorem State.withWcu_params (s : State) (v : Wcu) : (s.withWcu v).params = s.params := rfl
@[simp] theorem State.withWcu_pins (s : State) (v : Wcu) : (s.withWcu v).pins = s.pins := rfl
@[simp] theorem State.withWcu_orders (s : State) (v : Wcu) : (s.withWcu v).orders = s.orders := rfl
@[simp] theorem State.withWcu_freeCount (s : State) (v : Wcu) : (s.withWcu v).freeCount = s.freeCount := rfl
@[simp] theorem State.withWcu_pending (s : State) (v : Wcu) : (s.withWcu v).pending = s.pending := rfl
@[simp] theorem State.withTrc_mfe (s : State) (v : Trc) : (s.withTrc v).mfe = s.mfe := rfl
@[simp] theorem State.withTrc_ffb (s : State) (v : Trc) : (s.withTrc v).ffb = s.ffb := rfl
@[simp] theorem State.withTrc_atr (s : State) (v : Trc) : (s.withTrc v).atr = s.atr := rfl
@[simp] theorem State.withTrc_ssq (s : State) (v : Trc) : (s.withTrc v).ssq = s.ssq := rfl
@[simp] theorem State.withTrc_crg (s : State) (v : Trc) : (s.withTrc v).crg = s.crg := rfl
@[simp] theorem State.withTrc_fls (s : State) (v : Trc) : (s.withTrc v).fls = s.fls := rfl
@[simp] theorem State.withTrc_dgv (s : State) (v : Trc) : (s.withTrc v).dgv = s.dgv := rfl
@[simp] theorem State.withTrc_rtb (s : State) (v : Trc) : (s.withTrc v).rtb = s.rtb := rfl
@[simp] theorem State.withTrc_rct (s : State) (v : Trc) : (s.withTrc v).rct = s.rct := rfl
@[simp] theorem State.withTrc_ntu (s : State) (v : Trc) : (s.withTrc v).ntu = s.ntu := rfl
@[simp] theorem State.withTrc_wcu (s : State) (v : Trc) : (s.withTrc v).wcu = s.wcu := rfl
@[simp] theorem State.withTrc_trc (s : State) (v : Trc) : (s.withTrc v).trc = v := rfl
@[simp] theorem State.withTrc_lnk (s : State) (v : Trc) : (s.withTrc v).lnk = s.lnk := rfl
@[simp] theorem State.withTrc_sst (s : State) (v : Trc) : (s.withTrc v).sst = s.sst := rfl
@[simp] theorem State.withTrc_params (s : State) (v : Trc) : (s.withTrc v).params = s.params := rfl
@[simp] theorem State.withTrc_pins (s : State) (v : Trc) : (s.withTrc v).pins = s.pins := rfl
@[simp] theorem State.withTrc_orders (s : State) (v : Trc) : (s.withTrc v).orders = s.orders := rfl
@[simp] theorem State.withTrc_freeCount (s : State) (v : Trc) : (s.withTrc v).freeCount = s.freeCount := rfl
@[simp] theorem State.withTrc_pending (s : State) (v : Trc) : (s.withTrc v).pending = s.pending := rfl
@[simp] theorem State.withLnk_mfe (s : State) (v : Lnk) : (s.withLnk v).mfe = s.mfe := rfl
@[simp] theorem State.withLnk_ffb (s : State) (v : Lnk) : (s.withLnk v).ffb = s.ffb := rfl
@[simp] theorem State.withLnk_atr (s : State) (v : Lnk) : (s.withLnk v).atr = s.atr := rfl
@[simp] theorem State.withLnk_ssq (s : State) (v : Lnk) : (s.withLnk v).ssq = s.ssq := rfl
@[simp] theorem State.withLnk_crg (s : State) (v : Lnk) : (s.withLnk v).crg = s.crg := rfl
@[simp] theorem State.withLnk_fls (s : State) (v : Lnk) : (s.withLnk v).fls = s.fls := rfl
@[simp] theorem State.withLnk_dgv (s : State) (v : Lnk) : (s.withLnk v).dgv = s.dgv := rfl
@[simp] theorem State.withLnk_rtb (s : State) (v : Lnk) : (s.withLnk v).rtb = s.rtb := rfl
@[simp] theorem State.withLnk_rct (s : State) (v : Lnk) : (s.withLnk v).rct = s.rct := rfl
@[simp] theorem State.withLnk_ntu (s : State) (v : Lnk) : (s.withLnk v).ntu = s.ntu := rfl
@[simp] theorem State.withLnk_wcu (s : State) (v : Lnk) : (s.withLnk v).wcu = s.wcu := rfl
@[simp] theorem State.withLnk_trc (s : State) (v : Lnk) : (s.withLnk v).trc = s.trc := rfl
@[simp] theorem State.withLnk_lnk (s : State) (v : Lnk) : (s.withLnk v).lnk = v := rfl
@[simp] theorem State.withLnk_sst (s : State) (v : Lnk) : (s.withLnk v).sst = s.sst := rfl
@[simp] theorem State.withLnk_params (s : State) (v : Lnk) : (s.withLnk v).params = s.params := rfl
@[simp] theorem State.withLnk_pins (s : State) (v : Lnk) : (s.withLnk v).pins = s.pins := rfl
@[simp] theorem State.withLnk_orders (s : State) (v : Lnk) : (s.withLnk v).orders = s.orders := rfl
@[simp] theorem State.withLnk_freeCount (s : State) (v : Lnk) : (s.withLnk v).freeCount = s.freeCount := rfl
@[simp] theorem State.withLnk_pending (s : State) (v : Lnk) : (s.withLnk v).pending = s.pending := rfl
@[simp] theorem State.withSst_mfe (s : State) (v : Sst) : (s.withSst v).mfe = s.mfe := rfl
@[simp] theorem State.withSst_ffb (s : State) (v : Sst) : (s.withSst v).ffb = s.ffb := rfl
@[simp] theorem State.withSst_atr (s : State) (v : Sst) : (s.withSst v).atr = s.atr := rfl
@[simp] theorem State.withSst_ssq (s : State) (v : Sst) : (s.withSst v).ssq = s.ssq := rfl
@[simp] theorem State.withSst_crg (s : State) (v : Sst) : (s.withSst v).crg = s.crg := rfl
@[simp] theorem State.withSst_fls (s : State) (v : Sst) : (s.withSst v).fls = s.fls := rfl
@[simp] theorem State.withSst_dgv (s : State) (v : Sst) : (s.withSst v).dgv = s.dgv := rfl
@[simp] theorem State.withSst_rtb (s : State) (v : Sst) : (s.withSst v).rtb = s.rtb := rfl
@[simp] theorem State.withSst_rct (s : State) (v : Sst) : (s.withSst v).rct = s.rct := rfl
@[simp] theorem State.withSst_ntu (s : State) (v : Sst) : (s.withSst v).ntu = s.ntu := rfl
@[simp] theorem State.withSst_wcu (s : State) (v : Sst) : (s.withSst v).wcu = s.wcu := rfl
@[simp] theorem State.withSst_trc (s : State) (v : Sst) : (s.withSst v).trc = s.trc := rfl
@[simp] theorem State.withSst_lnk (s : State) (v : Sst) : (s.withSst v).lnk = s.lnk := rfl
@[simp] theorem State.withSst_sst (s : State) (v : Sst) : (s.withSst v).sst = v := rfl
@[simp] theorem State.withSst_params (s : State) (v : Sst) : (s.withSst v).params = s.params := rfl
@[simp] theorem State.withSst_pins (s : State) (v : Sst) : (s.withSst v).pins = s.pins := rfl
@[simp] theorem State.withSst_orders (s : State) (v : Sst) : (s.withSst v).orders = s.orders := rfl
@[simp] theorem State.withSst_freeCount (s : State) (v : Sst) : (s.withSst v).freeCount = s.freeCount := rfl
@[simp] theorem State.withSst_pending (s : State) (v : Sst) : (s.withSst v).pending = s.pending := rfl
@[simp] theorem State.withParams_mfe (s : State) (v : Params) : (s.withParams v).mfe = s.mfe := rfl
@[simp] theorem State.withParams_ffb (s : State) (v : Params) : (s.withParams v).ffb = s.ffb := rfl
@[simp] theorem State.withParams_atr (s : State) (v : Params) : (s.withParams v).atr = s.atr := rfl
@[simp] theorem State.withParams_ssq (s : State) (v : Params) : (s.withParams v).ssq = s.ssq := rfl
@[simp] theorem State.withParams_crg (s : State) (v : Params) : (s.withParams v).crg = s.crg := rfl
@[simp] theorem State.withParams_fls (s : State) (v : Params) : (s.withParams v).fls = s.fls := rfl
@[simp] theorem State.withParams_dgv (s : State) (v : Params) : (s.withParams v).dgv = s.dgv := rfl
@[simp] theorem State.withParams_rtb (s : State) (v : Params) : (s.withParams v).rtb = s.rtb := rfl
@[simp] theorem State.withParams_rct (s : State) (v : Params) : (s.withParams v).rct = s.rct := rfl
@[simp] theorem State.withParams_ntu (s : State) (v : Params) : (s.withParams v).ntu = s.ntu := rfl
@[simp] theorem State.withParams_wcu (s : State) (v : Params) : (s.withParams v).wcu = s.wcu := rfl
@[simp] theorem State.withParams_trc (s : State) (v : Params) : (s.withParams v).trc = s.trc := rfl
@[simp] theorem State.withParams_lnk (s : State) (v : Params) : (s.withParams v).lnk = s.lnk := rfl
@[simp] theorem State.withParams_sst (s : State) (v : Params) : (s.withParams v).sst = s.sst := rfl
@[simp] theorem State.withParams_params (s : State) (v : Params) : (s.withParams v).params = v := rfl
@[simp] theorem State.withParams_pins (s : State) (v : Params) : (s.withParams v).pins = s.pins := rfl
@[simp] theorem State.withParams_orders (s : State) (v : Params) : (s.withParams v).orders = s.orders := rfl
@[simp] theorem State.withParams_freeCount (s : State) (v : Params) : (s.withParams v).freeCount = s.freeCount := rfl
@[simp] theorem State.withParams_pending (s : State) (v : Params) : (s.withParams v).pending = s.pending := rfl
@[simp] theorem State.withPins_mfe (s : State) (v : Pins) : (s.withPins v).mfe = s.mfe := rfl
@[simp] theorem State.withPins_ffb (s : State) (v : Pins) : (s.withPins v).ffb = s.ffb := rfl
@[simp] theorem State.withPins_atr (s : State) (v : Pins) : (s.withPins v).atr = s.atr := rfl
@[simp] theorem State.withPins_ssq (s : State) (v : Pins) : (s.withPins v).ssq = s.ssq := rfl
@[simp] theorem State.withPins_crg (s : State) (v : Pins) : (s.withPins v).crg = s.crg := rfl
@[simp] theorem State.withPins_fls (s : State) (v : Pins) : (s.withPins v).fls = s.fls := rfl
@[simp] theorem State.withPins_dgv (s : State) (v : Pins) : (s.withPins v).dgv = s.dgv := rfl
@[simp] theorem State.withPins_rtb (s : State) (v : Pins) : (s.withPins v).rtb = s.rtb := rfl
@[simp] theorem State.withPins_rct (s : State) (v : Pins) : (s.withPins v).rct = s.rct := rfl
@[simp] theorem State.withPins_ntu (s : State) (v : Pins) : (s.withPins v).ntu = s.ntu := rfl
@[simp] theorem State.withPins_wcu (s : State) (v : Pins) : (s.withPins v).wcu = s.wcu := rfl
@[simp] theorem State.withPins_trc (s : State) (v : Pins) : (s.withPins v).trc = s.trc := rfl
@[simp] theorem State.withPins_lnk (s : State) (v : Pins) : (s.withPins v).lnk = s.lnk := rfl
@[simp] theorem State.withPins_sst (s : State) (v : Pins) : (s.withPins v).sst = s.sst := rfl
@[simp] theorem State.withPins_params (s : State) (v : Pins) : (s.withPins v).params = s.params := rfl
@[simp] theorem State.withPins_pins (s : State) (v : Pins) : (s.withPins v).pins = v := rfl
@[simp] theorem State.withPins_orders (s : State) (v : Pins) : (s.withPins v).orders = s.orders := rfl
@[simp] theorem State.withPins_freeCount (s : State) (v : Pins) : (s.withPins v).freeCount = s.freeCount := rfl
@[simp] theorem State.withPins_pending (s : State) (v : Pins) : (s.withPins v).pending = s.pending := rfl
@[simp] theorem State.withOrders_mfe (s : State) (v : List UpdateOrder) : (s.withOrders v).mfe = s.mfe := rfl
@[simp] theorem State.withOrders_ffb (s : State) (v : List UpdateOrder) : (s.withOrders v).ffb = s.ffb := rfl
@[simp] theorem State.withOrders_atr (s : State) (v : List UpdateOrder) : (s.withOrders v).atr = s.atr := rfl
@[simp] theorem State.withOrders_ssq (s : State) (v : List UpdateOrder) : (s.withOrders v).ssq = s.ssq := rfl
@[simp] theorem State.withOrders_crg (s : State) (v : List UpdateOrder) : (s.withOrders v).crg = s.crg := rfl
@[simp] theorem State.withOrders_fls (s : State) (v : List UpdateOrder) : (s.withOrders v).fls = s.fls := rfl
@[simp] theorem State.withOrders_dgv (s : State) (v : List UpdateOrder) : (s.withOrders v).dgv = s.dgv := rfl
@[simp] theorem State.withOrders_rtb (s : State) (v : List UpdateOrder) : (s.withOrders v).rtb = s.rtb := rfl
@[simp] theorem State.withOrders_rct (s : State) (v : List UpdateOrder) : (s.withOrders v).rct = s.rct := rfl
@[simp] theorem State.withOrders_ntu (s : State) (v : List UpdateOrder) : (s.withOrders v).ntu = s.ntu := rfl
@[simp] theorem State.withOrders_wcu (s : State) (v : List UpdateOrder) : (s.withOrders v).wcu = s.wcu := rfl
@[simp] theorem State.withOrders_trc (s : State) (v : List UpdateOrder) : (s.withOrders v).trc = s.trc := rfl
@[simp] theorem State.withOrders_lnk (s : State) (v : List UpdateOrder) : (s.withOrders v).lnk = s.lnk := rfl
@[simp] theorem State.withOrders_sst (s : State) (v : List UpdateOrder) : (s.withOrders v).sst = s.sst := rfl
@[simp] theorem State.withOrders_params (s : State) (v : List UpdateOrder) : (s.withOrders v).params = s.params := rfl
@[simp] theorem State.withOrders_pins (s : State) (v : List UpdateOrder) : (s.withOrders v).pins = s.pins := rfl
@[simp] theorem State.withOrders_orders (s : State) (v : List UpdateOrder) : (s.withOrders v).orders = v := rfl
@[simp] theorem State.withOrders_freeCount (s : State) (v : List UpdateOrder) : (s.withOrders v).freeCount = s.freeCount := rfl
@[simp] theorem State.withOrders_pending (s : State) (v : List UpdateOrder) : (s.withOrders v).pending = s.pending := rfl
@[simp] theorem State.withFreeCount_mfe (s : State) (v : Nat) : (s.withFreeCount v).mfe = s.mfe := rfl
@[simp] theorem State.withFreeCount_ffb (s : State) (v : Nat) : (s.withFreeCount v).ffb = s.ffb := rfl
@[simp] theorem State.withFreeCount_atr (s : State) (v : Nat) : (s.withFreeCount v).atr = s.atr := rfl
@[simp] theorem State.withFreeCount_ssq (s : State) (v : Nat) : (s.withFreeCount v).ssq = s.ssq := rfl
@[simp] theorem State.withFreeCount_crg (s : State) (v : Nat) : (s.withFreeCount v).crg = s.crg := rfl
@[simp] theorem State.withFreeCount_fls (s : State) (v : Nat) : (s.withFreeCount v).fls = s.fls := rfl
@[simp] theorem State.withFreeCount_dgv (s : State) (v : Nat) : (s.withFreeCount v).dgv = s.dgv := rfl
@[simp] theorem State.withFreeCount_rtb (s : State) (v : Nat) : (s.withFreeCount v).rtb = s.rtb := rfl
@[simp] theorem State.withFreeCount_rct (s : State) (v : Nat) : (s.withFreeCount v).rct = s.rct := rfl
@[simp] theorem State.withFreeCount_ntu (s : State) (v : Nat) : (s.withFreeCount v).ntu = s.ntu := rfl
@[simp] theorem State.withFreeCount_wcu (s : State) (v : Nat) : (s.withFreeCount v).wcu = s.wcu := rfl
@[simp] theorem State.withFreeCount_trc (s : State) (v : Nat) : (s.withFreeCount v).trc = s.trc := rfl
@[simp] theorem State.withFreeCount_lnk (s : State) (v : Nat) : (s.withFreeCount v).lnk = s.lnk := rfl
@[simp] theorem State.withFreeCount_sst (s : State) (v : Nat) : (s.withFreeCount v).sst = s.sst := rfl
@[simp] theorem State.withFreeCount_params (s : State) (v : Nat) : (s.withFreeCount v).params = s.params := rfl
@[simp] theorem State.withFreeCount_pins (s : State) (v : Nat) : (s.withFreeCount v).pins = s.pins := rfl
@[simp] theorem State.withFreeCount_orders (s : State) (v : Nat) : (s.withFreeCount v).orders = s.orders := rfl
@[simp] theorem State.withFreeCount_freeCount (s : State) (v : Nat) : (s.withFreeCount v).freeCount = v := rfl
@[simp] theorem State.withFreeCount_pending (s : State) (v : Nat) : (s.withFreeCount v).pending = s.pending := rfl
@[simp] theorem State.withPending_mfe (s : State) (v : List Instr) : (s.withPending v).mfe = s.mfe := rfl
@[simp] theorem State.withPending_ffb (s : State) (v : List Instr) : (s.withPending v).ffb = s.ffb := rfl
@[simp] theorem State.withPending_atr (s : State) (v : List Instr) : (s.withPending v).atr = s.atr := rfl
@[simp] theorem State.withPending_ssq (s : State) (v : List Instr) : (s.withPending v).ssq = s.ssq := rfl
@[simp] theorem State.withPending_crg (s : State) (v : List Instr) : (s.withPending v).crg = s.crg := rfl
@[simp] theorem State.withPending_fls (s : State) (v : List Instr) : (s.withPending v).fls = s.fls := rfl
@[simp] theorem State.withPending_dgv (s : State) (v : List Instr) : (s.withPending v).dgv = s.dgv := rfl
@[simp] theorem State.withPending_rtb (s : State) (v : List Instr) : (s.withPending v).rtb = s.rtb := rfl
@[simp] theorem State.withPending_rct (s : State) (v : List Instr) : (s.withPending v).rct = s.rct := rfl
@[simp] theorem State.withPending_ntu (s : State) (v : List Instr) : (s.withPending v).ntu = s.ntu := rfl
@[simp] theorem State.withPending_wcu (s : State) (v : List Instr) : (s.withPending v).wcu = s.wcu := rfl
@[simp] theorem State.withPending_trc (s : State) (v : List Instr) : (s.withPending v).trc = s.trc := rfl
@[simp] theorem State.withPending_lnk (s : State) (v : List Instr) : (s.withPending v).lnk = s.lnk := rfl
@[simp] theorem State.withPending_sst (s : State) (v : List Instr) : (s.withPending v).sst = s.sst := rfl
@[simp] theorem State.withPending_params (s : State) (v : List Instr) : (s.withPending v).params = s.params := rfl
@[simp] theorem State.withPending_pins (s : State) (v : List Instr) : (s.withPending v).pins = s.pins := rfl
@[simp] theorem State.withPending_orders (s : State) (v : List Instr) : (s.withPending v).orders = s.orders := rfl
@[simp] theorem State.withPending_freeCount (s : State) (v : List Instr) : (s.withPending v).freeCount = s.freeCount := rfl
@[simp] theorem State.withPending_pending (s : State) (v : List Instr) : (s.withPending v).pending = v := rfl

@[simp] theorem Tab.get_set_same {α : Type} {n : Nat} (t : Tab α n) (i : Fin n) (v : α) : (t.set i v).get i = v := by
  simp [Tab.get, Tab.set]

theorem Tab.get_set_other {α : Type} {n : Nat} (t : Tab α n) (i j : Fin n) (v : α) (h : i ≠ j) :
    (t.set i v).get j = t.get j := by
  have : i.1 ≠ j.1 := fun e => h (Fin.ext e)
  simp [Tab.get, Tab.set, this]

theorem Tab.get_set {α : Type} {n : Nat} (t : Tab α n) (i j : Fin n) (v : α) :
    (t.set i v).get j = if i = j then v else t.get j := by
  split
  · next h => subst h; exact Tab.get_set_same t i v
  · next h => exact Tab.get_set_other t i j v h

@[simp] theorem Tab.get_fill {α : Type} {n : Nat} (v : α) (i : Fin n) : (Tab.fill n v).get i = v := by
  simp [Tab.get, Tab.fill]

@[simp] theorem Tab.get_map {α β : Type} {n : Nat} (t : Tab α n) (f : α → β) (i : Fin n) :
    (t.map f).get i = f (t.get i) := by
  simp [Tab.get, Tab.map]

@[simp] theorem Tab.get_ofFn {α : Type} {n : Nat} (f : Fin n → α) (i : Fin n) : (Tab.ofFn f).get i = f i := by
  simp [Tab.get, Tab.ofFn]

@[simp] theorem Tab.get_modify_same {α : Type} {n : Nat} (t : Tab α n) (i : Fin n) (f : α → α) :
    (t.modify i f).get i = f (t.get i) := by
  simp [Tab.modify]

theorem Tab.get_modify_other {α : Type} {n : Nat} (t : Tab α n) (i j : Fin n) (f : α → α) (h : i ≠ j) :
    (t.modify i f).get j = t.get j := Tab.get_set_other t i j _ h

/-- Two tables are equal when every record is. -/
theorem Tab.ext_get {α : Type} {n : Nat} {t u : Tab α n} (h : ∀ i, t.get i = u.get i) : t = u := by
  cases t with
  | mk l hl =>
    cases u with
    | mk k hk =>
      have : l = k := by
        apply List.ext_getElem (hl.trans hk.symm)
        intro i hi _
        exact h ⟨i, hl ▸ hi⟩
      subst this
      rfl

/-- The parameter at a place. -/
theorem ParamId.all_place (p : ParamId) : ParamId.all[p.place.1]? = some p := by
  cases p <;> rfl

theorem ParamId.place_injective {p q : ParamId} (h : p.place = q.place) : p = q := by
  have hp := ParamId.all_place p
  rw [h, ParamId.all_place q] at hp
  exact (Option.some.inj hp).symm

@[simp] theorem State.par_withPar_same (s : State) (p : ParamId) (v : Int) : (s.withPar p v).par p = v := by
  simp [State.par, State.withPar]

theorem State.par_withPar_other (s : State) (p q : ParamId) (v : Int) (h : p ≠ q) :
    (s.withPar p v).par q = s.par q := by
  simp only [State.par, State.withPar, State.withParams_params]
  exact Tab.get_set_other _ _ _ _ fun e => h (ParamId.place_injective e)

theorem Source.num_injective {a b : Source} (h : a.num = b.num) : a = b := by
  cases a <;> cases b <;> first | rfl | (exact absurd h (by decide))

end Sys2Proof.Machine
end

