-- ==== Sys2Proof/Laws/Notices.lean ====
section
/-!
SUPPORT. What an occurrence, a trigger and a trace record can do (R155, R166 to R168): the fields they leave, the sources
they latch, and ALERT judged after them.
-/

namespace Sys2Proof.Machine

/-- Judging ALERT changes the notice unit alone. -/
theorem judgeAlert_frame (s : State) :
    judgeAlert s = { s with ntu := (judgeAlert s).ntu } := by
  rfl

@[simp] theorem judgeAlert_mfe (s : State) : (judgeAlert s).mfe = s.mfe := by rw [judgeAlert_frame]
@[simp] theorem judgeAlert_ffb (s : State) : (judgeAlert s).ffb = s.ffb := by rw [judgeAlert_frame]
@[simp] theorem judgeAlert_atr (s : State) : (judgeAlert s).atr = s.atr := by rw [judgeAlert_frame]
@[simp] theorem judgeAlert_ssq (s : State) : (judgeAlert s).ssq = s.ssq := by rw [judgeAlert_frame]
@[simp] theorem judgeAlert_crg (s : State) : (judgeAlert s).crg = s.crg := by rw [judgeAlert_frame]
@[simp] theorem judgeAlert_fls (s : State) : (judgeAlert s).fls = s.fls := by rw [judgeAlert_frame]
@[simp] theorem judgeAlert_dgv (s : State) : (judgeAlert s).dgv = s.dgv := by rw [judgeAlert_frame]
@[simp] theorem judgeAlert_rtb (s : State) : (judgeAlert s).rtb = s.rtb := by rw [judgeAlert_frame]
@[simp] theorem judgeAlert_rct (s : State) : (judgeAlert s).rct = s.rct := by rw [judgeAlert_frame]
@[simp] theorem judgeAlert_wcu (s : State) : (judgeAlert s).wcu = s.wcu := by rw [judgeAlert_frame]
@[simp] theorem judgeAlert_trc (s : State) : (judgeAlert s).trc = s.trc := by rw [judgeAlert_frame]
@[simp] theorem judgeAlert_lnk (s : State) : (judgeAlert s).lnk = s.lnk := by rw [judgeAlert_frame]
@[simp] theorem judgeAlert_sst (s : State) : (judgeAlert s).sst = s.sst := by rw [judgeAlert_frame]
@[simp] theorem judgeAlert_params (s : State) : (judgeAlert s).params = s.params := by rw [judgeAlert_frame]
@[simp] theorem judgeAlert_pins (s : State) : (judgeAlert s).pins = s.pins := by rw [judgeAlert_frame]
@[simp] theorem judgeAlert_orders (s : State) : (judgeAlert s).orders = s.orders := by rw [judgeAlert_frame]
@[simp] theorem judgeAlert_freeCount (s : State) : (judgeAlert s).freeCount = s.freeCount := by rw [judgeAlert_frame]
@[simp] theorem judgeAlert_pending (s : State) : (judgeAlert s).pending = s.pending := by rw [judgeAlert_frame]

/-- A latch changes the notice unit alone. -/
theorem latch_frame (src : Source) (s : State) :
    latch src s = { s with ntu := (latch src s).ntu } := by
  rfl

@[simp] theorem latch_mfe (src : Source) (s : State) : (latch src s).mfe = s.mfe := by rw [latch_frame]
@[simp] theorem latch_ffb (src : Source) (s : State) : (latch src s).ffb = s.ffb := by rw [latch_frame]
@[simp] theorem latch_atr (src : Source) (s : State) : (latch src s).atr = s.atr := by rw [latch_frame]
@[simp] theorem latch_ssq (src : Source) (s : State) : (latch src s).ssq = s.ssq := by rw [latch_frame]
@[simp] theorem latch_crg (src : Source) (s : State) : (latch src s).crg = s.crg := by rw [latch_frame]
@[simp] theorem latch_fls (src : Source) (s : State) : (latch src s).fls = s.fls := by rw [latch_frame]
@[simp] theorem latch_dgv (src : Source) (s : State) : (latch src s).dgv = s.dgv := by rw [latch_frame]
@[simp] theorem latch_rtb (src : Source) (s : State) : (latch src s).rtb = s.rtb := by rw [latch_frame]
@[simp] theorem latch_rct (src : Source) (s : State) : (latch src s).rct = s.rct := by rw [latch_frame]
@[simp] theorem latch_wcu (src : Source) (s : State) : (latch src s).wcu = s.wcu := by rw [latch_frame]
@[simp] theorem latch_trc (src : Source) (s : State) : (latch src s).trc = s.trc := by rw [latch_frame]
@[simp] theorem latch_lnk (src : Source) (s : State) : (latch src s).lnk = s.lnk := by rw [latch_frame]
@[simp] theorem latch_sst (src : Source) (s : State) : (latch src s).sst = s.sst := by rw [latch_frame]
@[simp] theorem latch_params (src : Source) (s : State) : (latch src s).params = s.params := by rw [latch_frame]
@[simp] theorem latch_pins (src : Source) (s : State) : (latch src s).pins = s.pins := by rw [latch_frame]
@[simp] theorem latch_orders (src : Source) (s : State) : (latch src s).orders = s.orders := by rw [latch_frame]
@[simp] theorem latch_freeCount (src : Source) (s : State) : (latch src s).freeCount = s.freeCount := by rw [latch_frame]
@[simp] theorem latch_pending (src : Source) (s : State) : (latch src s).pending = s.pending := by rw [latch_frame]

/-- Judging the freeze changes the notice unit and the trace recorder alone. -/
theorem judgeFreeze_frame (s : State) :
    judgeFreeze s = { s with ntu := (judgeFreeze s).ntu, trc := (judgeFreeze s).trc } := by
  unfold judgeFreeze; split <;> rfl

@[simp] theorem judgeFreeze_mfe (s : State) : (judgeFreeze s).mfe = s.mfe := by rw [judgeFreeze_frame]
@[simp] theorem judgeFreeze_ffb (s : State) : (judgeFreeze s).ffb = s.ffb := by rw [judgeFreeze_frame]
@[simp] theorem judgeFreeze_atr (s : State) : (judgeFreeze s).atr = s.atr := by rw [judgeFreeze_frame]
@[simp] theorem judgeFreeze_ssq (s : State) : (judgeFreeze s).ssq = s.ssq := by rw [judgeFreeze_frame]
@[simp] theorem judgeFreeze_crg (s : State) : (judgeFreeze s).crg = s.crg := by rw [judgeFreeze_frame]
@[simp] theorem judgeFreeze_fls (s : State) : (judgeFreeze s).fls = s.fls := by rw [judgeFreeze_frame]
@[simp] theorem judgeFreeze_dgv (s : State) : (judgeFreeze s).dgv = s.dgv := by rw [judgeFreeze_frame]
@[simp] theorem judgeFreeze_rtb (s : State) : (judgeFreeze s).rtb = s.rtb := by rw [judgeFreeze_frame]
@[simp] theorem judgeFreeze_rct (s : State) : (judgeFreeze s).rct = s.rct := by rw [judgeFreeze_frame]
@[simp] theorem judgeFreeze_wcu (s : State) : (judgeFreeze s).wcu = s.wcu := by rw [judgeFreeze_frame]
@[simp] theorem judgeFreeze_lnk (s : State) : (judgeFreeze s).lnk = s.lnk := by rw [judgeFreeze_frame]
@[simp] theorem judgeFreeze_sst (s : State) : (judgeFreeze s).sst = s.sst := by rw [judgeFreeze_frame]
@[simp] theorem judgeFreeze_params (s : State) : (judgeFreeze s).params = s.params := by rw [judgeFreeze_frame]
@[simp] theorem judgeFreeze_pins (s : State) : (judgeFreeze s).pins = s.pins := by rw [judgeFreeze_frame]
@[simp] theorem judgeFreeze_orders (s : State) : (judgeFreeze s).orders = s.orders := by rw [judgeFreeze_frame]
@[simp] theorem judgeFreeze_freeCount (s : State) : (judgeFreeze s).freeCount = s.freeCount := by rw [judgeFreeze_frame]
@[simp] theorem judgeFreeze_pending (s : State) : (judgeFreeze s).pending = s.pending := by rw [judgeFreeze_frame]

/-- A trigger changes the notice unit and the trace recorder alone. -/
theorem takeTrigger_frame (c : TriggerCause) (s : State) :
    takeTrigger c s = { s with ntu := (takeTrigger c s).ntu, trc := (takeTrigger c s).trc } := by
  unfold takeTrigger; split
  · rw [judgeFreeze_frame]; rfl
  · rfl

@[simp] theorem takeTrigger_mfe (c : TriggerCause) (s : State) : (takeTrigger c s).mfe = s.mfe := by rw [takeTrigger_frame]
@[simp] theorem takeTrigger_ffb (c : TriggerCause) (s : State) : (takeTrigger c s).ffb = s.ffb := by rw [takeTrigger_frame]
@[simp] theorem takeTrigger_atr (c : TriggerCause) (s : State) : (takeTrigger c s).atr = s.atr := by rw [takeTrigger_frame]
@[simp] theorem takeTrigger_ssq (c : TriggerCause) (s : State) : (takeTrigger c s).ssq = s.ssq := by rw [takeTrigger_frame]
@[simp] theorem takeTrigger_crg (c : TriggerCause) (s : State) : (takeTrigger c s).crg = s.crg := by rw [takeTrigger_frame]
@[simp] theorem takeTrigger_fls (c : TriggerCause) (s : State) : (takeTrigger c s).fls = s.fls := by rw [takeTrigger_frame]
@[simp] theorem takeTrigger_dgv (c : TriggerCause) (s : State) : (takeTrigger c s).dgv = s.dgv := by rw [takeTrigger_frame]
@[simp] theorem takeTrigger_rtb (c : TriggerCause) (s : State) : (takeTrigger c s).rtb = s.rtb := by rw [takeTrigger_frame]
@[simp] theorem takeTrigger_rct (c : TriggerCause) (s : State) : (takeTrigger c s).rct = s.rct := by rw [takeTrigger_frame]
@[simp] theorem takeTrigger_wcu (c : TriggerCause) (s : State) : (takeTrigger c s).wcu = s.wcu := by rw [takeTrigger_frame]
@[simp] theorem takeTrigger_lnk (c : TriggerCause) (s : State) : (takeTrigger c s).lnk = s.lnk := by rw [takeTrigger_frame]
@[simp] theorem takeTrigger_sst (c : TriggerCause) (s : State) : (takeTrigger c s).sst = s.sst := by rw [takeTrigger_frame]
@[simp] theorem takeTrigger_params (c : TriggerCause) (s : State) : (takeTrigger c s).params = s.params := by rw [takeTrigger_frame]
@[simp] theorem takeTrigger_pins (c : TriggerCause) (s : State) : (takeTrigger c s).pins = s.pins := by rw [takeTrigger_frame]
@[simp] theorem takeTrigger_orders (c : TriggerCause) (s : State) : (takeTrigger c s).orders = s.orders := by rw [takeTrigger_frame]
@[simp] theorem takeTrigger_freeCount (c : TriggerCause) (s : State) : (takeTrigger c s).freeCount = s.freeCount := by rw [takeTrigger_frame]
@[simp] theorem takeTrigger_pending (c : TriggerCause) (s : State) : (takeTrigger c s).pending = s.pending := by rw [takeTrigger_frame]

/-- An occurrence changes the notice unit and the trace recorder alone. -/
theorem occur_frame (src : Source) (s : State) :
    occur src s = { s with ntu := (occur src s).ntu, trc := (occur src s).trc } := by
  unfold occur; dsimp only; split
  · rw [takeTrigger_frame]; rfl
  · rfl

@[simp] theorem occur_mfe (src : Source) (s : State) : (occur src s).mfe = s.mfe := by rw [occur_frame]
@[simp] theorem occur_ffb (src : Source) (s : State) : (occur src s).ffb = s.ffb := by rw [occur_frame]
@[simp] theorem occur_atr (src : Source) (s : State) : (occur src s).atr = s.atr := by rw [occur_frame]
@[simp] theorem occur_ssq (src : Source) (s : State) : (occur src s).ssq = s.ssq := by rw [occur_frame]
@[simp] theorem occur_crg (src : Source) (s : State) : (occur src s).crg = s.crg := by rw [occur_frame]
@[simp] theorem occur_fls (src : Source) (s : State) : (occur src s).fls = s.fls := by rw [occur_frame]
@[simp] theorem occur_dgv (src : Source) (s : State) : (occur src s).dgv = s.dgv := by rw [occur_frame]
@[simp] theorem occur_rtb (src : Source) (s : State) : (occur src s).rtb = s.rtb := by rw [occur_frame]
@[simp] theorem occur_rct (src : Source) (s : State) : (occur src s).rct = s.rct := by rw [occur_frame]
@[simp] theorem occur_wcu (src : Source) (s : State) : (occur src s).wcu = s.wcu := by rw [occur_frame]
@[simp] theorem occur_lnk (src : Source) (s : State) : (occur src s).lnk = s.lnk := by rw [occur_frame]
@[simp] theorem occur_sst (src : Source) (s : State) : (occur src s).sst = s.sst := by rw [occur_frame]
@[simp] theorem occur_params (src : Source) (s : State) : (occur src s).params = s.params := by rw [occur_frame]
@[simp] theorem occur_pins (src : Source) (s : State) : (occur src s).pins = s.pins := by rw [occur_frame]
@[simp] theorem occur_orders (src : Source) (s : State) : (occur src s).orders = s.orders := by rw [occur_frame]
@[simp] theorem occur_freeCount (src : Source) (s : State) : (occur src s).freeCount = s.freeCount := by rw [occur_frame]
@[simp] theorem occur_pending (src : Source) (s : State) : (occur src s).pending = s.pending := by rw [occur_frame]

/-- An occurrence, if there is one, changes the notice unit and the trace recorder alone. -/
theorem occurIf_frame (src? : Option Source) (s : State) :
    occurIf src? s = { s with ntu := (occurIf src? s).ntu, trc := (occurIf src? s).trc } := by
  cases src? with
  | none => rfl
  | some src => exact occur_frame src s

@[simp] theorem occurIf_mfe (src? : Option Source) (s : State) : (occurIf src? s).mfe = s.mfe := by rw [occurIf_frame]
@[simp] theorem occurIf_ffb (src? : Option Source) (s : State) : (occurIf src? s).ffb = s.ffb := by rw [occurIf_frame]
@[simp] theorem occurIf_atr (src? : Option Source) (s : State) : (occurIf src? s).atr = s.atr := by rw [occurIf_frame]
@[simp] theorem occurIf_ssq (src? : Option Source) (s : State) : (occurIf src? s).ssq = s.ssq := by rw [occurIf_frame]
@[simp] theorem occurIf_crg (src? : Option Source) (s : State) : (occurIf src? s).crg = s.crg := by rw [occurIf_frame]
@[simp] theorem occurIf_fls (src? : Option Source) (s : State) : (occurIf src? s).fls = s.fls := by rw [occurIf_frame]
@[simp] theorem occurIf_dgv (src? : Option Source) (s : State) : (occurIf src? s).dgv = s.dgv := by rw [occurIf_frame]
@[simp] theorem occurIf_rtb (src? : Option Source) (s : State) : (occurIf src? s).rtb = s.rtb := by rw [occurIf_frame]
@[simp] theorem occurIf_rct (src? : Option Source) (s : State) : (occurIf src? s).rct = s.rct := by rw [occurIf_frame]
@[simp] theorem occurIf_wcu (src? : Option Source) (s : State) : (occurIf src? s).wcu = s.wcu := by rw [occurIf_frame]
@[simp] theorem occurIf_lnk (src? : Option Source) (s : State) : (occurIf src? s).lnk = s.lnk := by rw [occurIf_frame]
@[simp] theorem occurIf_sst (src? : Option Source) (s : State) : (occurIf src? s).sst = s.sst := by rw [occurIf_frame]
@[simp] theorem occurIf_params (src? : Option Source) (s : State) : (occurIf src? s).params = s.params := by rw [occurIf_frame]
@[simp] theorem occurIf_pins (src? : Option Source) (s : State) : (occurIf src? s).pins = s.pins := by rw [occurIf_frame]
@[simp] theorem occurIf_orders (src? : Option Source) (s : State) : (occurIf src? s).orders = s.orders := by rw [occurIf_frame]
@[simp] theorem occurIf_freeCount (src? : Option Source) (s : State) : (occurIf src? s).freeCount = s.freeCount := by rw [occurIf_frame]
@[simp] theorem occurIf_pending (src? : Option Source) (s : State) : (occurIf src? s).pending = s.pending := by rw [occurIf_frame]

/-- Occurrences change the notice unit and the trace recorder alone. -/
theorem occurTimes_frame (n : Nat) (src : Source) (s : State) :
    occurTimes n src s = { s with ntu := (occurTimes n src s).ntu, trc := (occurTimes n src s).trc } := by
  induction n generalizing s with
  | zero => rfl
  | succ n ih => rw [occurTimes, ih (occur src s)]; rw [occur_frame]

@[simp] theorem occurTimes_mfe (n : Nat) (src : Source) (s : State) : (occurTimes n src s).mfe = s.mfe := by rw [occurTimes_frame]
@[simp] theorem occurTimes_ffb (n : Nat) (src : Source) (s : State) : (occurTimes n src s).ffb = s.ffb := by rw [occurTimes_frame]
@[simp] theorem occurTimes_atr (n : Nat) (src : Source) (s : State) : (occurTimes n src s).atr = s.atr := by rw [occurTimes_frame]
@[simp] theorem occurTimes_ssq (n : Nat) (src : Source) (s : State) : (occurTimes n src s).ssq = s.ssq := by rw [occurTimes_frame]
@[simp] theorem occurTimes_crg (n : Nat) (src : Source) (s : State) : (occurTimes n src s).crg = s.crg := by rw [occurTimes_frame]
@[simp] theorem occurTimes_fls (n : Nat) (src : Source) (s : State) : (occurTimes n src s).fls = s.fls := by rw [occurTimes_frame]
@[simp] theorem occurTimes_dgv (n : Nat) (src : Source) (s : State) : (occurTimes n src s).dgv = s.dgv := by rw [occurTimes_frame]
@[simp] theorem occurTimes_rtb (n : Nat) (src : Source) (s : State) : (occurTimes n src s).rtb = s.rtb := by rw [occurTimes_frame]
@[simp] theorem occurTimes_rct (n : Nat) (src : Source) (s : State) : (occurTimes n src s).rct = s.rct := by rw [occurTimes_frame]
@[simp] theorem occurTimes_wcu (n : Nat) (src : Source) (s : State) : (occurTimes n src s).wcu = s.wcu := by rw [occurTimes_frame]
@[simp] theorem occurTimes_lnk (n : Nat) (src : Source) (s : State) : (occurTimes n src s).lnk = s.lnk := by rw [occurTimes_frame]
@[simp] theorem occurTimes_sst (n : Nat) (src : Source) (s : State) : (occurTimes n src s).sst = s.sst := by rw [occurTimes_frame]
@[simp] theorem occurTimes_params (n : Nat) (src : Source) (s : State) : (occurTimes n src s).params = s.params := by rw [occurTimes_frame]
@[simp] theorem occurTimes_pins (n : Nat) (src : Source) (s : State) : (occurTimes n src s).pins = s.pins := by rw [occurTimes_frame]
@[simp] theorem occurTimes_orders (n : Nat) (src : Source) (s : State) : (occurTimes n src s).orders = s.orders := by rw [occurTimes_frame]
@[simp] theorem occurTimes_freeCount (n : Nat) (src : Source) (s : State) : (occurTimes n src s).freeCount = s.freeCount := by rw [occurTimes_frame]
@[simp] theorem occurTimes_pending (n : Nat) (src : Source) (s : State) : (occurTimes n src s).pending = s.pending := by rw [occurTimes_frame]

/-- A trace record changes the notice unit and the trace recorder alone. -/
theorem appendTrace_frame (r : TraceRecord) (s : State) :
    appendTrace r s = { s with ntu := (appendTrace r s).ntu, trc := (appendTrace r s).trc } := by
  unfold appendTrace; split
  · rfl
  · rw [judgeFreeze_frame]; rfl
  · rfl

@[simp] theorem appendTrace_mfe (r : TraceRecord) (s : State) : (appendTrace r s).mfe = s.mfe := by rw [appendTrace_frame]
@[simp] theorem appendTrace_ffb (r : TraceRecord) (s : State) : (appendTrace r s).ffb = s.ffb := by rw [appendTrace_frame]
@[simp] theorem appendTrace_atr (r : TraceRecord) (s : State) : (appendTrace r s).atr = s.atr := by rw [appendTrace_frame]
@[simp] theorem appendTrace_ssq (r : TraceRecord) (s : State) : (appendTrace r s).ssq = s.ssq := by rw [appendTrace_frame]
@[simp] theorem appendTrace_crg (r : TraceRecord) (s : State) : (appendTrace r s).crg = s.crg := by rw [appendTrace_frame]
@[simp] theorem appendTrace_fls (r : TraceRecord) (s : State) : (appendTrace r s).fls = s.fls := by rw [appendTrace_frame]
@[simp] theorem appendTrace_dgv (r : TraceRecord) (s : State) : (appendTrace r s).dgv = s.dgv := by rw [appendTrace_frame]
@[simp] theorem appendTrace_rtb (r : TraceRecord) (s : State) : (appendTrace r s).rtb = s.rtb := by rw [appendTrace_frame]
@[simp] theorem appendTrace_rct (r : TraceRecord) (s : State) : (appendTrace r s).rct = s.rct := by rw [appendTrace_frame]
@[simp] theorem appendTrace_wcu (r : TraceRecord) (s : State) : (appendTrace r s).wcu = s.wcu := by rw [appendTrace_frame]
@[simp] theorem appendTrace_lnk (r : TraceRecord) (s : State) : (appendTrace r s).lnk = s.lnk := by rw [appendTrace_frame]
@[simp] theorem appendTrace_sst (r : TraceRecord) (s : State) : (appendTrace r s).sst = s.sst := by rw [appendTrace_frame]
@[simp] theorem appendTrace_params (r : TraceRecord) (s : State) : (appendTrace r s).params = s.params := by rw [appendTrace_frame]
@[simp] theorem appendTrace_pins (r : TraceRecord) (s : State) : (appendTrace r s).pins = s.pins := by rw [appendTrace_frame]
@[simp] theorem appendTrace_orders (r : TraceRecord) (s : State) : (appendTrace r s).orders = s.orders := by rw [appendTrace_frame]
@[simp] theorem appendTrace_freeCount (r : TraceRecord) (s : State) : (appendTrace r s).freeCount = s.freeCount := by rw [appendTrace_frame]
@[simp] theorem appendTrace_pending (r : TraceRecord) (s : State) : (appendTrace r s).pending = s.pending := by rw [appendTrace_frame]

/-! Sources and ALERT. -/

@[simp] theorem judgeAlert_sources (s : State) : (judgeAlert s).ntu.sources = s.ntu.sources := rfl

theorem judgeAlert_alert (s : State) : (judgeAlert s).ntu.alert = (judgeAlert s).alertDue := rfl

@[simp] theorem latch_sources (src : Source) (s : State) :
    (latch src s).ntu.sources = s.ntu.sources.modify src.num (Notice.occur s.mfe.count) := rfl

theorem latch_alert (src : Source) (s : State) : (latch src s).ntu.alert = (latch src s).alertDue := rfl

/-- The freeze latches TRACE_FROZEN at most. -/
theorem judgeFreeze_source (s : State) (n : Fin 24) (h : n ≠ Source.traceFrozen.num) :
    (judgeFreeze s).ntu.sources.get n = s.ntu.sources.get n := by
  unfold judgeFreeze
  split
  · exact Tab.get_modify_other _ _ _ _ (Ne.symm h)
  · rfl

/-- The freeze keeps ALERT judged. -/
theorem judgeFreeze_alert (s : State) (h : s.ntu.alert = s.alertDue) :
    (judgeFreeze s).ntu.alert = (judgeFreeze s).alertDue := by
  unfold judgeFreeze
  split
  · rfl
  · exact h

/-- A trigger latches TRACE_FROZEN at most. -/
theorem takeTrigger_source (c : TriggerCause) (s : State) (n : Fin 24) (h : n ≠ Source.traceFrozen.num) :
    (takeTrigger c s).ntu.sources.get n = s.ntu.sources.get n := by
  unfold takeTrigger
  split
  · exact judgeFreeze_source _ n h
  · rfl

theorem takeTrigger_alert (c : TriggerCause) (s : State) (h : s.ntu.alert = s.alertDue) :
    (takeTrigger c s).ntu.alert = (takeTrigger c s).alertDue := by
  unfold takeTrigger
  split
  · exact judgeFreeze_alert _ h
  · exact h

/-- An occurrence leaves every source but its own and TRACE_FROZEN. -/
theorem occur_source_other (src : Source) (s : State) (n : Fin 24) (h : n ≠ src.num)
    (hf : n ≠ Source.traceFrozen.num) : (occur src s).ntu.sources.get n = s.ntu.sources.get n := by
  have hl : (latch src s).ntu.sources.get n = s.ntu.sources.get n := Tab.get_modify_other _ _ _ _ (Ne.symm h)
  unfold occur
  dsimp only
  split
  · rw [takeTrigger_source _ _ n hf, hl]
  · exact hl

/-- An occurrence latches, counts and stamps its own source (R155). -/
theorem occur_source_same (src : Source) (s : State) (hf : src ≠ .traceFrozen) :
    (occur src s).ntu.sources.get src.num = (s.ntu.sources.get src.num).occur s.mfe.count := by
  have hl : (latch src s).ntu.sources.get src.num = (s.ntu.sources.get src.num).occur s.mfe.count :=
    Tab.get_modify_same _ _ _
  unfold occur
  dsimp only
  split
  · rw [takeTrigger_source _ _ _ (fun e => hf (Source.num_injective e)), hl]
  · exact hl

/-- ALERT is judged after every occurrence (R156). -/
theorem occur_alert (src : Source) (s : State) : (occur src s).ntu.alert = (occur src s).alertDue := by
  unfold occur
  dsimp only
  split
  · exact takeTrigger_alert _ _ rfl
  · rfl

theorem occurTimes_alert (n : Nat) (src : Source) (s : State) (h : s.ntu.alert = s.alertDue) :
    (occurTimes n src s).ntu.alert = (occurTimes n src s).alertDue := by
  induction n generalizing s with
  | zero => exact h
  | succ n ih => exact ih _ (occur_alert src s)

theorem occurIf_alert (src? : Option Source) (s : State) (h : s.ntu.alert = s.alertDue) :
    (occurIf src? s).ntu.alert = (occurIf src? s).alertDue := by
  cases src? with
  | none => exact h
  | some src => exact occur_alert src s

/-- A trace record latches TRACE_FROZEN at most. -/
theorem appendTrace_source (r : TraceRecord) (s : State) (n : Fin 24) (h : n ≠ Source.traceFrozen.num) :
    (appendTrace r s).ntu.sources.get n = s.ntu.sources.get n := by
  unfold appendTrace
  split
  · rfl
  · exact judgeFreeze_source _ n h
  · rfl

theorem appendTrace_alert (r : TraceRecord) (s : State) (h : s.ntu.alert = s.alertDue) :
    (appendTrace r s).ntu.alert = (appendTrace r s).alertDue := by
  unfold appendTrace
  split
  · exact h
  · exact judgeFreeze_alert _ h
  · exact h

/-! The ring (R166). -/

theorem pushRing_length (ring : List TraceRecord) (r : TraceRecord) (h : ring.length ≤ 256) :
    (pushRing ring r).length ≤ 256 := by
  unfold pushRing Config.ringSize
  split <;> simp <;> omega

theorem pushRing_last (ring : List TraceRecord) (r : TraceRecord) : (pushRing ring r).getLast? = some r := by
  simp [pushRing]

@[simp] theorem judgeFreeze_ring (s : State) : (judgeFreeze s).trc.ring = s.trc.ring := by
  unfold judgeFreeze; split <;> rfl

@[simp] theorem takeTrigger_ring (c : TriggerCause) (s : State) : (takeTrigger c s).trc.ring = s.trc.ring := by
  unfold takeTrigger
  split
  · simp
  · rfl

@[simp] theorem occur_ring (src : Source) (s : State) : (occur src s).trc.ring = s.trc.ring := by
  unfold occur
  dsimp only
  split
  · simp [latch_trc]
  · rfl

@[simp] theorem judgeFreeze_mask (s : State) : (judgeFreeze s).trc.mask = s.trc.mask := by
  unfold judgeFreeze; split <;> rfl

@[simp] theorem takeTrigger_mask (c : TriggerCause) (s : State) : (takeTrigger c s).trc.mask = s.trc.mask := by
  unfold takeTrigger
  split
  · simp
  · rfl

@[simp] theorem occur_mask (src : Source) (s : State) : (occur src s).trc.mask = s.trc.mask := by
  unfold occur
  dsimp only
  split
  · simp [latch_trc]
  · rfl

end Sys2Proof.Machine
end

