-- ==== Sys2Proof/Laws/Firing.lean ====
section
/-!
SUPPORT. What a retirement, a close and the other operations over the firing list can do (R83 to R92): the fields they leave
and the list they leave.
-/

namespace Sys2Proof.Machine

/-- A retirement changes the list's block, the notice unit and the trace recorder alone. -/
theorem retireHead_frame (s : State) :
    (retireHead s).1 = { s with fls := ((retireHead s).1).fls, ntu := ((retireHead s).1).ntu, trc := ((retireHead s).1).trc } := by
  unfold retireHead; split
  · rfl
  · dsimp only; split
    · dsimp only; rw [occur_frame, appendTrace_frame]; rfl
    · dsimp only; rw [appendTrace_frame]; rfl

@[simp] theorem retireHead_mfe (s : State) : ((retireHead s).1).mfe = s.mfe := by rw [retireHead_frame]
@[simp] theorem retireHead_ffb (s : State) : ((retireHead s).1).ffb = s.ffb := by rw [retireHead_frame]
@[simp] theorem retireHead_atr (s : State) : ((retireHead s).1).atr = s.atr := by rw [retireHead_frame]
@[simp] theorem retireHead_ssq (s : State) : ((retireHead s).1).ssq = s.ssq := by rw [retireHead_frame]
@[simp] theorem retireHead_crg (s : State) : ((retireHead s).1).crg = s.crg := by rw [retireHead_frame]
@[simp] theorem retireHead_dgv (s : State) : ((retireHead s).1).dgv = s.dgv := by rw [retireHead_frame]
@[simp] theorem retireHead_rtb (s : State) : ((retireHead s).1).rtb = s.rtb := by rw [retireHead_frame]
@[simp] theorem retireHead_rct (s : State) : ((retireHead s).1).rct = s.rct := by rw [retireHead_frame]
@[simp] theorem retireHead_wcu (s : State) : ((retireHead s).1).wcu = s.wcu := by rw [retireHead_frame]
@[simp] theorem retireHead_lnk (s : State) : ((retireHead s).1).lnk = s.lnk := by rw [retireHead_frame]
@[simp] theorem retireHead_sst (s : State) : ((retireHead s).1).sst = s.sst := by rw [retireHead_frame]
@[simp] theorem retireHead_params (s : State) : ((retireHead s).1).params = s.params := by rw [retireHead_frame]
@[simp] theorem retireHead_pins (s : State) : ((retireHead s).1).pins = s.pins := by rw [retireHead_frame]
@[simp] theorem retireHead_orders (s : State) : ((retireHead s).1).orders = s.orders := by rw [retireHead_frame]
@[simp] theorem retireHead_freeCount (s : State) : ((retireHead s).1).freeCount = s.freeCount := by rw [retireHead_frame]
@[simp] theorem retireHead_pending (s : State) : ((retireHead s).1).pending = s.pending := by rw [retireHead_frame]

/-- Retirements change the list's block, the notice unit and the trace recorder alone. -/
theorem retireAll_frame (n : Nat) (s : State) :
    (retireAll n s).1 = { s with fls := ((retireAll n s).1).fls, ntu := ((retireAll n s).1).ntu, trc := ((retireAll n s).1).trc } := by
  induction n generalizing s with
  | zero => rfl
  | succ n ih => simp only [retireAll]; rw [ih]; rw [retireHead_frame]

@[simp] theorem retireAll_mfe (n : Nat) (s : State) : ((retireAll n s).1).mfe = s.mfe := by rw [retireAll_frame]
@[simp] theorem retireAll_ffb (n : Nat) (s : State) : ((retireAll n s).1).ffb = s.ffb := by rw [retireAll_frame]
@[simp] theorem retireAll_atr (n : Nat) (s : State) : ((retireAll n s).1).atr = s.atr := by rw [retireAll_frame]
@[simp] theorem retireAll_ssq (n : Nat) (s : State) : ((retireAll n s).1).ssq = s.ssq := by rw [retireAll_frame]
@[simp] theorem retireAll_crg (n : Nat) (s : State) : ((retireAll n s).1).crg = s.crg := by rw [retireAll_frame]
@[simp] theorem retireAll_dgv (n : Nat) (s : State) : ((retireAll n s).1).dgv = s.dgv := by rw [retireAll_frame]
@[simp] theorem retireAll_rtb (n : Nat) (s : State) : ((retireAll n s).1).rtb = s.rtb := by rw [retireAll_frame]
@[simp] theorem retireAll_rct (n : Nat) (s : State) : ((retireAll n s).1).rct = s.rct := by rw [retireAll_frame]
@[simp] theorem retireAll_wcu (n : Nat) (s : State) : ((retireAll n s).1).wcu = s.wcu := by rw [retireAll_frame]
@[simp] theorem retireAll_lnk (n : Nat) (s : State) : ((retireAll n s).1).lnk = s.lnk := by rw [retireAll_frame]
@[simp] theorem retireAll_sst (n : Nat) (s : State) : ((retireAll n s).1).sst = s.sst := by rw [retireAll_frame]
@[simp] theorem retireAll_params (n : Nat) (s : State) : ((retireAll n s).1).params = s.params := by rw [retireAll_frame]
@[simp] theorem retireAll_pins (n : Nat) (s : State) : ((retireAll n s).1).pins = s.pins := by rw [retireAll_frame]
@[simp] theorem retireAll_orders (n : Nat) (s : State) : ((retireAll n s).1).orders = s.orders := by rw [retireAll_frame]
@[simp] theorem retireAll_freeCount (n : Nat) (s : State) : ((retireAll n s).1).freeCount = s.freeCount := by rw [retireAll_frame]
@[simp] theorem retireAll_pending (n : Nat) (s : State) : ((retireAll n s).1).pending = s.pending := by rw [retireAll_frame]

/-- A close changes the list's block, the notice unit and the trace recorder alone. -/
theorem closeList_frame (s : State) :
    (closeList s).1 = { s with fls := ((closeList s).1).fls, ntu := ((closeList s).1).ntu, trc := ((closeList s).1).trc } := by
  unfold closeList; rw [retireAll_frame]; rfl

@[simp] theorem closeList_mfe (s : State) : ((closeList s).1).mfe = s.mfe := by rw [closeList_frame]
@[simp] theorem closeList_ffb (s : State) : ((closeList s).1).ffb = s.ffb := by rw [closeList_frame]
@[simp] theorem closeList_atr (s : State) : ((closeList s).1).atr = s.atr := by rw [closeList_frame]
@[simp] theorem closeList_ssq (s : State) : ((closeList s).1).ssq = s.ssq := by rw [closeList_frame]
@[simp] theorem closeList_crg (s : State) : ((closeList s).1).crg = s.crg := by rw [closeList_frame]
@[simp] theorem closeList_dgv (s : State) : ((closeList s).1).dgv = s.dgv := by rw [closeList_frame]
@[simp] theorem closeList_rtb (s : State) : ((closeList s).1).rtb = s.rtb := by rw [closeList_frame]
@[simp] theorem closeList_rct (s : State) : ((closeList s).1).rct = s.rct := by rw [closeList_frame]
@[simp] theorem closeList_wcu (s : State) : ((closeList s).1).wcu = s.wcu := by rw [closeList_frame]
@[simp] theorem closeList_lnk (s : State) : ((closeList s).1).lnk = s.lnk := by rw [closeList_frame]
@[simp] theorem closeList_sst (s : State) : ((closeList s).1).sst = s.sst := by rw [closeList_frame]
@[simp] theorem closeList_params (s : State) : ((closeList s).1).params = s.params := by rw [closeList_frame]
@[simp] theorem closeList_pins (s : State) : ((closeList s).1).pins = s.pins := by rw [closeList_frame]
@[simp] theorem closeList_orders (s : State) : ((closeList s).1).orders = s.orders := by rw [closeList_frame]
@[simp] theorem closeList_freeCount (s : State) : ((closeList s).1).freeCount = s.freeCount := by rw [closeList_frame]
@[simp] theorem closeList_pending (s : State) : ((closeList s).1).pending = s.pending := by rw [closeList_frame]

/-- A hand-off changes the list's block, the notice unit and the trace recorder alone. -/
theorem handOff_frame (e : Entry) (s : State) :
    handOff e s = { s with fls := (handOff e s).fls, ntu := (handOff e s).ntu, trc := (handOff e s).trc } := by
  unfold handOff; dsimp only; split
  · rw [closeList_frame]; rfl
  · rfl

@[simp] theorem handOff_mfe (e : Entry) (s : State) : (handOff e s).mfe = s.mfe := by rw [handOff_frame]
@[simp] theorem handOff_ffb (e : Entry) (s : State) : (handOff e s).ffb = s.ffb := by rw [handOff_frame]
@[simp] theorem handOff_atr (e : Entry) (s : State) : (handOff e s).atr = s.atr := by rw [handOff_frame]
@[simp] theorem handOff_ssq (e : Entry) (s : State) : (handOff e s).ssq = s.ssq := by rw [handOff_frame]
@[simp] theorem handOff_crg (e : Entry) (s : State) : (handOff e s).crg = s.crg := by rw [handOff_frame]
@[simp] theorem handOff_dgv (e : Entry) (s : State) : (handOff e s).dgv = s.dgv := by rw [handOff_frame]
@[simp] theorem handOff_rtb (e : Entry) (s : State) : (handOff e s).rtb = s.rtb := by rw [handOff_frame]
@[simp] theorem handOff_rct (e : Entry) (s : State) : (handOff e s).rct = s.rct := by rw [handOff_frame]
@[simp] theorem handOff_wcu (e : Entry) (s : State) : (handOff e s).wcu = s.wcu := by rw [handOff_frame]
@[simp] theorem handOff_lnk (e : Entry) (s : State) : (handOff e s).lnk = s.lnk := by rw [handOff_frame]
@[simp] theorem handOff_sst (e : Entry) (s : State) : (handOff e s).sst = s.sst := by rw [handOff_frame]
@[simp] theorem handOff_params (e : Entry) (s : State) : (handOff e s).params = s.params := by rw [handOff_frame]
@[simp] theorem handOff_pins (e : Entry) (s : State) : (handOff e s).pins = s.pins := by rw [handOff_frame]
@[simp] theorem handOff_orders (e : Entry) (s : State) : (handOff e s).orders = s.orders := by rw [handOff_frame]
@[simp] theorem handOff_freeCount (e : Entry) (s : State) : (handOff e s).freeCount = s.freeCount := by rw [handOff_frame]
@[simp] theorem handOff_pending (e : Entry) (s : State) : (handOff e s).pending = s.pending := by rw [handOff_frame]

/-- Seeding changes the list's block alone. -/
theorem seedFiring_frame (s : State) :
    seedFiring s = { s with fls := (seedFiring s).fls } := by
  rfl

@[simp] theorem seedFiring_mfe (s : State) : (seedFiring s).mfe = s.mfe := by rw [seedFiring_frame]
@[simp] theorem seedFiring_ffb (s : State) : (seedFiring s).ffb = s.ffb := by rw [seedFiring_frame]
@[simp] theorem seedFiring_atr (s : State) : (seedFiring s).atr = s.atr := by rw [seedFiring_frame]
@[simp] theorem seedFiring_ssq (s : State) : (seedFiring s).ssq = s.ssq := by rw [seedFiring_frame]
@[simp] theorem seedFiring_crg (s : State) : (seedFiring s).crg = s.crg := by rw [seedFiring_frame]
@[simp] theorem seedFiring_dgv (s : State) : (seedFiring s).dgv = s.dgv := by rw [seedFiring_frame]
@[simp] theorem seedFiring_rtb (s : State) : (seedFiring s).rtb = s.rtb := by rw [seedFiring_frame]
@[simp] theorem seedFiring_rct (s : State) : (seedFiring s).rct = s.rct := by rw [seedFiring_frame]
@[simp] theorem seedFiring_ntu (s : State) : (seedFiring s).ntu = s.ntu := by rw [seedFiring_frame]
@[simp] theorem seedFiring_wcu (s : State) : (seedFiring s).wcu = s.wcu := by rw [seedFiring_frame]
@[simp] theorem seedFiring_trc (s : State) : (seedFiring s).trc = s.trc := by rw [seedFiring_frame]
@[simp] theorem seedFiring_lnk (s : State) : (seedFiring s).lnk = s.lnk := by rw [seedFiring_frame]
@[simp] theorem seedFiring_sst (s : State) : (seedFiring s).sst = s.sst := by rw [seedFiring_frame]
@[simp] theorem seedFiring_params (s : State) : (seedFiring s).params = s.params := by rw [seedFiring_frame]
@[simp] theorem seedFiring_pins (s : State) : (seedFiring s).pins = s.pins := by rw [seedFiring_frame]
@[simp] theorem seedFiring_orders (s : State) : (seedFiring s).orders = s.orders := by rw [seedFiring_frame]
@[simp] theorem seedFiring_freeCount (s : State) : (seedFiring s).freeCount = s.freeCount := by rw [seedFiring_frame]
@[simp] theorem seedFiring_pending (s : State) : (seedFiring s).pending = s.pending := by rw [seedFiring_frame]

/-- The clamp of MISFIRE_LIMIT changes the list's block alone. -/
theorem clampMisfires_frame (s : State) :
    clampMisfires s = { s with fls := (clampMisfires s).fls } := by
  rfl

@[simp] theorem clampMisfires_mfe (s : State) : (clampMisfires s).mfe = s.mfe := by rw [clampMisfires_frame]
@[simp] theorem clampMisfires_ffb (s : State) : (clampMisfires s).ffb = s.ffb := by rw [clampMisfires_frame]
@[simp] theorem clampMisfires_atr (s : State) : (clampMisfires s).atr = s.atr := by rw [clampMisfires_frame]
@[simp] theorem clampMisfires_ssq (s : State) : (clampMisfires s).ssq = s.ssq := by rw [clampMisfires_frame]
@[simp] theorem clampMisfires_crg (s : State) : (clampMisfires s).crg = s.crg := by rw [clampMisfires_frame]
@[simp] theorem clampMisfires_dgv (s : State) : (clampMisfires s).dgv = s.dgv := by rw [clampMisfires_frame]
@[simp] theorem clampMisfires_rtb (s : State) : (clampMisfires s).rtb = s.rtb := by rw [clampMisfires_frame]
@[simp] theorem clampMisfires_rct (s : State) : (clampMisfires s).rct = s.rct := by rw [clampMisfires_frame]
@[simp] theorem clampMisfires_ntu (s : State) : (clampMisfires s).ntu = s.ntu := by rw [clampMisfires_frame]
@[simp] theorem clampMisfires_wcu (s : State) : (clampMisfires s).wcu = s.wcu := by rw [clampMisfires_frame]
@[simp] theorem clampMisfires_trc (s : State) : (clampMisfires s).trc = s.trc := by rw [clampMisfires_frame]
@[simp] theorem clampMisfires_lnk (s : State) : (clampMisfires s).lnk = s.lnk := by rw [clampMisfires_frame]
@[simp] theorem clampMisfires_sst (s : State) : (clampMisfires s).sst = s.sst := by rw [clampMisfires_frame]
@[simp] theorem clampMisfires_params (s : State) : (clampMisfires s).params = s.params := by rw [clampMisfires_frame]
@[simp] theorem clampMisfires_pins (s : State) : (clampMisfires s).pins = s.pins := by rw [clampMisfires_frame]
@[simp] theorem clampMisfires_orders (s : State) : (clampMisfires s).orders = s.orders := by rw [clampMisfires_frame]
@[simp] theorem clampMisfires_freeCount (s : State) : (clampMisfires s).freeCount = s.freeCount := by rw [clampMisfires_frame]
@[simp] theorem clampMisfires_pending (s : State) : (clampMisfires s).pending = s.pending := by rw [clampMisfires_frame]

/-- The list's crossings change the list's block alone. -/
theorem firePoint_frame (u : AngleUpdate) (x : Nat) (s : State) :
    firePoint u x s = { s with fls := (firePoint u x s).fls } := by
  rfl

@[simp] theorem firePoint_mfe (u : AngleUpdate) (x : Nat) (s : State) : (firePoint u x s).mfe = s.mfe := by rw [firePoint_frame]
@[simp] theorem firePoint_ffb (u : AngleUpdate) (x : Nat) (s : State) : (firePoint u x s).ffb = s.ffb := by rw [firePoint_frame]
@[simp] theorem firePoint_atr (u : AngleUpdate) (x : Nat) (s : State) : (firePoint u x s).atr = s.atr := by rw [firePoint_frame]
@[simp] theorem firePoint_ssq (u : AngleUpdate) (x : Nat) (s : State) : (firePoint u x s).ssq = s.ssq := by rw [firePoint_frame]
@[simp] theorem firePoint_crg (u : AngleUpdate) (x : Nat) (s : State) : (firePoint u x s).crg = s.crg := by rw [firePoint_frame]
@[simp] theorem firePoint_dgv (u : AngleUpdate) (x : Nat) (s : State) : (firePoint u x s).dgv = s.dgv := by rw [firePoint_frame]
@[simp] theorem firePoint_rtb (u : AngleUpdate) (x : Nat) (s : State) : (firePoint u x s).rtb = s.rtb := by rw [firePoint_frame]
@[simp] theorem firePoint_rct (u : AngleUpdate) (x : Nat) (s : State) : (firePoint u x s).rct = s.rct := by rw [firePoint_frame]
@[simp] theorem firePoint_ntu (u : AngleUpdate) (x : Nat) (s : State) : (firePoint u x s).ntu = s.ntu := by rw [firePoint_frame]
@[simp] theorem firePoint_wcu (u : AngleUpdate) (x : Nat) (s : State) : (firePoint u x s).wcu = s.wcu := by rw [firePoint_frame]
@[simp] theorem firePoint_trc (u : AngleUpdate) (x : Nat) (s : State) : (firePoint u x s).trc = s.trc := by rw [firePoint_frame]
@[simp] theorem firePoint_lnk (u : AngleUpdate) (x : Nat) (s : State) : (firePoint u x s).lnk = s.lnk := by rw [firePoint_frame]
@[simp] theorem firePoint_sst (u : AngleUpdate) (x : Nat) (s : State) : (firePoint u x s).sst = s.sst := by rw [firePoint_frame]
@[simp] theorem firePoint_params (u : AngleUpdate) (x : Nat) (s : State) : (firePoint u x s).params = s.params := by rw [firePoint_frame]
@[simp] theorem firePoint_pins (u : AngleUpdate) (x : Nat) (s : State) : (firePoint u x s).pins = s.pins := by rw [firePoint_frame]
@[simp] theorem firePoint_orders (u : AngleUpdate) (x : Nat) (s : State) : (firePoint u x s).orders = s.orders := by rw [firePoint_frame]
@[simp] theorem firePoint_freeCount (u : AngleUpdate) (x : Nat) (s : State) : (firePoint u x s).freeCount = s.freeCount := by rw [firePoint_frame]
@[simp] theorem firePoint_pending (u : AngleUpdate) (x : Nat) (s : State) : (firePoint u x s).pending = s.pending := by rw [firePoint_frame]

/-- The samples change the list's block alone. -/
theorem sampleWindows_frame (u : AngleUpdate) (s : State) :
    sampleWindows u s = { s with fls := (sampleWindows u s).fls } := by
  rfl

@[simp] theorem sampleWindows_mfe (u : AngleUpdate) (s : State) : (sampleWindows u s).mfe = s.mfe := by rw [sampleWindows_frame]
@[simp] theorem sampleWindows_ffb (u : AngleUpdate) (s : State) : (sampleWindows u s).ffb = s.ffb := by rw [sampleWindows_frame]
@[simp] theorem sampleWindows_atr (u : AngleUpdate) (s : State) : (sampleWindows u s).atr = s.atr := by rw [sampleWindows_frame]
@[simp] theorem sampleWindows_ssq (u : AngleUpdate) (s : State) : (sampleWindows u s).ssq = s.ssq := by rw [sampleWindows_frame]
@[simp] theorem sampleWindows_crg (u : AngleUpdate) (s : State) : (sampleWindows u s).crg = s.crg := by rw [sampleWindows_frame]
@[simp] theorem sampleWindows_dgv (u : AngleUpdate) (s : State) : (sampleWindows u s).dgv = s.dgv := by rw [sampleWindows_frame]
@[simp] theorem sampleWindows_rtb (u : AngleUpdate) (s : State) : (sampleWindows u s).rtb = s.rtb := by rw [sampleWindows_frame]
@[simp] theorem sampleWindows_rct (u : AngleUpdate) (s : State) : (sampleWindows u s).rct = s.rct := by rw [sampleWindows_frame]
@[simp] theorem sampleWindows_ntu (u : AngleUpdate) (s : State) : (sampleWindows u s).ntu = s.ntu := by rw [sampleWindows_frame]
@[simp] theorem sampleWindows_wcu (u : AngleUpdate) (s : State) : (sampleWindows u s).wcu = s.wcu := by rw [sampleWindows_frame]
@[simp] theorem sampleWindows_trc (u : AngleUpdate) (s : State) : (sampleWindows u s).trc = s.trc := by rw [sampleWindows_frame]
@[simp] theorem sampleWindows_lnk (u : AngleUpdate) (s : State) : (sampleWindows u s).lnk = s.lnk := by rw [sampleWindows_frame]
@[simp] theorem sampleWindows_sst (u : AngleUpdate) (s : State) : (sampleWindows u s).sst = s.sst := by rw [sampleWindows_frame]
@[simp] theorem sampleWindows_params (u : AngleUpdate) (s : State) : (sampleWindows u s).params = s.params := by rw [sampleWindows_frame]
@[simp] theorem sampleWindows_pins (u : AngleUpdate) (s : State) : (sampleWindows u s).pins = s.pins := by rw [sampleWindows_frame]
@[simp] theorem sampleWindows_orders (u : AngleUpdate) (s : State) : (sampleWindows u s).orders = s.orders := by rw [sampleWindows_frame]
@[simp] theorem sampleWindows_freeCount (u : AngleUpdate) (s : State) : (sampleWindows u s).freeCount = s.freeCount := by rw [sampleWindows_frame]
@[simp] theorem sampleWindows_pending (u : AngleUpdate) (s : State) : (sampleWindows u s).pending = s.pending := by rw [sampleWindows_frame]


/-! A retirement. -/

theorem retireHead_empty (s : State) (h : s.fls.list = []) : retireHead s = (s, none) := by
  unfold retireHead; rw [h]

/-- The list's block after a retirement: the head gone, the counter advanced, the slot's status written (R85, R86). -/
theorem retireHead_fls (e : Entry) (rest : List Entry) (s : State) (h : s.fls.list = e :: rest) :
    (retireHead s).1.fls = { s.fls with
      list := rest, seq := s.fls.seq + 1
      status := s.fls.status.set e.slot
        (statusAfter (s.parN .misfireLimit) s.fls.seq e (s.fls.status.get e.slot)) } := by
  unfold retireHead; rw [h]; dsimp only
  split <;> simp [State.parN, State.par]

/-- Only a misfire at the limit asks for a halt, and for its own slot (R87). -/
theorem retireHead_asks (e : Entry) (rest : List Entry) (s : State) (h : s.fls.list = e :: rest) :
    (retireHead s).2 =
      if e.retireOutcome = .misfire ∧
          s.parN .misfireLimit ≤
            (statusAfter (s.parN .misfireLimit) s.fls.seq e (s.fls.status.get e.slot)).consecutive
      then some e.slot else none := by
  unfold retireHead; rw [h]; dsimp only
  by_cases hm : e.retireOutcome = .misfire <;> simp [hm, State.parN, State.par]

theorem retireHead_alert (s : State) (h : s.ntu.alert = s.alertDue) :
    (retireHead s).1.ntu.alert = (retireHead s).1.alertDue := by
  unfold retireHead; split
  · exact h
  · dsimp only; split
    · exact occur_alert _ _
    · exact appendTrace_alert _ _ h

theorem retireAll_alert (n : Nat) (s : State) (h : s.ntu.alert = s.alertDue) :
    (retireAll n s).1.ntu.alert = (retireAll n s).1.alertDue := by
  induction n generalizing s with
  | zero => exact h
  | succ n ih => exact ih _ (retireHead_alert s h)

theorem closeList_alert (s : State) (h : s.ntu.alert = s.alertDue) :
    (closeList s).1.ntu.alert = (closeList s).1.alertDue :=
  retireAll_alert _ _ h

/-- A retirement occurs as SLOT_MISFIRE or TRACE_FROZEN at most. -/
theorem retireHead_source (s : State) (n : Fin 24) (hm : n ≠ Source.slotMisfire.num)
    (hf : n ≠ Source.traceFrozen.num) : (retireHead s).1.ntu.sources.get n = s.ntu.sources.get n := by
  unfold retireHead; split
  · rfl
  · dsimp only; split
    · rw [occur_source_other _ _ n hm hf]
      exact appendTrace_source _ _ n hf
    · exact appendTrace_source _ _ n hf

theorem retireAll_source (k : Nat) (s : State) (n : Fin 24) (hm : n ≠ Source.slotMisfire.num)
    (hf : n ≠ Source.traceFrozen.num) : (retireAll k s).1.ntu.sources.get n = s.ntu.sources.get n := by
  induction k generalizing s with
  | zero => rfl
  | succ k ih => simp only [retireAll]; rw [ih, retireHead_source s n hm hf]

theorem closeList_source (s : State) (n : Fin 24) (hm : n ≠ Source.slotMisfire.num)
    (hf : n ≠ Source.traceFrozen.num) : (closeList s).1.ntu.sources.get n = s.ntu.sources.get n :=
  retireAll_source _ _ n hm hf

/-! All retirements. -/

/-- Retiring as many entries as the list holds, or more, empties it and advances the counter by their number. -/
theorem retireAll_empties (n : Nat) (s : State) (h : s.fls.list.length ≤ n) :
    (retireAll n s).1.fls.list = []
    ∧ (retireAll n s).1.fls.seq = s.fls.seq + BitVec.ofNat 16 s.fls.list.length
    ∧ (retireAll n s).1.fls.blocked = s.fls.blocked ∧ (retireAll n s).1.fls.refAvg = s.fls.refAvg := by
  induction n generalizing s with
  | zero =>
    have : s.fls.list = [] := List.eq_nil_of_length_eq_zero (by omega)
    simp [retireAll, this]
  | succ n ih =>
    cases hl : s.fls.list with
    | nil =>
      have := ih s (by simp [hl])
      simpa [retireAll, retireHead_empty s hl, hl] using this
    | cons e rest =>
      have hf := retireHead_fls e rest s hl
      obtain ⟨h1, h2, h3, h4⟩ := ih (retireHead s).1 (by rw [hf]; simp [hl] at h; exact h)
      refine ⟨h1, ?_, ?_, ?_⟩
      · simp only [retireAll]
        rw [h2, hf]
        simp only [List.length_cons, BitVec.ofNat_add]
        rw [BitVec.add_assoc]
        congr 1
        exact BitVec.add_comm _ _
      · simp only [retireAll]; rw [h3, hf]
      · simp only [retireAll]; rw [h4, hf]

/-- After a close the list is empty and blocked YES; the counter has given a number to every entry (R89, R90). -/
theorem closeList_spec (s : State) :
    (closeList s).1.fls.list = [] ∧ (closeList s).1.fls.blocked = true
    ∧ (closeList s).1.fls.seq = s.fls.seq + BitVec.ofNat 16 s.fls.list.length
    ∧ (closeList s).1.fls.refAvg = s.fls.refAvg := by
  unfold closeList
  obtain ⟨h1, h2, h3, h4⟩ := retireAll_empties s.fls.list.length
    (s.withFls { s.fls with
      blocked := true
      list := s.fls.list.map (closeEntry (s.dgv.state == .episode) s.mfe.count) }) (by simp)
  exact ⟨h1, h3, by simpa using h2, h4⟩

/-- With no entry in the list every gate line is OFF (R77). -/
theorem gateOn_empty (s : State) (h : s.fls.list = []) (g : Fin 24) : s.gateOn g = false := by
  simp [State.gateOn, h]

end Sys2Proof.Machine
end

