-- ==== Sys2Proof/Laws/Frame.lean ====
section
/-!
SUPPORT. How a lemma says which blocks an operation changes: `Changes fs s t` says that every field of the state outside the
list `fs` is in `t` as it is in `s`.
-/

namespace Sys2Proof.Machine

/-- The fields of the state. -/
inductive Field where
  | mfe | ffb | atr | ssq | crg | fls | dgv | rtb | rct | ntu | wcu | trc | lnk | sst | params | pins | orders | freeCount | pending
  deriving DecidableEq, Repr

/-- A field is the same in two states. -/
def Field.same : Field → State → State → Prop
  | .mfe, s, t => t.mfe = s.mfe
  | .ffb, s, t => t.ffb = s.ffb
  | .atr, s, t => t.atr = s.atr
  | .ssq, s, t => t.ssq = s.ssq
  | .crg, s, t => t.crg = s.crg
  | .fls, s, t => t.fls = s.fls
  | .dgv, s, t => t.dgv = s.dgv
  | .rtb, s, t => t.rtb = s.rtb
  | .rct, s, t => t.rct = s.rct
  | .ntu, s, t => t.ntu = s.ntu
  | .wcu, s, t => t.wcu = s.wcu
  | .trc, s, t => t.trc = s.trc
  | .lnk, s, t => t.lnk = s.lnk
  | .sst, s, t => t.sst = s.sst
  | .params, s, t => t.params = s.params
  | .pins, s, t => t.pins = s.pins
  | .orders, s, t => t.orders = s.orders
  | .freeCount, s, t => t.freeCount = s.freeCount
  | .pending, s, t => t.pending = s.pending

/-- No field outside the list changes. -/
def Changes (fs : List Field) (s t : State) : Prop := ∀ f, f ∉ fs → f.same s t

theorem Field.same_refl (f : Field) (s : State) : f.same s s := by cases f <;> rfl

theorem Field.same_trans {f : Field} {s t u : State} (h : f.same s t) (k : f.same t u) : f.same s u := by
  cases f <;> exact Eq.trans k h

theorem Changes.refl (fs : List Field) (s : State) : Changes fs s s := fun f _ => f.same_refl s

theorem Changes.trans {fs : List Field} {s t u : State} (h : Changes fs s t) (k : Changes fs t u) : Changes fs s u :=
  fun f hf => Field.same_trans (h f hf) (k f hf)

theorem Changes.mono {fs gs : List Field} {s t : State} (h : Changes fs s t) (hs : ∀ f, f ∈ fs → f ∈ gs) :
    Changes gs s t := fun f hf => h f fun m => hf (hs f m)

theorem Changes.ite {fs : List Field} {s t u : State} {c : Prop} [Decidable c] (h : Changes fs s t)
    (k : Changes fs s u) : Changes fs s (if c then t else u) := by
  split
  · exact h
  · exact k

theorem Changes.ite_fst {α : Type} {fs : List Field} {s : State} {t u : State × α} {c : Prop} [Decidable c]
    (h : Changes fs s t.1) (k : Changes fs s u.1) : Changes fs s (if c then t else u).1 := by
  split
  · exact h
  · exact k

/-- Two states are equal when every field is. -/
theorem State.ext_fields {s t : State} (h : ∀ f : Field, f.same s t) : t = s := by
  cases s
  cases t
  simp only [State.mk.injEq]
  exact ⟨h .mfe, h .ffb, h .atr, h .ssq, h .crg, h .fls, h .dgv, h .rtb, h .rct, h .ntu, h .wcu, h .trc, h .lnk, h .sst, h .params, h .pins, h .orders, h .freeCount, h .pending⟩

/-- An operation that changes nothing outside the empty list changes nothing. -/
theorem Changes.eq {s t : State} (h : Changes [] s t) : t = s := State.ext_fields fun f => h f (by simp)

theorem Changes.withMfe (s : State) (v : Mfe) : Changes [.mfe] s (s.withMfe v) := by
  intro f hf; cases f <;> first | rfl | (exact absurd (by simp) hf)

theorem Changes.withFfb (s : State) (v : Ffb) : Changes [.ffb] s (s.withFfb v) := by
  intro f hf; cases f <;> first | rfl | (exact absurd (by simp) hf)

theorem Changes.withAtr (s : State) (v : Atr) : Changes [.atr] s (s.withAtr v) := by
  intro f hf; cases f <;> first | rfl | (exact absurd (by simp) hf)

theorem Changes.withSsq (s : State) (v : Ssq) : Changes [.ssq] s (s.withSsq v) := by
  intro f hf; cases f <;> first | rfl | (exact absurd (by simp) hf)

theorem Changes.withCrg (s : State) (v : Crg) : Changes [.crg] s (s.withCrg v) := by
  intro f hf; cases f <;> first | rfl | (exact absurd (by simp) hf)

theorem Changes.withFls (s : State) (v : Fls) : Changes [.fls] s (s.withFls v) := by
  intro f hf; cases f <;> first | rfl | (exact absurd (by simp) hf)

theorem Changes.withDgv (s : State) (v : Dgv) : Changes [.dgv] s (s.withDgv v) := by
  intro f hf; cases f <;> first | rfl | (exact absurd (by simp) hf)

theorem Changes.withRtb (s : State) (v : Rtb) : Changes [.rtb] s (s.withRtb v) := by
  intro f hf; cases f <;> first | rfl | (exact absurd (by simp) hf)

theorem Changes.withRct (s : State) (v : Rct) : Changes [.rct] s (s.withRct v) := by
  intro f hf; cases f <;> first | rfl | (exact absurd (by simp) hf)

theorem Changes.withNtu (s : State) (v : Ntu) : Changes [.ntu] s (s.withNtu v) := by
  intro f hf; cases f <;> first | rfl | (exact absurd (by simp) hf)

theorem Changes.withWcu (s : State) (v : Wcu) : Changes [.wcu] s (s.withWcu v) := by
  intro f hf; cases f <;> first | rfl | (exact absurd (by simp) hf)

theorem Changes.withTrc (s : State) (v : Trc) : Changes [.trc] s (s.withTrc v) := by
  intro f hf; cases f <;> first | rfl | (exact absurd (by simp) hf)

theorem Changes.withLnk (s : State) (v : Lnk) : Changes [.lnk] s (s.withLnk v) := by
  intro f hf; cases f <;> first | rfl | (exact absurd (by simp) hf)

theorem Changes.withSst (s : State) (v : Sst) : Changes [.sst] s (s.withSst v) := by
  intro f hf; cases f <;> first | rfl | (exact absurd (by simp) hf)

theorem Changes.withParams (s : State) (v : Params) : Changes [.params] s (s.withParams v) := by
  intro f hf; cases f <;> first | rfl | (exact absurd (by simp) hf)

theorem Changes.withPins (s : State) (v : Pins) : Changes [.pins] s (s.withPins v) := by
  intro f hf; cases f <;> first | rfl | (exact absurd (by simp) hf)

theorem Changes.withOrders (s : State) (v : List UpdateOrder) : Changes [.orders] s (s.withOrders v) := by
  intro f hf; cases f <;> first | rfl | (exact absurd (by simp) hf)

theorem Changes.withFreeCount (s : State) (v : Nat) : Changes [.freeCount] s (s.withFreeCount v) := by
  intro f hf; cases f <;> first | rfl | (exact absurd (by simp) hf)

theorem Changes.withPending (s : State) (v : List Instr) : Changes [.pending] s (s.withPending v) := by
  intro f hf; cases f <;> first | rfl | (exact absurd (by simp) hf)

end Sys2Proof.Machine
end

