-- ==== Sys2Proof/Laws/Governor.lean ====
section
/-!
SUPPORT. What the governor's and the response table's operations can change (chapters 6 and 7).
-/

namespace Sys2Proof.Machine

/-- An occurrence. -/
theorem occur_changes (src : Source) (s : State) : Changes [.ntu, .trc] s (occur src s) := by
  intro f hf; cases f <;> first | (simp [Field.same]; done) | (exact absurd (by simp) hf)

/-- An occurrence after a change. -/
theorem Changes.occur {fs : List Field} {s t : State} (src : Source) (h : Changes fs s t)
    (hs : Field.ntu ∈ fs ∧ Field.trc ∈ fs) : Changes fs s (Machine.occur src t) :=
  h.trans ((occur_changes src t).mono (by simp [hs.1, hs.2]))

/-- An occurrence, if there is one, after a change. -/
theorem Changes.occurIf {fs : List Field} {s t : State} (src? : Option Source) (h : Changes fs s t)
    (hs : Field.ntu ∈ fs ∧ Field.trc ∈ fs) : Changes fs s (Machine.occurIf src? t) := by
  cases src? with
  | none => exact h
  | some src => exact Changes.occur src h hs

/-- Marking an entry. -/
theorem markEntry_changes (ix : EntryIx) (f : Marks → Marks) (s : State) : Changes [.rtb] s (markEntry ix f s) := by
  intro g hg; cases ix <;> cases g <;> first | rfl | (exact absurd (by simp) hg)

@[simp] theorem markEntry_mfe (ix : EntryIx) (f : Marks → Marks) (s : State) : (markEntry ix f s).mfe = s.mfe :=
  markEntry_changes ix f s .mfe (by decide)
@[simp] theorem markEntry_ffb (ix : EntryIx) (f : Marks → Marks) (s : State) : (markEntry ix f s).ffb = s.ffb :=
  markEntry_changes ix f s .ffb (by decide)
@[simp] theorem markEntry_atr (ix : EntryIx) (f : Marks → Marks) (s : State) : (markEntry ix f s).atr = s.atr :=
  markEntry_changes ix f s .atr (by decide)
@[simp] theorem markEntry_ssq (ix : EntryIx) (f : Marks → Marks) (s : State) : (markEntry ix f s).ssq = s.ssq :=
  markEntry_changes ix f s .ssq (by decide)
@[simp] theorem markEntry_crg (ix : EntryIx) (f : Marks → Marks) (s : State) : (markEntry ix f s).crg = s.crg :=
  markEntry_changes ix f s .crg (by decide)
@[simp] theorem markEntry_fls (ix : EntryIx) (f : Marks → Marks) (s : State) : (markEntry ix f s).fls = s.fls :=
  markEntry_changes ix f s .fls (by decide)
@[simp] theorem markEntry_dgv (ix : EntryIx) (f : Marks → Marks) (s : State) : (markEntry ix f s).dgv = s.dgv :=
  markEntry_changes ix f s .dgv (by decide)
@[simp] theorem markEntry_rct (ix : EntryIx) (f : Marks → Marks) (s : State) : (markEntry ix f s).rct = s.rct :=
  markEntry_changes ix f s .rct (by decide)
@[simp] theorem markEntry_ntu (ix : EntryIx) (f : Marks → Marks) (s : State) : (markEntry ix f s).ntu = s.ntu :=
  markEntry_changes ix f s .ntu (by decide)
@[simp] theorem markEntry_wcu (ix : EntryIx) (f : Marks → Marks) (s : State) : (markEntry ix f s).wcu = s.wcu :=
  markEntry_changes ix f s .wcu (by decide)
@[simp] theorem markEntry_trc (ix : EntryIx) (f : Marks → Marks) (s : State) : (markEntry ix f s).trc = s.trc :=
  markEntry_changes ix f s .trc (by decide)
@[simp] theorem markEntry_lnk (ix : EntryIx) (f : Marks → Marks) (s : State) : (markEntry ix f s).lnk = s.lnk :=
  markEntry_changes ix f s .lnk (by decide)
@[simp] theorem markEntry_sst (ix : EntryIx) (f : Marks → Marks) (s : State) : (markEntry ix f s).sst = s.sst :=
  markEntry_changes ix f s .sst (by decide)
@[simp] theorem markEntry_params (ix : EntryIx) (f : Marks → Marks) (s : State) : (markEntry ix f s).params = s.params :=
  markEntry_changes ix f s .params (by decide)
@[simp] theorem markEntry_pins (ix : EntryIx) (f : Marks → Marks) (s : State) : (markEntry ix f s).pins = s.pins :=
  markEntry_changes ix f s .pins (by decide)
@[simp] theorem markEntry_orders (ix : EntryIx) (f : Marks → Marks) (s : State) : (markEntry ix f s).orders = s.orders :=
  markEntry_changes ix f s .orders (by decide)
@[simp] theorem markEntry_freeCount (ix : EntryIx) (f : Marks → Marks) (s : State) : (markEntry ix f s).freeCount = s.freeCount :=
  markEntry_changes ix f s .freeCount (by decide)
@[simp] theorem markEntry_pending (ix : EntryIx) (f : Marks → Marks) (s : State) : (markEntry ix f s).pending = s.pending :=
  markEntry_changes ix f s .pending (by decide)

@[simp] theorem markEntry_entries (ix : EntryIx) (f : Marks → Marks) (s : State) :
    (markEntry ix f s).rtb.entries = s.rtb.entries := by cases ix <;> rfl

/-- Changing the open record. -/
theorem changeOngoing_changes (g : HistoryRecord → HistoryRecord) (s : State) : Changes [.dgv] s (changeOngoing g s) := by
  intro f hf; cases f <;> first | rfl | (exact absurd (by simp) hf)

@[simp] theorem changeOngoing_mfe (g : HistoryRecord → HistoryRecord) (s : State) : (changeOngoing g s).mfe = s.mfe :=
  changeOngoing_changes g s .mfe (by decide)
@[simp] theorem changeOngoing_ffb (g : HistoryRecord → HistoryRecord) (s : State) : (changeOngoing g s).ffb = s.ffb :=
  changeOngoing_changes g s .ffb (by decide)
@[simp] theorem changeOngoing_atr (g : HistoryRecord → HistoryRecord) (s : State) : (changeOngoing g s).atr = s.atr :=
  changeOngoing_changes g s .atr (by decide)
@[simp] theorem changeOngoing_ssq (g : HistoryRecord → HistoryRecord) (s : State) : (changeOngoing g s).ssq = s.ssq :=
  changeOngoing_changes g s .ssq (by decide)
@[simp] theorem changeOngoing_crg (g : HistoryRecord → HistoryRecord) (s : State) : (changeOngoing g s).crg = s.crg :=
  changeOngoing_changes g s .crg (by decide)
@[simp] theorem changeOngoing_fls (g : HistoryRecord → HistoryRecord) (s : State) : (changeOngoing g s).fls = s.fls :=
  changeOngoing_changes g s .fls (by decide)
@[simp] theorem changeOngoing_rtb (g : HistoryRecord → HistoryRecord) (s : State) : (changeOngoing g s).rtb = s.rtb :=
  changeOngoing_changes g s .rtb (by decide)
@[simp] theorem changeOngoing_rct (g : HistoryRecord → HistoryRecord) (s : State) : (changeOngoing g s).rct = s.rct :=
  changeOngoing_changes g s .rct (by decide)
@[simp] theorem changeOngoing_ntu (g : HistoryRecord → HistoryRecord) (s : State) : (changeOngoing g s).ntu = s.ntu :=
  changeOngoing_changes g s .ntu (by decide)
@[simp] theorem changeOngoing_wcu (g : HistoryRecord → HistoryRecord) (s : State) : (changeOngoing g s).wcu = s.wcu :=
  changeOngoing_changes g s .wcu (by decide)
@[simp] theorem changeOngoing_trc (g : HistoryRecord → HistoryRecord) (s : State) : (changeOngoing g s).trc = s.trc :=
  changeOngoing_changes g s .trc (by decide)
@[simp] theorem changeOngoing_lnk (g : HistoryRecord → HistoryRecord) (s : State) : (changeOngoing g s).lnk = s.lnk :=
  changeOngoing_changes g s .lnk (by decide)
@[simp] theorem changeOngoing_sst (g : HistoryRecord → HistoryRecord) (s : State) : (changeOngoing g s).sst = s.sst :=
  changeOngoing_changes g s .sst (by decide)
@[simp] theorem changeOngoing_params (g : HistoryRecord → HistoryRecord) (s : State) : (changeOngoing g s).params = s.params :=
  changeOngoing_changes g s .params (by decide)
@[simp] theorem changeOngoing_pins (g : HistoryRecord → HistoryRecord) (s : State) : (changeOngoing g s).pins = s.pins :=
  changeOngoing_changes g s .pins (by decide)
@[simp] theorem changeOngoing_orders (g : HistoryRecord → HistoryRecord) (s : State) : (changeOngoing g s).orders = s.orders :=
  changeOngoing_changes g s .orders (by decide)
@[simp] theorem changeOngoing_freeCount (g : HistoryRecord → HistoryRecord) (s : State) : (changeOngoing g s).freeCount = s.freeCount :=
  changeOngoing_changes g s .freeCount (by decide)
@[simp] theorem changeOngoing_pending (g : HistoryRecord → HistoryRecord) (s : State) : (changeOngoing g s).pending = s.pending :=
  changeOngoing_changes g s .pending (by decide)

/-- Raising the block. -/
theorem raiseBlock_changes (s : State) : Changes [.dgv] s (raiseBlock s) := by
  intro f hf; cases f <;> first | rfl | (exact absurd (by simp) hf)

@[simp] theorem raiseBlock_mfe (s : State) : (raiseBlock s).mfe = s.mfe :=
  raiseBlock_changes s .mfe (by decide)
@[simp] theorem raiseBlock_ffb (s : State) : (raiseBlock s).ffb = s.ffb :=
  raiseBlock_changes s .ffb (by decide)
@[simp] theorem raiseBlock_atr (s : State) : (raiseBlock s).atr = s.atr :=
  raiseBlock_changes s .atr (by decide)
@[simp] theorem raiseBlock_ssq (s : State) : (raiseBlock s).ssq = s.ssq :=
  raiseBlock_changes s .ssq (by decide)
@[simp] theorem raiseBlock_crg (s : State) : (raiseBlock s).crg = s.crg :=
  raiseBlock_changes s .crg (by decide)
@[simp] theorem raiseBlock_fls (s : State) : (raiseBlock s).fls = s.fls :=
  raiseBlock_changes s .fls (by decide)
@[simp] theorem raiseBlock_rtb (s : State) : (raiseBlock s).rtb = s.rtb :=
  raiseBlock_changes s .rtb (by decide)
@[simp] theorem raiseBlock_rct (s : State) : (raiseBlock s).rct = s.rct :=
  raiseBlock_changes s .rct (by decide)
@[simp] theorem raiseBlock_ntu (s : State) : (raiseBlock s).ntu = s.ntu :=
  raiseBlock_changes s .ntu (by decide)
@[simp] theorem raiseBlock_wcu (s : State) : (raiseBlock s).wcu = s.wcu :=
  raiseBlock_changes s .wcu (by decide)
@[simp] theorem raiseBlock_trc (s : State) : (raiseBlock s).trc = s.trc :=
  raiseBlock_changes s .trc (by decide)
@[simp] theorem raiseBlock_lnk (s : State) : (raiseBlock s).lnk = s.lnk :=
  raiseBlock_changes s .lnk (by decide)
@[simp] theorem raiseBlock_sst (s : State) : (raiseBlock s).sst = s.sst :=
  raiseBlock_changes s .sst (by decide)
@[simp] theorem raiseBlock_params (s : State) : (raiseBlock s).params = s.params :=
  raiseBlock_changes s .params (by decide)
@[simp] theorem raiseBlock_pins (s : State) : (raiseBlock s).pins = s.pins :=
  raiseBlock_changes s .pins (by decide)
@[simp] theorem raiseBlock_orders (s : State) : (raiseBlock s).orders = s.orders :=
  raiseBlock_changes s .orders (by decide)
@[simp] theorem raiseBlock_freeCount (s : State) : (raiseBlock s).freeCount = s.freeCount :=
  raiseBlock_changes s .freeCount (by decide)
@[simp] theorem raiseBlock_pending (s : State) : (raiseBlock s).pending = s.pending :=
  raiseBlock_changes s .pending (by decide)

/-- Emptying counts and extremes. -/
theorem clearRun_changes (s : State) : Changes [.dgv] s (clearRun s) := by
  intro f hf; cases f <;> first | rfl | (exact absurd (by simp) hf)

@[simp] theorem clearRun_mfe (s : State) : (clearRun s).mfe = s.mfe :=
  clearRun_changes s .mfe (by decide)
@[simp] theorem clearRun_ffb (s : State) : (clearRun s).ffb = s.ffb :=
  clearRun_changes s .ffb (by decide)
@[simp] theorem clearRun_atr (s : State) : (clearRun s).atr = s.atr :=
  clearRun_changes s .atr (by decide)
@[simp] theorem clearRun_ssq (s : State) : (clearRun s).ssq = s.ssq :=
  clearRun_changes s .ssq (by decide)
@[simp] theorem clearRun_crg (s : State) : (clearRun s).crg = s.crg :=
  clearRun_changes s .crg (by decide)
@[simp] theorem clearRun_fls (s : State) : (clearRun s).fls = s.fls :=
  clearRun_changes s .fls (by decide)
@[simp] theorem clearRun_rtb (s : State) : (clearRun s).rtb = s.rtb :=
  clearRun_changes s .rtb (by decide)
@[simp] theorem clearRun_rct (s : State) : (clearRun s).rct = s.rct :=
  clearRun_changes s .rct (by decide)
@[simp] theorem clearRun_ntu (s : State) : (clearRun s).ntu = s.ntu :=
  clearRun_changes s .ntu (by decide)
@[simp] theorem clearRun_wcu (s : State) : (clearRun s).wcu = s.wcu :=
  clearRun_changes s .wcu (by decide)
@[simp] theorem clearRun_trc (s : State) : (clearRun s).trc = s.trc :=
  clearRun_changes s .trc (by decide)
@[simp] theorem clearRun_lnk (s : State) : (clearRun s).lnk = s.lnk :=
  clearRun_changes s .lnk (by decide)
@[simp] theorem clearRun_sst (s : State) : (clearRun s).sst = s.sst :=
  clearRun_changes s .sst (by decide)
@[simp] theorem clearRun_params (s : State) : (clearRun s).params = s.params :=
  clearRun_changes s .params (by decide)
@[simp] theorem clearRun_pins (s : State) : (clearRun s).pins = s.pins :=
  clearRun_changes s .pins (by decide)
@[simp] theorem clearRun_orders (s : State) : (clearRun s).orders = s.orders :=
  clearRun_changes s .orders (by decide)
@[simp] theorem clearRun_freeCount (s : State) : (clearRun s).freeCount = s.freeCount :=
  clearRun_changes s .freeCount (by decide)
@[simp] theorem clearRun_pending (s : State) : (clearRun s).pending = s.pending :=
  clearRun_changes s .pending (by decide)

/-- A copy taking effect. -/
theorem takeCopy_changes (c : GoverningCopy) (renew : Bool) (s : State) : Changes [.dgv, .atr] s ((takeCopy c renew s).1) := by
  unfold takeCopy
  dsimp only
  have h2 : ∀ t : State, Changes [.dgv, .atr] t
      (if c.resp.action = .block ∨ c.resp.mode = .reseat then raiseBlock t else t) := fun t =>
    Changes.ite ((raiseBlock_changes t).mono (by simp)) (Changes.refl _ t)
  have h3 : ∀ t : State, Changes [.dgv, .atr] t
      (if c.resp.mode = .reseat ∧ (!renew) = true then t.withAtr { t.atr with reseatRequest := true } else t) := fun t =>
    Changes.ite ((Changes.withAtr t _).mono (by simp)) (Changes.refl _ t)
  refine Changes.trans (Changes.trans ?_ (h2 _)) (h3 _)
  intro f hf; cases f <;> first | rfl | (exact absurd (by simp) hf)

@[simp] theorem takeCopy_mfe (c : GoverningCopy) (renew : Bool) (s : State) : ((takeCopy c renew s).1).mfe = s.mfe :=
  takeCopy_changes c renew s .mfe (by decide)
@[simp] theorem takeCopy_ffb (c : GoverningCopy) (renew : Bool) (s : State) : ((takeCopy c renew s).1).ffb = s.ffb :=
  takeCopy_changes c renew s .ffb (by decide)
@[simp] theorem takeCopy_ssq (c : GoverningCopy) (renew : Bool) (s : State) : ((takeCopy c renew s).1).ssq = s.ssq :=
  takeCopy_changes c renew s .ssq (by decide)
@[simp] theorem takeCopy_crg (c : GoverningCopy) (renew : Bool) (s : State) : ((takeCopy c renew s).1).crg = s.crg :=
  takeCopy_changes c renew s .crg (by decide)
@[simp] theorem takeCopy_fls (c : GoverningCopy) (renew : Bool) (s : State) : ((takeCopy c renew s).1).fls = s.fls :=
  takeCopy_changes c renew s .fls (by decide)
@[simp] theorem takeCopy_rtb (c : GoverningCopy) (renew : Bool) (s : State) : ((takeCopy c renew s).1).rtb = s.rtb :=
  takeCopy_changes c renew s .rtb (by decide)
@[simp] theorem takeCopy_rct (c : GoverningCopy) (renew : Bool) (s : State) : ((takeCopy c renew s).1).rct = s.rct :=
  takeCopy_changes c renew s .rct (by decide)
@[simp] theorem takeCopy_ntu (c : GoverningCopy) (renew : Bool) (s : State) : ((takeCopy c renew s).1).ntu = s.ntu :=
  takeCopy_changes c renew s .ntu (by decide)
@[simp] theorem takeCopy_wcu (c : GoverningCopy) (renew : Bool) (s : State) : ((takeCopy c renew s).1).wcu = s.wcu :=
  takeCopy_changes c renew s .wcu (by decide)
@[simp] theorem takeCopy_trc (c : GoverningCopy) (renew : Bool) (s : State) : ((takeCopy c renew s).1).trc = s.trc :=
  takeCopy_changes c renew s .trc (by decide)
@[simp] theorem takeCopy_lnk (c : GoverningCopy) (renew : Bool) (s : State) : ((takeCopy c renew s).1).lnk = s.lnk :=
  takeCopy_changes c renew s .lnk (by decide)
@[simp] theorem takeCopy_sst (c : GoverningCopy) (renew : Bool) (s : State) : ((takeCopy c renew s).1).sst = s.sst :=
  takeCopy_changes c renew s .sst (by decide)
@[simp] theorem takeCopy_params (c : GoverningCopy) (renew : Bool) (s : State) : ((takeCopy c renew s).1).params = s.params :=
  takeCopy_changes c renew s .params (by decide)
@[simp] theorem takeCopy_pins (c : GoverningCopy) (renew : Bool) (s : State) : ((takeCopy c renew s).1).pins = s.pins :=
  takeCopy_changes c renew s .pins (by decide)
@[simp] theorem takeCopy_orders (c : GoverningCopy) (renew : Bool) (s : State) : ((takeCopy c renew s).1).orders = s.orders :=
  takeCopy_changes c renew s .orders (by decide)
@[simp] theorem takeCopy_freeCount (c : GoverningCopy) (renew : Bool) (s : State) : ((takeCopy c renew s).1).freeCount = s.freeCount :=
  takeCopy_changes c renew s .freeCount (by decide)
@[simp] theorem takeCopy_pending (c : GoverningCopy) (renew : Bool) (s : State) : ((takeCopy c renew s).1).pending = s.pending :=
  takeCopy_changes c renew s .pending (by decide)

/-- A search with its copy. -/
theorem searchAndTake_changes (k : Kind) (band : Nat) (renew : Bool) (s : State) : Changes [.dgv, .atr, .rtb] s ((searchAndTake k band renew s).1) := by
  exact ((markEntry_changes _ _ s).mono (by simp)).trans ((takeCopy_changes _ _ _).mono (by simp))

@[simp] theorem searchAndTake_mfe (k : Kind) (band : Nat) (renew : Bool) (s : State) : ((searchAndTake k band renew s).1).mfe = s.mfe :=
  searchAndTake_changes k band renew s .mfe (by decide)
@[simp] theorem searchAndTake_ffb (k : Kind) (band : Nat) (renew : Bool) (s : State) : ((searchAndTake k band renew s).1).ffb = s.ffb :=
  searchAndTake_changes k band renew s .ffb (by decide)
@[simp] theorem searchAndTake_ssq (k : Kind) (band : Nat) (renew : Bool) (s : State) : ((searchAndTake k band renew s).1).ssq = s.ssq :=
  searchAndTake_changes k band renew s .ssq (by decide)
@[simp] theorem searchAndTake_crg (k : Kind) (band : Nat) (renew : Bool) (s : State) : ((searchAndTake k band renew s).1).crg = s.crg :=
  searchAndTake_changes k band renew s .crg (by decide)
@[simp] theorem searchAndTake_fls (k : Kind) (band : Nat) (renew : Bool) (s : State) : ((searchAndTake k band renew s).1).fls = s.fls :=
  searchAndTake_changes k band renew s .fls (by decide)
@[simp] theorem searchAndTake_rct (k : Kind) (band : Nat) (renew : Bool) (s : State) : ((searchAndTake k band renew s).1).rct = s.rct :=
  searchAndTake_changes k band renew s .rct (by decide)
@[simp] theorem searchAndTake_ntu (k : Kind) (band : Nat) (renew : Bool) (s : State) : ((searchAndTake k band renew s).1).ntu = s.ntu :=
  searchAndTake_changes k band renew s .ntu (by decide)
@[simp] theorem searchAndTake_wcu (k : Kind) (band : Nat) (renew : Bool) (s : State) : ((searchAndTake k band renew s).1).wcu = s.wcu :=
  searchAndTake_changes k band renew s .wcu (by decide)
@[simp] theorem searchAndTake_trc (k : Kind) (band : Nat) (renew : Bool) (s : State) : ((searchAndTake k band renew s).1).trc = s.trc :=
  searchAndTake_changes k band renew s .trc (by decide)
@[simp] theorem searchAndTake_lnk (k : Kind) (band : Nat) (renew : Bool) (s : State) : ((searchAndTake k band renew s).1).lnk = s.lnk :=
  searchAndTake_changes k band renew s .lnk (by decide)
@[simp] theorem searchAndTake_sst (k : Kind) (band : Nat) (renew : Bool) (s : State) : ((searchAndTake k band renew s).1).sst = s.sst :=
  searchAndTake_changes k band renew s .sst (by decide)
@[simp] theorem searchAndTake_params (k : Kind) (band : Nat) (renew : Bool) (s : State) : ((searchAndTake k band renew s).1).params = s.params :=
  searchAndTake_changes k band renew s .params (by decide)
@[simp] theorem searchAndTake_pins (k : Kind) (band : Nat) (renew : Bool) (s : State) : ((searchAndTake k band renew s).1).pins = s.pins :=
  searchAndTake_changes k band renew s .pins (by decide)
@[simp] theorem searchAndTake_orders (k : Kind) (band : Nat) (renew : Bool) (s : State) : ((searchAndTake k band renew s).1).orders = s.orders :=
  searchAndTake_changes k band renew s .orders (by decide)
@[simp] theorem searchAndTake_freeCount (k : Kind) (band : Nat) (renew : Bool) (s : State) : ((searchAndTake k band renew s).1).freeCount = s.freeCount :=
  searchAndTake_changes k band renew s .freeCount (by decide)
@[simp] theorem searchAndTake_pending (k : Kind) (band : Nat) (renew : Bool) (s : State) : ((searchAndTake k band renew s).1).pending = s.pending :=
  searchAndTake_changes k band renew s .pending (by decide)

/-- A tripped repeat test. -/
theorem tripRepeat_changes (s : State) : Changes [.dgv, .ntu, .trc] s ((tripRepeat s).1) := by
  refine Changes.trans (Changes.trans ?_ ((Changes.withDgv (occur .episodeOnset _) _).mono (by simp)))
    ((clearRun_changes _).mono (by simp))
  exact Changes.occur _ ((changeOngoing_changes _ s).mono (by simp)) (by simp)

@[simp] theorem tripRepeat_mfe (s : State) : ((tripRepeat s).1).mfe = s.mfe :=
  tripRepeat_changes s .mfe (by decide)
@[simp] theorem tripRepeat_ffb (s : State) : ((tripRepeat s).1).ffb = s.ffb :=
  tripRepeat_changes s .ffb (by decide)
@[simp] theorem tripRepeat_atr (s : State) : ((tripRepeat s).1).atr = s.atr :=
  tripRepeat_changes s .atr (by decide)
@[simp] theorem tripRepeat_ssq (s : State) : ((tripRepeat s).1).ssq = s.ssq :=
  tripRepeat_changes s .ssq (by decide)
@[simp] theorem tripRepeat_crg (s : State) : ((tripRepeat s).1).crg = s.crg :=
  tripRepeat_changes s .crg (by decide)
@[simp] theorem tripRepeat_fls (s : State) : ((tripRepeat s).1).fls = s.fls :=
  tripRepeat_changes s .fls (by decide)
@[simp] theorem tripRepeat_rtb (s : State) : ((tripRepeat s).1).rtb = s.rtb :=
  tripRepeat_changes s .rtb (by decide)
@[simp] theorem tripRepeat_rct (s : State) : ((tripRepeat s).1).rct = s.rct :=
  tripRepeat_changes s .rct (by decide)
@[simp] theorem tripRepeat_wcu (s : State) : ((tripRepeat s).1).wcu = s.wcu :=
  tripRepeat_changes s .wcu (by decide)
@[simp] theorem tripRepeat_lnk (s : State) : ((tripRepeat s).1).lnk = s.lnk :=
  tripRepeat_changes s .lnk (by decide)
@[simp] theorem tripRepeat_sst (s : State) : ((tripRepeat s).1).sst = s.sst :=
  tripRepeat_changes s .sst (by decide)
@[simp] theorem tripRepeat_params (s : State) : ((tripRepeat s).1).params = s.params :=
  tripRepeat_changes s .params (by decide)
@[simp] theorem tripRepeat_pins (s : State) : ((tripRepeat s).1).pins = s.pins :=
  tripRepeat_changes s .pins (by decide)
@[simp] theorem tripRepeat_orders (s : State) : ((tripRepeat s).1).orders = s.orders :=
  tripRepeat_changes s .orders (by decide)
@[simp] theorem tripRepeat_freeCount (s : State) : ((tripRepeat s).1).freeCount = s.freeCount :=
  tripRepeat_changes s .freeCount (by decide)
@[simp] theorem tripRepeat_pending (s : State) : ((tripRepeat s).1).pending = s.pending :=
  tripRepeat_changes s .pending (by decide)

/-- An onset. -/
theorem onset_changes (u : AngleUpdate) (s : State) : Changes [.dgv, .atr, .rtb, .ntu, .trc] s ((onset u s).1) := by
  unfold onset
  dsimp only
  refine Changes.ite_fst ?_ ?_
  · exact ((Changes.withDgv s _).mono (by simp)).trans ((tripRepeat_changes _).mono (by simp))
  · refine Changes.occur _ ?_ (by simp)
    exact (((Changes.withDgv s _).trans (Changes.withDgv _ _)).mono (by simp)).trans
      ((searchAndTake_changes _ _ _ _).mono (by simp))

@[simp] theorem onset_mfe (u : AngleUpdate) (s : State) : ((onset u s).1).mfe = s.mfe :=
  onset_changes u s .mfe (by decide)
@[simp] theorem onset_ffb (u : AngleUpdate) (s : State) : ((onset u s).1).ffb = s.ffb :=
  onset_changes u s .ffb (by decide)
@[simp] theorem onset_ssq (u : AngleUpdate) (s : State) : ((onset u s).1).ssq = s.ssq :=
  onset_changes u s .ssq (by decide)
@[simp] theorem onset_crg (u : AngleUpdate) (s : State) : ((onset u s).1).crg = s.crg :=
  onset_changes u s .crg (by decide)
@[simp] theorem onset_fls (u : AngleUpdate) (s : State) : ((onset u s).1).fls = s.fls :=
  onset_changes u s .fls (by decide)
@[simp] theorem onset_rct (u : AngleUpdate) (s : State) : ((onset u s).1).rct = s.rct :=
  onset_changes u s .rct (by decide)
@[simp] theorem onset_wcu (u : AngleUpdate) (s : State) : ((onset u s).1).wcu = s.wcu :=
  onset_changes u s .wcu (by decide)
@[simp] theorem onset_lnk (u : AngleUpdate) (s : State) : ((onset u s).1).lnk = s.lnk :=
  onset_changes u s .lnk (by decide)
@[simp] theorem onset_sst (u : AngleUpdate) (s : State) : ((onset u s).1).sst = s.sst :=
  onset_changes u s .sst (by decide)
@[simp] theorem onset_params (u : AngleUpdate) (s : State) : ((onset u s).1).params = s.params :=
  onset_changes u s .params (by decide)
@[simp] theorem onset_pins (u : AngleUpdate) (s : State) : ((onset u s).1).pins = s.pins :=
  onset_changes u s .pins (by decide)
@[simp] theorem onset_orders (u : AngleUpdate) (s : State) : ((onset u s).1).orders = s.orders :=
  onset_changes u s .orders (by decide)
@[simp] theorem onset_freeCount (u : AngleUpdate) (s : State) : ((onset u s).1).freeCount = s.freeCount :=
  onset_changes u s .freeCount (by decide)
@[simp] theorem onset_pending (u : AngleUpdate) (s : State) : ((onset u s).1).pending = s.pending :=
  onset_changes u s .pending (by decide)

/-- An escalation. -/
theorem escalate_changes (u : AngleUpdate) (s : State) : Changes [.dgv, .atr, .rtb, .ntu, .trc] s ((escalate u s).1) := by
  unfold escalate
  dsimp only
  refine Changes.ite_fst ?_ (Changes.refl _ s)
  refine Changes.occur _ ?_ (by simp)
  exact (((Changes.withDgv s _).trans (changeOngoing_changes _ _)).mono (by simp)).trans
    ((searchAndTake_changes _ _ _ _).mono (by simp))

@[simp] theorem escalate_mfe (u : AngleUpdate) (s : State) : ((escalate u s).1).mfe = s.mfe :=
  escalate_changes u s .mfe (by decide)
@[simp] theorem escalate_ffb (u : AngleUpdate) (s : State) : ((escalate u s).1).ffb = s.ffb :=
  escalate_changes u s .ffb (by decide)
@[simp] theorem escalate_ssq (u : AngleUpdate) (s : State) : ((escalate u s).1).ssq = s.ssq :=
  escalate_changes u s .ssq (by decide)
@[simp] theorem escalate_crg (u : AngleUpdate) (s : State) : ((escalate u s).1).crg = s.crg :=
  escalate_changes u s .crg (by decide)
@[simp] theorem escalate_fls (u : AngleUpdate) (s : State) : ((escalate u s).1).fls = s.fls :=
  escalate_changes u s .fls (by decide)
@[simp] theorem escalate_rct (u : AngleUpdate) (s : State) : ((escalate u s).1).rct = s.rct :=
  escalate_changes u s .rct (by decide)
@[simp] theorem escalate_wcu (u : AngleUpdate) (s : State) : ((escalate u s).1).wcu = s.wcu :=
  escalate_changes u s .wcu (by decide)
@[simp] theorem escalate_lnk (u : AngleUpdate) (s : State) : ((escalate u s).1).lnk = s.lnk :=
  escalate_changes u s .lnk (by decide)
@[simp] theorem escalate_sst (u : AngleUpdate) (s : State) : ((escalate u s).1).sst = s.sst :=
  escalate_changes u s .sst (by decide)
@[simp] theorem escalate_params (u : AngleUpdate) (s : State) : ((escalate u s).1).params = s.params :=
  escalate_changes u s .params (by decide)
@[simp] theorem escalate_pins (u : AngleUpdate) (s : State) : ((escalate u s).1).pins = s.pins :=
  escalate_changes u s .pins (by decide)
@[simp] theorem escalate_orders (u : AngleUpdate) (s : State) : ((escalate u s).1).orders = s.orders :=
  escalate_changes u s .orders (by decide)
@[simp] theorem escalate_freeCount (u : AngleUpdate) (s : State) : ((escalate u s).1).freeCount = s.freeCount :=
  escalate_changes u s .freeCount (by decide)
@[simp] theorem escalate_pending (u : AngleUpdate) (s : State) : ((escalate u s).1).pending = s.pending :=
  escalate_changes u s .pending (by decide)

/-- An expiry of the hold. -/
theorem expire_changes (s : State) : Changes [.dgv, .ntu, .trc] s ((expire s).1) := by
  have h1 : Changes [.dgv, .ntu, .trc] s
      (changeOngoing (fun r => { r with expired := true }) (s.withDgv { s.dgv with expired := true })) :=
    ((Changes.withDgv s _).trans (changeOngoing_changes _ _)).mono (by simp)
  unfold expire
  dsimp only
  split
  · split
    · exact h1
    · exact Changes.occur _ (h1.trans ((raiseBlock_changes _).mono (by simp))) (by simp)
  · exact h1

@[simp] theorem expire_mfe (s : State) : ((expire s).1).mfe = s.mfe :=
  expire_changes s .mfe (by decide)
@[simp] theorem expire_ffb (s : State) : ((expire s).1).ffb = s.ffb :=
  expire_changes s .ffb (by decide)
@[simp] theorem expire_atr (s : State) : ((expire s).1).atr = s.atr :=
  expire_changes s .atr (by decide)
@[simp] theorem expire_ssq (s : State) : ((expire s).1).ssq = s.ssq :=
  expire_changes s .ssq (by decide)
@[simp] theorem expire_crg (s : State) : ((expire s).1).crg = s.crg :=
  expire_changes s .crg (by decide)
@[simp] theorem expire_fls (s : State) : ((expire s).1).fls = s.fls :=
  expire_changes s .fls (by decide)
@[simp] theorem expire_rtb (s : State) : ((expire s).1).rtb = s.rtb :=
  expire_changes s .rtb (by decide)
@[simp] theorem expire_rct (s : State) : ((expire s).1).rct = s.rct :=
  expire_changes s .rct (by decide)
@[simp] theorem expire_wcu (s : State) : ((expire s).1).wcu = s.wcu :=
  expire_changes s .wcu (by decide)
@[simp] theorem expire_lnk (s : State) : ((expire s).1).lnk = s.lnk :=
  expire_changes s .lnk (by decide)
@[simp] theorem expire_sst (s : State) : ((expire s).1).sst = s.sst :=
  expire_changes s .sst (by decide)
@[simp] theorem expire_params (s : State) : ((expire s).1).params = s.params :=
  expire_changes s .params (by decide)
@[simp] theorem expire_pins (s : State) : ((expire s).1).pins = s.pins :=
  expire_changes s .pins (by decide)
@[simp] theorem expire_orders (s : State) : ((expire s).1).orders = s.orders :=
  expire_changes s .orders (by decide)
@[simp] theorem expire_freeCount (s : State) : ((expire s).1).freeCount = s.freeCount :=
  expire_changes s .freeCount (by decide)
@[simp] theorem expire_pending (s : State) : ((expire s).1).pending = s.pending :=
  expire_changes s .pending (by decide)

/-- A clear. -/
theorem clearEpisode_changes (u : AngleUpdate) (s : State) : Changes [.dgv, .atr, .rtb, .ntu, .trc] s (clearEpisode u s) := by
  refine Changes.occur _ ?_ (by simp)
  refine Changes.trans (Changes.trans ?_ ((Changes.withAtr _ _).mono (by simp))) ((Changes.withDgv _ _).mono (by simp))
  exact ((changeOngoing_changes _ s).mono (by simp)).trans ((markEntry_changes _ _ _).mono (by simp))

@[simp] theorem clearEpisode_mfe (u : AngleUpdate) (s : State) : (clearEpisode u s).mfe = s.mfe :=
  clearEpisode_changes u s .mfe (by decide)
@[simp] theorem clearEpisode_ffb (u : AngleUpdate) (s : State) : (clearEpisode u s).ffb = s.ffb :=
  clearEpisode_changes u s .ffb (by decide)
@[simp] theorem clearEpisode_ssq (u : AngleUpdate) (s : State) : (clearEpisode u s).ssq = s.ssq :=
  clearEpisode_changes u s .ssq (by decide)
@[simp] theorem clearEpisode_crg (u : AngleUpdate) (s : State) : (clearEpisode u s).crg = s.crg :=
  clearEpisode_changes u s .crg (by decide)
@[simp] theorem clearEpisode_fls (u : AngleUpdate) (s : State) : (clearEpisode u s).fls = s.fls :=
  clearEpisode_changes u s .fls (by decide)
@[simp] theorem clearEpisode_rct (u : AngleUpdate) (s : State) : (clearEpisode u s).rct = s.rct :=
  clearEpisode_changes u s .rct (by decide)
@[simp] theorem clearEpisode_wcu (u : AngleUpdate) (s : State) : (clearEpisode u s).wcu = s.wcu :=
  clearEpisode_changes u s .wcu (by decide)
@[simp] theorem clearEpisode_lnk (u : AngleUpdate) (s : State) : (clearEpisode u s).lnk = s.lnk :=
  clearEpisode_changes u s .lnk (by decide)
@[simp] theorem clearEpisode_sst (u : AngleUpdate) (s : State) : (clearEpisode u s).sst = s.sst :=
  clearEpisode_changes u s .sst (by decide)
@[simp] theorem clearEpisode_params (u : AngleUpdate) (s : State) : (clearEpisode u s).params = s.params :=
  clearEpisode_changes u s .params (by decide)
@[simp] theorem clearEpisode_pins (u : AngleUpdate) (s : State) : (clearEpisode u s).pins = s.pins :=
  clearEpisode_changes u s .pins (by decide)
@[simp] theorem clearEpisode_orders (u : AngleUpdate) (s : State) : (clearEpisode u s).orders = s.orders :=
  clearEpisode_changes u s .orders (by decide)
@[simp] theorem clearEpisode_freeCount (u : AngleUpdate) (s : State) : (clearEpisode u s).freeCount = s.freeCount :=
  clearEpisode_changes u s .freeCount (by decide)
@[simp] theorem clearEpisode_pending (u : AngleUpdate) (s : State) : (clearEpisode u s).pending = s.pending :=
  clearEpisode_changes u s .pending (by decide)

/-- A recovery's end. -/
theorem endRecovery_changes (s : State) : Changes [.dgv, .ntu, .trc] s (endRecovery s) := by
  exact Changes.occur _ ((Changes.withDgv s _).mono (by simp)) (by simp)

@[simp] theorem endRecovery_mfe (s : State) : (endRecovery s).mfe = s.mfe :=
  endRecovery_changes s .mfe (by decide)
@[simp] theorem endRecovery_ffb (s : State) : (endRecovery s).ffb = s.ffb :=
  endRecovery_changes s .ffb (by decide)
@[simp] theorem endRecovery_atr (s : State) : (endRecovery s).atr = s.atr :=
  endRecovery_changes s .atr (by decide)
@[simp] theorem endRecovery_ssq (s : State) : (endRecovery s).ssq = s.ssq :=
  endRecovery_changes s .ssq (by decide)
@[simp] theorem endRecovery_crg (s : State) : (endRecovery s).crg = s.crg :=
  endRecovery_changes s .crg (by decide)
@[simp] theorem endRecovery_fls (s : State) : (endRecovery s).fls = s.fls :=
  endRecovery_changes s .fls (by decide)
@[simp] theorem endRecovery_rtb (s : State) : (endRecovery s).rtb = s.rtb :=
  endRecovery_changes s .rtb (by decide)
@[simp] theorem endRecovery_rct (s : State) : (endRecovery s).rct = s.rct :=
  endRecovery_changes s .rct (by decide)
@[simp] theorem endRecovery_wcu (s : State) : (endRecovery s).wcu = s.wcu :=
  endRecovery_changes s .wcu (by decide)
@[simp] theorem endRecovery_lnk (s : State) : (endRecovery s).lnk = s.lnk :=
  endRecovery_changes s .lnk (by decide)
@[simp] theorem endRecovery_sst (s : State) : (endRecovery s).sst = s.sst :=
  endRecovery_changes s .sst (by decide)
@[simp] theorem endRecovery_params (s : State) : (endRecovery s).params = s.params :=
  endRecovery_changes s .params (by decide)
@[simp] theorem endRecovery_pins (s : State) : (endRecovery s).pins = s.pins :=
  endRecovery_changes s .pins (by decide)
@[simp] theorem endRecovery_orders (s : State) : (endRecovery s).orders = s.orders :=
  endRecovery_changes s .orders (by decide)
@[simp] theorem endRecovery_freeCount (s : State) : (endRecovery s).freeCount = s.freeCount :=
  endRecovery_changes s .freeCount (by decide)
@[simp] theorem endRecovery_pending (s : State) : (endRecovery s).pending = s.pending :=
  endRecovery_changes s .pending (by decide)

/-- A close. -/
theorem closeList_changes (s : State) : Changes [.fls, .ntu, .trc] s (closeList s).1 := by
  intro f hf; cases f <;> first | (simp [Field.same]; done) | (exact absurd (by simp) hf)

/-- A risen union taken. -/
theorem takeClose_changes (s : State) : Changes [.fls, .ntu, .trc] s ((takeClose s).1) := by
  exact Changes.ite_fst (closeList_changes s) (Changes.refl _ s)

@[simp] theorem takeClose_mfe (s : State) : ((takeClose s).1).mfe = s.mfe :=
  takeClose_changes s .mfe (by decide)
@[simp] theorem takeClose_ffb (s : State) : ((takeClose s).1).ffb = s.ffb :=
  takeClose_changes s .ffb (by decide)
@[simp] theorem takeClose_atr (s : State) : ((takeClose s).1).atr = s.atr :=
  takeClose_changes s .atr (by decide)
@[simp] theorem takeClose_ssq (s : State) : ((takeClose s).1).ssq = s.ssq :=
  takeClose_changes s .ssq (by decide)
@[simp] theorem takeClose_crg (s : State) : ((takeClose s).1).crg = s.crg :=
  takeClose_changes s .crg (by decide)
@[simp] theorem takeClose_dgv (s : State) : ((takeClose s).1).dgv = s.dgv :=
  takeClose_changes s .dgv (by decide)
@[simp] theorem takeClose_rtb (s : State) : ((takeClose s).1).rtb = s.rtb :=
  takeClose_changes s .rtb (by decide)
@[simp] theorem takeClose_rct (s : State) : ((takeClose s).1).rct = s.rct :=
  takeClose_changes s .rct (by decide)
@[simp] theorem takeClose_wcu (s : State) : ((takeClose s).1).wcu = s.wcu :=
  takeClose_changes s .wcu (by decide)
@[simp] theorem takeClose_lnk (s : State) : ((takeClose s).1).lnk = s.lnk :=
  takeClose_changes s .lnk (by decide)
@[simp] theorem takeClose_sst (s : State) : ((takeClose s).1).sst = s.sst :=
  takeClose_changes s .sst (by decide)
@[simp] theorem takeClose_params (s : State) : ((takeClose s).1).params = s.params :=
  takeClose_changes s .params (by decide)
@[simp] theorem takeClose_pins (s : State) : ((takeClose s).1).pins = s.pins :=
  takeClose_changes s .pins (by decide)
@[simp] theorem takeClose_orders (s : State) : ((takeClose s).1).orders = s.orders :=
  takeClose_changes s .orders (by decide)
@[simp] theorem takeClose_freeCount (s : State) : ((takeClose s).1).freeCount = s.freeCount :=
  takeClose_changes s .freeCount (by decide)
@[simp] theorem takeClose_pending (s : State) : ((takeClose s).1).pending = s.pending :=
  takeClose_changes s .pending (by decide)

/-- A clear with what has risen before it. -/
theorem takeClear_changes (u : AngleUpdate) (s : State) : Changes [.fls, .dgv, .atr, .rtb, .ntu, .trc] s ((takeClear u s).1) := by
  exact ((takeClose_changes s).mono (by simp)).trans ((clearEpisode_changes u _).mono (by simp))

@[simp] theorem takeClear_mfe (u : AngleUpdate) (s : State) : ((takeClear u s).1).mfe = s.mfe :=
  takeClear_changes u s .mfe (by decide)
@[simp] theorem takeClear_ffb (u : AngleUpdate) (s : State) : ((takeClear u s).1).ffb = s.ffb :=
  takeClear_changes u s .ffb (by decide)
@[simp] theorem takeClear_ssq (u : AngleUpdate) (s : State) : ((takeClear u s).1).ssq = s.ssq :=
  takeClear_changes u s .ssq (by decide)
@[simp] theorem takeClear_crg (u : AngleUpdate) (s : State) : ((takeClear u s).1).crg = s.crg :=
  takeClear_changes u s .crg (by decide)
@[simp] theorem takeClear_rct (u : AngleUpdate) (s : State) : ((takeClear u s).1).rct = s.rct :=
  takeClear_changes u s .rct (by decide)
@[simp] theorem takeClear_wcu (u : AngleUpdate) (s : State) : ((takeClear u s).1).wcu = s.wcu :=
  takeClear_changes u s .wcu (by decide)
@[simp] theorem takeClear_lnk (u : AngleUpdate) (s : State) : ((takeClear u s).1).lnk = s.lnk :=
  takeClear_changes u s .lnk (by decide)
@[simp] theorem takeClear_sst (u : AngleUpdate) (s : State) : ((takeClear u s).1).sst = s.sst :=
  takeClear_changes u s .sst (by decide)
@[simp] theorem takeClear_params (u : AngleUpdate) (s : State) : ((takeClear u s).1).params = s.params :=
  takeClear_changes u s .params (by decide)
@[simp] theorem takeClear_pins (u : AngleUpdate) (s : State) : ((takeClear u s).1).pins = s.pins :=
  takeClear_changes u s .pins (by decide)
@[simp] theorem takeClear_orders (u : AngleUpdate) (s : State) : ((takeClear u s).1).orders = s.orders :=
  takeClear_changes u s .orders (by decide)
@[simp] theorem takeClear_freeCount (u : AngleUpdate) (s : State) : ((takeClear u s).1).freeCount = s.freeCount :=
  takeClear_changes u s .freeCount (by decide)
@[simp] theorem takeClear_pending (u : AngleUpdate) (s : State) : ((takeClear u s).1).pending = s.pending :=
  takeClear_changes u s .pending (by decide)

/-- The clear count. -/
theorem countC_changes (u : AngleUpdate) (s : State) : Changes [.dgv] s (countC u s) := by
  intro f hf; cases f <;> first | rfl | (exact absurd (by simp) hf)

@[simp] theorem countC_mfe (u : AngleUpdate) (s : State) : (countC u s).mfe = s.mfe :=
  countC_changes u s .mfe (by decide)
@[simp] theorem countC_ffb (u : AngleUpdate) (s : State) : (countC u s).ffb = s.ffb :=
  countC_changes u s .ffb (by decide)
@[simp] theorem countC_atr (u : AngleUpdate) (s : State) : (countC u s).atr = s.atr :=
  countC_changes u s .atr (by decide)
@[simp] theorem countC_ssq (u : AngleUpdate) (s : State) : (countC u s).ssq = s.ssq :=
  countC_changes u s .ssq (by decide)
@[simp] theorem countC_crg (u : AngleUpdate) (s : State) : (countC u s).crg = s.crg :=
  countC_changes u s .crg (by decide)
@[simp] theorem countC_fls (u : AngleUpdate) (s : State) : (countC u s).fls = s.fls :=
  countC_changes u s .fls (by decide)
@[simp] theorem countC_rtb (u : AngleUpdate) (s : State) : (countC u s).rtb = s.rtb :=
  countC_changes u s .rtb (by decide)
@[simp] theorem countC_rct (u : AngleUpdate) (s : State) : (countC u s).rct = s.rct :=
  countC_changes u s .rct (by decide)
@[simp] theorem countC_ntu (u : AngleUpdate) (s : State) : (countC u s).ntu = s.ntu :=
  countC_changes u s .ntu (by decide)
@[simp] theorem countC_wcu (u : AngleUpdate) (s : State) : (countC u s).wcu = s.wcu :=
  countC_changes u s .wcu (by decide)
@[simp] theorem countC_trc (u : AngleUpdate) (s : State) : (countC u s).trc = s.trc :=
  countC_changes u s .trc (by decide)
@[simp] theorem countC_lnk (u : AngleUpdate) (s : State) : (countC u s).lnk = s.lnk :=
  countC_changes u s .lnk (by decide)
@[simp] theorem countC_sst (u : AngleUpdate) (s : State) : (countC u s).sst = s.sst :=
  countC_changes u s .sst (by decide)
@[simp] theorem countC_params (u : AngleUpdate) (s : State) : (countC u s).params = s.params :=
  countC_changes u s .params (by decide)
@[simp] theorem countC_pins (u : AngleUpdate) (s : State) : (countC u s).pins = s.pins :=
  countC_changes u s .pins (by decide)
@[simp] theorem countC_orders (u : AngleUpdate) (s : State) : (countC u s).orders = s.orders :=
  countC_changes u s .orders (by decide)
@[simp] theorem countC_freeCount (u : AngleUpdate) (s : State) : (countC u s).freeCount = s.freeCount :=
  countC_changes u s .freeCount (by decide)
@[simp] theorem countC_pending (u : AngleUpdate) (s : State) : (countC u s).pending = s.pending :=
  countC_changes u s .pending (by decide)

/-- The disturbance count. -/
theorem countD_changes (u : AngleUpdate) (s : State) : Changes [.dgv] s (countD u s) := by
  exact Changes.ite (Changes.withDgv s _) (clearRun_changes s)

@[simp] theorem countD_mfe (u : AngleUpdate) (s : State) : (countD u s).mfe = s.mfe :=
  countD_changes u s .mfe (by decide)
@[simp] theorem countD_ffb (u : AngleUpdate) (s : State) : (countD u s).ffb = s.ffb :=
  countD_changes u s .ffb (by decide)
@[simp] theorem countD_atr (u : AngleUpdate) (s : State) : (countD u s).atr = s.atr :=
  countD_changes u s .atr (by decide)
@[simp] theorem countD_ssq (u : AngleUpdate) (s : State) : (countD u s).ssq = s.ssq :=
  countD_changes u s .ssq (by decide)
@[simp] theorem countD_crg (u : AngleUpdate) (s : State) : (countD u s).crg = s.crg :=
  countD_changes u s .crg (by decide)
@[simp] theorem countD_fls (u : AngleUpdate) (s : State) : (countD u s).fls = s.fls :=
  countD_changes u s .fls (by decide)
@[simp] theorem countD_rtb (u : AngleUpdate) (s : State) : (countD u s).rtb = s.rtb :=
  countD_changes u s .rtb (by decide)
@[simp] theorem countD_rct (u : AngleUpdate) (s : State) : (countD u s).rct = s.rct :=
  countD_changes u s .rct (by decide)
@[simp] theorem countD_ntu (u : AngleUpdate) (s : State) : (countD u s).ntu = s.ntu :=
  countD_changes u s .ntu (by decide)
@[simp] theorem countD_wcu (u : AngleUpdate) (s : State) : (countD u s).wcu = s.wcu :=
  countD_changes u s .wcu (by decide)
@[simp] theorem countD_trc (u : AngleUpdate) (s : State) : (countD u s).trc = s.trc :=
  countD_changes u s .trc (by decide)
@[simp] theorem countD_lnk (u : AngleUpdate) (s : State) : (countD u s).lnk = s.lnk :=
  countD_changes u s .lnk (by decide)
@[simp] theorem countD_sst (u : AngleUpdate) (s : State) : (countD u s).sst = s.sst :=
  countD_changes u s .sst (by decide)
@[simp] theorem countD_params (u : AngleUpdate) (s : State) : (countD u s).params = s.params :=
  countD_changes u s .params (by decide)
@[simp] theorem countD_pins (u : AngleUpdate) (s : State) : (countD u s).pins = s.pins :=
  countD_changes u s .pins (by decide)
@[simp] theorem countD_orders (u : AngleUpdate) (s : State) : (countD u s).orders = s.orders :=
  countD_changes u s .orders (by decide)
@[simp] theorem countD_freeCount (u : AngleUpdate) (s : State) : (countD u s).freeCount = s.freeCount :=
  countD_changes u s .freeCount (by decide)
@[simp] theorem countD_pending (u : AngleUpdate) (s : State) : (countD u s).pending = s.pending :=
  countD_changes u s .pending (by decide)

/-- The judgement of an update in EPISODE. -/
theorem judgeEpisode_changes (u : AngleUpdate) (s : State) : Changes [.fls, .dgv, .atr, .rtb, .ntu, .trc] s ((judgeEpisode u s).1) := by
  have h1 : Changes [.fls, .dgv, .atr, .rtb, .ntu, .trc] s (if holdDue u s then expire s else (s, none)).1 :=
    Changes.ite_fst ((expire_changes s).mono (by simp)) (Changes.refl _ s)
  unfold judgeEpisode
  dsimp only
  refine Changes.ite_fst h1 (Changes.ite_fst h1 (Changes.ite_fst ?_ ?_))
  · exact (h1.trans ((countC_changes u _).mono (by simp))).trans (takeClear_changes u _)
  · exact h1.trans ((countC_changes u _).mono (by simp))

@[simp] theorem judgeEpisode_mfe (u : AngleUpdate) (s : State) : ((judgeEpisode u s).1).mfe = s.mfe :=
  judgeEpisode_changes u s .mfe (by decide)
@[simp] theorem judgeEpisode_ffb (u : AngleUpdate) (s : State) : ((judgeEpisode u s).1).ffb = s.ffb :=
  judgeEpisode_changes u s .ffb (by decide)
@[simp] theorem judgeEpisode_ssq (u : AngleUpdate) (s : State) : ((judgeEpisode u s).1).ssq = s.ssq :=
  judgeEpisode_changes u s .ssq (by decide)
@[simp] theorem judgeEpisode_crg (u : AngleUpdate) (s : State) : ((judgeEpisode u s).1).crg = s.crg :=
  judgeEpisode_changes u s .crg (by decide)
@[simp] theorem judgeEpisode_rct (u : AngleUpdate) (s : State) : ((judgeEpisode u s).1).rct = s.rct :=
  judgeEpisode_changes u s .rct (by decide)
@[simp] theorem judgeEpisode_wcu (u : AngleUpdate) (s : State) : ((judgeEpisode u s).1).wcu = s.wcu :=
  judgeEpisode_changes u s .wcu (by decide)
@[simp] theorem judgeEpisode_lnk (u : AngleUpdate) (s : State) : ((judgeEpisode u s).1).lnk = s.lnk :=
  judgeEpisode_changes u s .lnk (by decide)
@[simp] theorem judgeEpisode_sst (u : AngleUpdate) (s : State) : ((judgeEpisode u s).1).sst = s.sst :=
  judgeEpisode_changes u s .sst (by decide)
@[simp] theorem judgeEpisode_params (u : AngleUpdate) (s : State) : ((judgeEpisode u s).1).params = s.params :=
  judgeEpisode_changes u s .params (by decide)
@[simp] theorem judgeEpisode_pins (u : AngleUpdate) (s : State) : ((judgeEpisode u s).1).pins = s.pins :=
  judgeEpisode_changes u s .pins (by decide)
@[simp] theorem judgeEpisode_orders (u : AngleUpdate) (s : State) : ((judgeEpisode u s).1).orders = s.orders :=
  judgeEpisode_changes u s .orders (by decide)
@[simp] theorem judgeEpisode_freeCount (u : AngleUpdate) (s : State) : ((judgeEpisode u s).1).freeCount = s.freeCount :=
  judgeEpisode_changes u s .freeCount (by decide)
@[simp] theorem judgeEpisode_pending (u : AngleUpdate) (s : State) : ((judgeEpisode u s).1).pending = s.pending :=
  judgeEpisode_changes u s .pending (by decide)

/-- An update in EPISODE. -/
theorem episodeStep_changes (u : AngleUpdate) (s : State) : Changes [.fls, .dgv, .atr, .rtb, .ntu, .trc] s ((episodeStep u s).1) := by
  unfold episodeStep
  dsimp only
  have h1 := ((Changes.withDgv s { s.dgv with extremes := some (widen s.dgv.extremes (extremesOf s u)) }).mono
    (gs := [.fls, .dgv, .atr, .rtb, .ntu, .trc]) (by simp)).trans ((escalate_changes u _).mono (by simp))
  exact Changes.ite_fst h1 (h1.trans (judgeEpisode_changes u _))

@[simp] theorem episodeStep_mfe (u : AngleUpdate) (s : State) : ((episodeStep u s).1).mfe = s.mfe :=
  episodeStep_changes u s .mfe (by decide)
@[simp] theorem episodeStep_ffb (u : AngleUpdate) (s : State) : ((episodeStep u s).1).ffb = s.ffb :=
  episodeStep_changes u s .ffb (by decide)
@[simp] theorem episodeStep_ssq (u : AngleUpdate) (s : State) : ((episodeStep u s).1).ssq = s.ssq :=
  episodeStep_changes u s .ssq (by decide)
@[simp] theorem episodeStep_crg (u : AngleUpdate) (s : State) : ((episodeStep u s).1).crg = s.crg :=
  episodeStep_changes u s .crg (by decide)
@[simp] theorem episodeStep_rct (u : AngleUpdate) (s : State) : ((episodeStep u s).1).rct = s.rct :=
  episodeStep_changes u s .rct (by decide)
@[simp] theorem episodeStep_wcu (u : AngleUpdate) (s : State) : ((episodeStep u s).1).wcu = s.wcu :=
  episodeStep_changes u s .wcu (by decide)
@[simp] theorem episodeStep_lnk (u : AngleUpdate) (s : State) : ((episodeStep u s).1).lnk = s.lnk :=
  episodeStep_changes u s .lnk (by decide)
@[simp] theorem episodeStep_sst (u : AngleUpdate) (s : State) : ((episodeStep u s).1).sst = s.sst :=
  episodeStep_changes u s .sst (by decide)
@[simp] theorem episodeStep_params (u : AngleUpdate) (s : State) : ((episodeStep u s).1).params = s.params :=
  episodeStep_changes u s .params (by decide)
@[simp] theorem episodeStep_pins (u : AngleUpdate) (s : State) : ((episodeStep u s).1).pins = s.pins :=
  episodeStep_changes u s .pins (by decide)
@[simp] theorem episodeStep_orders (u : AngleUpdate) (s : State) : ((episodeStep u s).1).orders = s.orders :=
  episodeStep_changes u s .orders (by decide)
@[simp] theorem episodeStep_freeCount (u : AngleUpdate) (s : State) : ((episodeStep u s).1).freeCount = s.freeCount :=
  episodeStep_changes u s .freeCount (by decide)
@[simp] theorem episodeStep_pending (u : AngleUpdate) (s : State) : ((episodeStep u s).1).pending = s.pending :=
  episodeStep_changes u s .pending (by decide)

/-- An update's step in RECOVERY. -/
theorem recoveryStep_changes (s : State) : Changes [.dgv, .ntu, .trc] s (recoveryStep s) := by
  have h1 := (Changes.withDgv s { s.dgv with recovery := s.dgv.recovery + 1 }).mono (gs := [.dgv, .ntu, .trc]) (by simp)
  exact Changes.ite (h1.trans (endRecovery_changes _)) h1

@[simp] theorem recoveryStep_mfe (s : State) : (recoveryStep s).mfe = s.mfe :=
  recoveryStep_changes s .mfe (by decide)
@[simp] theorem recoveryStep_ffb (s : State) : (recoveryStep s).ffb = s.ffb :=
  recoveryStep_changes s .ffb (by decide)
@[simp] theorem recoveryStep_atr (s : State) : (recoveryStep s).atr = s.atr :=
  recoveryStep_changes s .atr (by decide)
@[simp] theorem recoveryStep_ssq (s : State) : (recoveryStep s).ssq = s.ssq :=
  recoveryStep_changes s .ssq (by decide)
@[simp] theorem recoveryStep_crg (s : State) : (recoveryStep s).crg = s.crg :=
  recoveryStep_changes s .crg (by decide)
@[simp] theorem recoveryStep_fls (s : State) : (recoveryStep s).fls = s.fls :=
  recoveryStep_changes s .fls (by decide)
@[simp] theorem recoveryStep_rtb (s : State) : (recoveryStep s).rtb = s.rtb :=
  recoveryStep_changes s .rtb (by decide)
@[simp] theorem recoveryStep_rct (s : State) : (recoveryStep s).rct = s.rct :=
  recoveryStep_changes s .rct (by decide)
@[simp] theorem recoveryStep_wcu (s : State) : (recoveryStep s).wcu = s.wcu :=
  recoveryStep_changes s .wcu (by decide)
@[simp] theorem recoveryStep_lnk (s : State) : (recoveryStep s).lnk = s.lnk :=
  recoveryStep_changes s .lnk (by decide)
@[simp] theorem recoveryStep_sst (s : State) : (recoveryStep s).sst = s.sst :=
  recoveryStep_changes s .sst (by decide)
@[simp] theorem recoveryStep_params (s : State) : (recoveryStep s).params = s.params :=
  recoveryStep_changes s .params (by decide)
@[simp] theorem recoveryStep_pins (s : State) : (recoveryStep s).pins = s.pins :=
  recoveryStep_changes s .pins (by decide)
@[simp] theorem recoveryStep_orders (s : State) : (recoveryStep s).orders = s.orders :=
  recoveryStep_changes s .orders (by decide)
@[simp] theorem recoveryStep_freeCount (s : State) : (recoveryStep s).freeCount = s.freeCount :=
  recoveryStep_changes s .freeCount (by decide)
@[simp] theorem recoveryStep_pending (s : State) : (recoveryStep s).pending = s.pending :=
  recoveryStep_changes s .pending (by decide)

/-- An update in STEADY or RECOVERY. -/
theorem quietStep_changes (u : AngleUpdate) (s : State) : Changes [.dgv, .atr, .rtb, .ntu, .trc] s ((quietStep u s).1) := by
  have h1 := (countD_changes u s).mono (gs := [.dgv, .atr, .rtb, .ntu, .trc]) (by simp)
  unfold quietStep
  dsimp only
  exact Changes.ite_fst (h1.trans (onset_changes u _))
    (Changes.ite_fst (h1.trans ((recoveryStep_changes _).mono (by simp))) h1)

@[simp] theorem quietStep_mfe (u : AngleUpdate) (s : State) : ((quietStep u s).1).mfe = s.mfe :=
  quietStep_changes u s .mfe (by decide)
@[simp] theorem quietStep_ffb (u : AngleUpdate) (s : State) : ((quietStep u s).1).ffb = s.ffb :=
  quietStep_changes u s .ffb (by decide)
@[simp] theorem quietStep_ssq (u : AngleUpdate) (s : State) : ((quietStep u s).1).ssq = s.ssq :=
  quietStep_changes u s .ssq (by decide)
@[simp] theorem quietStep_crg (u : AngleUpdate) (s : State) : ((quietStep u s).1).crg = s.crg :=
  quietStep_changes u s .crg (by decide)
@[simp] theorem quietStep_fls (u : AngleUpdate) (s : State) : ((quietStep u s).1).fls = s.fls :=
  quietStep_changes u s .fls (by decide)
@[simp] theorem quietStep_rct (u : AngleUpdate) (s : State) : ((quietStep u s).1).rct = s.rct :=
  quietStep_changes u s .rct (by decide)
@[simp] theorem quietStep_wcu (u : AngleUpdate) (s : State) : ((quietStep u s).1).wcu = s.wcu :=
  quietStep_changes u s .wcu (by decide)
@[simp] theorem quietStep_lnk (u : AngleUpdate) (s : State) : ((quietStep u s).1).lnk = s.lnk :=
  quietStep_changes u s .lnk (by decide)
@[simp] theorem quietStep_sst (u : AngleUpdate) (s : State) : ((quietStep u s).1).sst = s.sst :=
  quietStep_changes u s .sst (by decide)
@[simp] theorem quietStep_params (u : AngleUpdate) (s : State) : ((quietStep u s).1).params = s.params :=
  quietStep_changes u s .params (by decide)
@[simp] theorem quietStep_pins (u : AngleUpdate) (s : State) : ((quietStep u s).1).pins = s.pins :=
  quietStep_changes u s .pins (by decide)
@[simp] theorem quietStep_orders (u : AngleUpdate) (s : State) : ((quietStep u s).1).orders = s.orders :=
  quietStep_changes u s .orders (by decide)
@[simp] theorem quietStep_freeCount (u : AngleUpdate) (s : State) : ((quietStep u s).1).freeCount = s.freeCount :=
  quietStep_changes u s .freeCount (by decide)
@[simp] theorem quietStep_pending (u : AngleUpdate) (s : State) : ((quietStep u s).1).pending = s.pending :=
  quietStep_changes u s .pending (by decide)

/-- An angle update taken by the governor. -/
theorem governorStep_changes (u : AngleUpdate) (s : State) : Changes [.fls, .dgv, .atr, .rtb, .ntu, .trc] s ((governorStep u s).1) := by
  exact Changes.ite_fst (Changes.ite_fst (episodeStep_changes u s) ((quietStep_changes u s).mono (by simp))) (Changes.refl _ s)

@[simp] theorem governorStep_mfe (u : AngleUpdate) (s : State) : ((governorStep u s).1).mfe = s.mfe :=
  governorStep_changes u s .mfe (by decide)
@[simp] theorem governorStep_ffb (u : AngleUpdate) (s : State) : ((governorStep u s).1).ffb = s.ffb :=
  governorStep_changes u s .ffb (by decide)
@[simp] theorem governorStep_ssq (u : AngleUpdate) (s : State) : ((governorStep u s).1).ssq = s.ssq :=
  governorStep_changes u s .ssq (by decide)
@[simp] theorem governorStep_crg (u : AngleUpdate) (s : State) : ((governorStep u s).1).crg = s.crg :=
  governorStep_changes u s .crg (by decide)
@[simp] theorem governorStep_rct (u : AngleUpdate) (s : State) : ((governorStep u s).1).rct = s.rct :=
  governorStep_changes u s .rct (by decide)
@[simp] theorem governorStep_wcu (u : AngleUpdate) (s : State) : ((governorStep u s).1).wcu = s.wcu :=
  governorStep_changes u s .wcu (by decide)
@[simp] theorem governorStep_lnk (u : AngleUpdate) (s : State) : ((governorStep u s).1).lnk = s.lnk :=
  governorStep_changes u s .lnk (by decide)
@[simp] theorem governorStep_sst (u : AngleUpdate) (s : State) : ((governorStep u s).1).sst = s.sst :=
  governorStep_changes u s .sst (by decide)
@[simp] theorem governorStep_params (u : AngleUpdate) (s : State) : ((governorStep u s).1).params = s.params :=
  governorStep_changes u s .params (by decide)
@[simp] theorem governorStep_pins (u : AngleUpdate) (s : State) : ((governorStep u s).1).pins = s.pins :=
  governorStep_changes u s .pins (by decide)
@[simp] theorem governorStep_orders (u : AngleUpdate) (s : State) : ((governorStep u s).1).orders = s.orders :=
  governorStep_changes u s .orders (by decide)
@[simp] theorem governorStep_freeCount (u : AngleUpdate) (s : State) : ((governorStep u s).1).freeCount = s.freeCount :=
  governorStep_changes u s .freeCount (by decide)
@[simp] theorem governorStep_pending (u : AngleUpdate) (s : State) : ((governorStep u s).1).pending = s.pending :=
  governorStep_changes u s .pending (by decide)

/-- An episode's end with the run. -/
theorem endEpisode_changes (s : State) : Changes [.dgv, .rtb] s (endEpisode s) := by
  unfold endEpisode
  split
  · exact (clearRun_changes s).mono (by simp)
  · dsimp only
    refine Changes.trans ?_ ((Changes.withDgv _ _).mono (by simp))
    refine Changes.ite ?_ (Changes.refl _ s)
    have h1 := (changeOngoing_changes (closeRecord (if endsTripped s then .tripped else .ended) s.mfe.count) s).mono
      (gs := [.dgv, .rtb]) (by simp)
    exact Changes.ite (h1.trans ((markEntry_changes _ _ _).mono (by simp))) h1

@[simp] theorem endEpisode_mfe (s : State) : (endEpisode s).mfe = s.mfe :=
  endEpisode_changes s .mfe (by decide)
@[simp] theorem endEpisode_ffb (s : State) : (endEpisode s).ffb = s.ffb :=
  endEpisode_changes s .ffb (by decide)
@[simp] theorem endEpisode_atr (s : State) : (endEpisode s).atr = s.atr :=
  endEpisode_changes s .atr (by decide)
@[simp] theorem endEpisode_ssq (s : State) : (endEpisode s).ssq = s.ssq :=
  endEpisode_changes s .ssq (by decide)
@[simp] theorem endEpisode_crg (s : State) : (endEpisode s).crg = s.crg :=
  endEpisode_changes s .crg (by decide)
@[simp] theorem endEpisode_fls (s : State) : (endEpisode s).fls = s.fls :=
  endEpisode_changes s .fls (by decide)
@[simp] theorem endEpisode_rct (s : State) : (endEpisode s).rct = s.rct :=
  endEpisode_changes s .rct (by decide)
@[simp] theorem endEpisode_ntu (s : State) : (endEpisode s).ntu = s.ntu :=
  endEpisode_changes s .ntu (by decide)
@[simp] theorem endEpisode_wcu (s : State) : (endEpisode s).wcu = s.wcu :=
  endEpisode_changes s .wcu (by decide)
@[simp] theorem endEpisode_trc (s : State) : (endEpisode s).trc = s.trc :=
  endEpisode_changes s .trc (by decide)
@[simp] theorem endEpisode_lnk (s : State) : (endEpisode s).lnk = s.lnk :=
  endEpisode_changes s .lnk (by decide)
@[simp] theorem endEpisode_sst (s : State) : (endEpisode s).sst = s.sst :=
  endEpisode_changes s .sst (by decide)
@[simp] theorem endEpisode_params (s : State) : (endEpisode s).params = s.params :=
  endEpisode_changes s .params (by decide)
@[simp] theorem endEpisode_pins (s : State) : (endEpisode s).pins = s.pins :=
  endEpisode_changes s .pins (by decide)
@[simp] theorem endEpisode_orders (s : State) : (endEpisode s).orders = s.orders :=
  endEpisode_changes s .orders (by decide)
@[simp] theorem endEpisode_freeCount (s : State) : (endEpisode s).freeCount = s.freeCount :=
  endEpisode_changes s .freeCount (by decide)
@[simp] theorem endEpisode_pending (s : State) : (endEpisode s).pending = s.pending :=
  endEpisode_changes s .pending (by decide)

end Sys2Proof.Machine
end

