-- ==== Sys2Proof/Laws/Run.lean ====
section
/-!
SUPPORT. What the regulator's and the run controller's operations can change (chapters 4 and 8), what taking the union of
block reasons does (R66, R88 to R90), and what a halt and an entry to STANDBY leave (R141, R145, R146).
-/

namespace Sys2Proof.Machine

/-- An event of the regulator. -/
theorem recordPresets_changes (s : State) : Changes [.crg] s (recordPresets s) := by
  intro f hf; cases f <;> first | rfl | (exact absurd (by simp) hf)

@[simp] theorem recordPresets_mfe (s : State) : (recordPresets s).mfe = s.mfe :=
  recordPresets_changes s .mfe (by decide)
@[simp] theorem recordPresets_ffb (s : State) : (recordPresets s).ffb = s.ffb :=
  recordPresets_changes s .ffb (by decide)
@[simp] theorem recordPresets_atr (s : State) : (recordPresets s).atr = s.atr :=
  recordPresets_changes s .atr (by decide)
@[simp] theorem recordPresets_ssq (s : State) : (recordPresets s).ssq = s.ssq :=
  recordPresets_changes s .ssq (by decide)
@[simp] theorem recordPresets_fls (s : State) : (recordPresets s).fls = s.fls :=
  recordPresets_changes s .fls (by decide)
@[simp] theorem recordPresets_dgv (s : State) : (recordPresets s).dgv = s.dgv :=
  recordPresets_changes s .dgv (by decide)
@[simp] theorem recordPresets_rtb (s : State) : (recordPresets s).rtb = s.rtb :=
  recordPresets_changes s .rtb (by decide)
@[simp] theorem recordPresets_rct (s : State) : (recordPresets s).rct = s.rct :=
  recordPresets_changes s .rct (by decide)
@[simp] theorem recordPresets_ntu (s : State) : (recordPresets s).ntu = s.ntu :=
  recordPresets_changes s .ntu (by decide)
@[simp] theorem recordPresets_wcu (s : State) : (recordPresets s).wcu = s.wcu :=
  recordPresets_changes s .wcu (by decide)
@[simp] theorem recordPresets_trc (s : State) : (recordPresets s).trc = s.trc :=
  recordPresets_changes s .trc (by decide)
@[simp] theorem recordPresets_lnk (s : State) : (recordPresets s).lnk = s.lnk :=
  recordPresets_changes s .lnk (by decide)
@[simp] theorem recordPresets_sst (s : State) : (recordPresets s).sst = s.sst :=
  recordPresets_changes s .sst (by decide)
@[simp] theorem recordPresets_params (s : State) : (recordPresets s).params = s.params :=
  recordPresets_changes s .params (by decide)
@[simp] theorem recordPresets_pins (s : State) : (recordPresets s).pins = s.pins :=
  recordPresets_changes s .pins (by decide)
@[simp] theorem recordPresets_orders (s : State) : (recordPresets s).orders = s.orders :=
  recordPresets_changes s .orders (by decide)
@[simp] theorem recordPresets_freeCount (s : State) : (recordPresets s).freeCount = s.freeCount :=
  recordPresets_changes s .freeCount (by decide)
@[simp] theorem recordPresets_pending (s : State) : (recordPresets s).pending = s.pending :=
  recordPresets_changes s .pending (by decide)

/-- An event of the regulator. -/
theorem zeroSetpoints_changes (s : State) : Changes [.crg] s (zeroSetpoints s) := by
  intro f hf; cases f <;> first | rfl | (exact absurd (by simp) hf)

@[simp] theorem zeroSetpoints_mfe (s : State) : (zeroSetpoints s).mfe = s.mfe :=
  zeroSetpoints_changes s .mfe (by decide)
@[simp] theorem zeroSetpoints_ffb (s : State) : (zeroSetpoints s).ffb = s.ffb :=
  zeroSetpoints_changes s .ffb (by decide)
@[simp] theorem zeroSetpoints_atr (s : State) : (zeroSetpoints s).atr = s.atr :=
  zeroSetpoints_changes s .atr (by decide)
@[simp] theorem zeroSetpoints_ssq (s : State) : (zeroSetpoints s).ssq = s.ssq :=
  zeroSetpoints_changes s .ssq (by decide)
@[simp] theorem zeroSetpoints_fls (s : State) : (zeroSetpoints s).fls = s.fls :=
  zeroSetpoints_changes s .fls (by decide)
@[simp] theorem zeroSetpoints_dgv (s : State) : (zeroSetpoints s).dgv = s.dgv :=
  zeroSetpoints_changes s .dgv (by decide)
@[simp] theorem zeroSetpoints_rtb (s : State) : (zeroSetpoints s).rtb = s.rtb :=
  zeroSetpoints_changes s .rtb (by decide)
@[simp] theorem zeroSetpoints_rct (s : State) : (zeroSetpoints s).rct = s.rct :=
  zeroSetpoints_changes s .rct (by decide)
@[simp] theorem zeroSetpoints_ntu (s : State) : (zeroSetpoints s).ntu = s.ntu :=
  zeroSetpoints_changes s .ntu (by decide)
@[simp] theorem zeroSetpoints_wcu (s : State) : (zeroSetpoints s).wcu = s.wcu :=
  zeroSetpoints_changes s .wcu (by decide)
@[simp] theorem zeroSetpoints_trc (s : State) : (zeroSetpoints s).trc = s.trc :=
  zeroSetpoints_changes s .trc (by decide)
@[simp] theorem zeroSetpoints_lnk (s : State) : (zeroSetpoints s).lnk = s.lnk :=
  zeroSetpoints_changes s .lnk (by decide)
@[simp] theorem zeroSetpoints_sst (s : State) : (zeroSetpoints s).sst = s.sst :=
  zeroSetpoints_changes s .sst (by decide)
@[simp] theorem zeroSetpoints_params (s : State) : (zeroSetpoints s).params = s.params :=
  zeroSetpoints_changes s .params (by decide)
@[simp] theorem zeroSetpoints_pins (s : State) : (zeroSetpoints s).pins = s.pins :=
  zeroSetpoints_changes s .pins (by decide)
@[simp] theorem zeroSetpoints_orders (s : State) : (zeroSetpoints s).orders = s.orders :=
  zeroSetpoints_changes s .orders (by decide)
@[simp] theorem zeroSetpoints_freeCount (s : State) : (zeroSetpoints s).freeCount = s.freeCount :=
  zeroSetpoints_changes s .freeCount (by decide)
@[simp] theorem zeroSetpoints_pending (s : State) : (zeroSetpoints s).pending = s.pending :=
  zeroSetpoints_changes s .pending (by decide)

/-- An event of the regulator. -/
theorem zeroTargets_changes (s : State) : Changes [.crg] s (zeroTargets s) := by
  intro f hf; cases f <;> first | rfl | (exact absurd (by simp) hf)

@[simp] theorem zeroTargets_mfe (s : State) : (zeroTargets s).mfe = s.mfe :=
  zeroTargets_changes s .mfe (by decide)
@[simp] theorem zeroTargets_ffb (s : State) : (zeroTargets s).ffb = s.ffb :=
  zeroTargets_changes s .ffb (by decide)
@[simp] theorem zeroTargets_atr (s : State) : (zeroTargets s).atr = s.atr :=
  zeroTargets_changes s .atr (by decide)
@[simp] theorem zeroTargets_ssq (s : State) : (zeroTargets s).ssq = s.ssq :=
  zeroTargets_changes s .ssq (by decide)
@[simp] theorem zeroTargets_fls (s : State) : (zeroTargets s).fls = s.fls :=
  zeroTargets_changes s .fls (by decide)
@[simp] theorem zeroTargets_dgv (s : State) : (zeroTargets s).dgv = s.dgv :=
  zeroTargets_changes s .dgv (by decide)
@[simp] theorem zeroTargets_rtb (s : State) : (zeroTargets s).rtb = s.rtb :=
  zeroTargets_changes s .rtb (by decide)
@[simp] theorem zeroTargets_rct (s : State) : (zeroTargets s).rct = s.rct :=
  zeroTargets_changes s .rct (by decide)
@[simp] theorem zeroTargets_ntu (s : State) : (zeroTargets s).ntu = s.ntu :=
  zeroTargets_changes s .ntu (by decide)
@[simp] theorem zeroTargets_wcu (s : State) : (zeroTargets s).wcu = s.wcu :=
  zeroTargets_changes s .wcu (by decide)
@[simp] theorem zeroTargets_trc (s : State) : (zeroTargets s).trc = s.trc :=
  zeroTargets_changes s .trc (by decide)
@[simp] theorem zeroTargets_lnk (s : State) : (zeroTargets s).lnk = s.lnk :=
  zeroTargets_changes s .lnk (by decide)
@[simp] theorem zeroTargets_sst (s : State) : (zeroTargets s).sst = s.sst :=
  zeroTargets_changes s .sst (by decide)
@[simp] theorem zeroTargets_params (s : State) : (zeroTargets s).params = s.params :=
  zeroTargets_changes s .params (by decide)
@[simp] theorem zeroTargets_pins (s : State) : (zeroTargets s).pins = s.pins :=
  zeroTargets_changes s .pins (by decide)
@[simp] theorem zeroTargets_orders (s : State) : (zeroTargets s).orders = s.orders :=
  zeroTargets_changes s .orders (by decide)
@[simp] theorem zeroTargets_freeCount (s : State) : (zeroTargets s).freeCount = s.freeCount :=
  zeroTargets_changes s .freeCount (by decide)
@[simp] theorem zeroTargets_pending (s : State) : (zeroTargets s).pending = s.pending :=
  zeroTargets_changes s .pending (by decide)

/-- An event of the regulator. -/
theorem clampToIMax_changes (s : State) : Changes [.crg] s (clampToIMax s) := by
  intro f hf; cases f <;> first | rfl | (exact absurd (by simp) hf)

@[simp] theorem clampToIMax_mfe (s : State) : (clampToIMax s).mfe = s.mfe :=
  clampToIMax_changes s .mfe (by decide)
@[simp] theorem clampToIMax_ffb (s : State) : (clampToIMax s).ffb = s.ffb :=
  clampToIMax_changes s .ffb (by decide)
@[simp] theorem clampToIMax_atr (s : State) : (clampToIMax s).atr = s.atr :=
  clampToIMax_changes s .atr (by decide)
@[simp] theorem clampToIMax_ssq (s : State) : (clampToIMax s).ssq = s.ssq :=
  clampToIMax_changes s .ssq (by decide)
@[simp] theorem clampToIMax_fls (s : State) : (clampToIMax s).fls = s.fls :=
  clampToIMax_changes s .fls (by decide)
@[simp] theorem clampToIMax_dgv (s : State) : (clampToIMax s).dgv = s.dgv :=
  clampToIMax_changes s .dgv (by decide)
@[simp] theorem clampToIMax_rtb (s : State) : (clampToIMax s).rtb = s.rtb :=
  clampToIMax_changes s .rtb (by decide)
@[simp] theorem clampToIMax_rct (s : State) : (clampToIMax s).rct = s.rct :=
  clampToIMax_changes s .rct (by decide)
@[simp] theorem clampToIMax_ntu (s : State) : (clampToIMax s).ntu = s.ntu :=
  clampToIMax_changes s .ntu (by decide)
@[simp] theorem clampToIMax_wcu (s : State) : (clampToIMax s).wcu = s.wcu :=
  clampToIMax_changes s .wcu (by decide)
@[simp] theorem clampToIMax_trc (s : State) : (clampToIMax s).trc = s.trc :=
  clampToIMax_changes s .trc (by decide)
@[simp] theorem clampToIMax_lnk (s : State) : (clampToIMax s).lnk = s.lnk :=
  clampToIMax_changes s .lnk (by decide)
@[simp] theorem clampToIMax_sst (s : State) : (clampToIMax s).sst = s.sst :=
  clampToIMax_changes s .sst (by decide)
@[simp] theorem clampToIMax_params (s : State) : (clampToIMax s).params = s.params :=
  clampToIMax_changes s .params (by decide)
@[simp] theorem clampToIMax_pins (s : State) : (clampToIMax s).pins = s.pins :=
  clampToIMax_changes s .pins (by decide)
@[simp] theorem clampToIMax_orders (s : State) : (clampToIMax s).orders = s.orders :=
  clampToIMax_changes s .orders (by decide)
@[simp] theorem clampToIMax_freeCount (s : State) : (clampToIMax s).freeCount = s.freeCount :=
  clampToIMax_changes s .freeCount (by decide)
@[simp] theorem clampToIMax_pending (s : State) : (clampToIMax s).pending = s.pending :=
  clampToIMax_changes s .pending (by decide)

/-- The ramp step. -/
theorem rampStep_changes (s : State) : Changes [.crg] s (rampStep s) := by
  exact Changes.ite (Changes.withCrg s _) (Changes.refl _ s)

@[simp] theorem rampStep_mfe (s : State) : (rampStep s).mfe = s.mfe :=
  rampStep_changes s .mfe (by decide)
@[simp] theorem rampStep_ffb (s : State) : (rampStep s).ffb = s.ffb :=
  rampStep_changes s .ffb (by decide)
@[simp] theorem rampStep_atr (s : State) : (rampStep s).atr = s.atr :=
  rampStep_changes s .atr (by decide)
@[simp] theorem rampStep_ssq (s : State) : (rampStep s).ssq = s.ssq :=
  rampStep_changes s .ssq (by decide)
@[simp] theorem rampStep_fls (s : State) : (rampStep s).fls = s.fls :=
  rampStep_changes s .fls (by decide)
@[simp] theorem rampStep_dgv (s : State) : (rampStep s).dgv = s.dgv :=
  rampStep_changes s .dgv (by decide)
@[simp] theorem rampStep_rtb (s : State) : (rampStep s).rtb = s.rtb :=
  rampStep_changes s .rtb (by decide)
@[simp] theorem rampStep_rct (s : State) : (rampStep s).rct = s.rct :=
  rampStep_changes s .rct (by decide)
@[simp] theorem rampStep_ntu (s : State) : (rampStep s).ntu = s.ntu :=
  rampStep_changes s .ntu (by decide)
@[simp] theorem rampStep_wcu (s : State) : (rampStep s).wcu = s.wcu :=
  rampStep_changes s .wcu (by decide)
@[simp] theorem rampStep_trc (s : State) : (rampStep s).trc = s.trc :=
  rampStep_changes s .trc (by decide)
@[simp] theorem rampStep_lnk (s : State) : (rampStep s).lnk = s.lnk :=
  rampStep_changes s .lnk (by decide)
@[simp] theorem rampStep_sst (s : State) : (rampStep s).sst = s.sst :=
  rampStep_changes s .sst (by decide)
@[simp] theorem rampStep_params (s : State) : (rampStep s).params = s.params :=
  rampStep_changes s .params (by decide)
@[simp] theorem rampStep_pins (s : State) : (rampStep s).pins = s.pins :=
  rampStep_changes s .pins (by decide)
@[simp] theorem rampStep_orders (s : State) : (rampStep s).orders = s.orders :=
  rampStep_changes s .orders (by decide)
@[simp] theorem rampStep_freeCount (s : State) : (rampStep s).freeCount = s.freeCount :=
  rampStep_changes s .freeCount (by decide)
@[simp] theorem rampStep_pending (s : State) : (rampStep s).pending = s.pending :=
  rampStep_changes s .pending (by decide)

/-- A lifted union taken. -/
theorem takeUnblock_changes (s : State) : Changes [.fls, .crg] s (takeUnblock s) := by
  exact Changes.ite (((Changes.withFls s _).mono (by simp)).trans ((recordPresets_changes _).mono (by simp))) (Changes.refl _ s)

@[simp] theorem takeUnblock_mfe (s : State) : (takeUnblock s).mfe = s.mfe :=
  takeUnblock_changes s .mfe (by decide)
@[simp] theorem takeUnblock_ffb (s : State) : (takeUnblock s).ffb = s.ffb :=
  takeUnblock_changes s .ffb (by decide)
@[simp] theorem takeUnblock_atr (s : State) : (takeUnblock s).atr = s.atr :=
  takeUnblock_changes s .atr (by decide)
@[simp] theorem takeUnblock_ssq (s : State) : (takeUnblock s).ssq = s.ssq :=
  takeUnblock_changes s .ssq (by decide)
@[simp] theorem takeUnblock_dgv (s : State) : (takeUnblock s).dgv = s.dgv :=
  takeUnblock_changes s .dgv (by decide)
@[simp] theorem takeUnblock_rtb (s : State) : (takeUnblock s).rtb = s.rtb :=
  takeUnblock_changes s .rtb (by decide)
@[simp] theorem takeUnblock_rct (s : State) : (takeUnblock s).rct = s.rct :=
  takeUnblock_changes s .rct (by decide)
@[simp] theorem takeUnblock_ntu (s : State) : (takeUnblock s).ntu = s.ntu :=
  takeUnblock_changes s .ntu (by decide)
@[simp] theorem takeUnblock_wcu (s : State) : (takeUnblock s).wcu = s.wcu :=
  takeUnblock_changes s .wcu (by decide)
@[simp] theorem takeUnblock_trc (s : State) : (takeUnblock s).trc = s.trc :=
  takeUnblock_changes s .trc (by decide)
@[simp] theorem takeUnblock_lnk (s : State) : (takeUnblock s).lnk = s.lnk :=
  takeUnblock_changes s .lnk (by decide)
@[simp] theorem takeUnblock_sst (s : State) : (takeUnblock s).sst = s.sst :=
  takeUnblock_changes s .sst (by decide)
@[simp] theorem takeUnblock_params (s : State) : (takeUnblock s).params = s.params :=
  takeUnblock_changes s .params (by decide)
@[simp] theorem takeUnblock_pins (s : State) : (takeUnblock s).pins = s.pins :=
  takeUnblock_changes s .pins (by decide)
@[simp] theorem takeUnblock_orders (s : State) : (takeUnblock s).orders = s.orders :=
  takeUnblock_changes s .orders (by decide)
@[simp] theorem takeUnblock_freeCount (s : State) : (takeUnblock s).freeCount = s.freeCount :=
  takeUnblock_changes s .freeCount (by decide)
@[simp] theorem takeUnblock_pending (s : State) : (takeUnblock s).pending = s.pending :=
  takeUnblock_changes s .pending (by decide)

/-- The run left. -/
theorem endRun_changes (s : State) : Changes [.crg, .fls, .dgv, .rtb, .ntu, .trc] s (endRun s) := by
  unfold endRun
  refine Changes.trans ?_ ((endEpisode_changes _).mono (by simp))
  have h1 := (zeroSetpoints_changes s).mono (gs := [.crg, .fls, .dgv, .rtb, .ntu, .trc]) (by simp)
  exact Changes.ite (h1.trans ((takeClose_changes _).mono (by simp))) h1

@[simp] theorem endRun_mfe (s : State) : (endRun s).mfe = s.mfe :=
  endRun_changes s .mfe (by decide)
@[simp] theorem endRun_ffb (s : State) : (endRun s).ffb = s.ffb :=
  endRun_changes s .ffb (by decide)
@[simp] theorem endRun_atr (s : State) : (endRun s).atr = s.atr :=
  endRun_changes s .atr (by decide)
@[simp] theorem endRun_ssq (s : State) : (endRun s).ssq = s.ssq :=
  endRun_changes s .ssq (by decide)
@[simp] theorem endRun_rct (s : State) : (endRun s).rct = s.rct :=
  endRun_changes s .rct (by decide)
@[simp] theorem endRun_wcu (s : State) : (endRun s).wcu = s.wcu :=
  endRun_changes s .wcu (by decide)
@[simp] theorem endRun_lnk (s : State) : (endRun s).lnk = s.lnk :=
  endRun_changes s .lnk (by decide)
@[simp] theorem endRun_sst (s : State) : (endRun s).sst = s.sst :=
  endRun_changes s .sst (by decide)
@[simp] theorem endRun_params (s : State) : (endRun s).params = s.params :=
  endRun_changes s .params (by decide)
@[simp] theorem endRun_pins (s : State) : (endRun s).pins = s.pins :=
  endRun_changes s .pins (by decide)
@[simp] theorem endRun_orders (s : State) : (endRun s).orders = s.orders :=
  endRun_changes s .orders (by decide)
@[simp] theorem endRun_freeCount (s : State) : (endRun s).freeCount = s.freeCount :=
  endRun_changes s .freeCount (by decide)
@[simp] theorem endRun_pending (s : State) : (endRun s).pending = s.pending :=
  endRun_changes s .pending (by decide)

/-- An entry to STANDBY. -/
theorem toStandby_changes (src? : Option Source) (s : State) : Changes [.rct, .crg, .fls, .dgv, .rtb, .ntu, .trc] s (toStandby src? s) := by
  unfold toStandby
  refine Changes.trans ?_ ((endRun_changes _).mono (by simp))
  refine Changes.trans ((Changes.withRct s (s.rct.enter .standby)).mono (by simp)) ?_
  cases src? with
  | none => exact Changes.refl _ _
  | some src => exact (occur_changes src _).mono (by simp)

@[simp] theorem toStandby_mfe (src? : Option Source) (s : State) : (toStandby src? s).mfe = s.mfe :=
  toStandby_changes src? s .mfe (by decide)
@[simp] theorem toStandby_ffb (src? : Option Source) (s : State) : (toStandby src? s).ffb = s.ffb :=
  toStandby_changes src? s .ffb (by decide)
@[simp] theorem toStandby_atr (src? : Option Source) (s : State) : (toStandby src? s).atr = s.atr :=
  toStandby_changes src? s .atr (by decide)
@[simp] theorem toStandby_ssq (src? : Option Source) (s : State) : (toStandby src? s).ssq = s.ssq :=
  toStandby_changes src? s .ssq (by decide)
@[simp] theorem toStandby_wcu (src? : Option Source) (s : State) : (toStandby src? s).wcu = s.wcu :=
  toStandby_changes src? s .wcu (by decide)
@[simp] theorem toStandby_lnk (src? : Option Source) (s : State) : (toStandby src? s).lnk = s.lnk :=
  toStandby_changes src? s .lnk (by decide)
@[simp] theorem toStandby_sst (src? : Option Source) (s : State) : (toStandby src? s).sst = s.sst :=
  toStandby_changes src? s .sst (by decide)
@[simp] theorem toStandby_params (src? : Option Source) (s : State) : (toStandby src? s).params = s.params :=
  toStandby_changes src? s .params (by decide)
@[simp] theorem toStandby_pins (src? : Option Source) (s : State) : (toStandby src? s).pins = s.pins :=
  toStandby_changes src? s .pins (by decide)
@[simp] theorem toStandby_orders (src? : Option Source) (s : State) : (toStandby src? s).orders = s.orders :=
  toStandby_changes src? s .orders (by decide)
@[simp] theorem toStandby_freeCount (src? : Option Source) (s : State) : (toStandby src? s).freeCount = s.freeCount :=
  toStandby_changes src? s .freeCount (by decide)
@[simp] theorem toStandby_pending (src? : Option Source) (s : State) : (toStandby src? s).pending = s.pending :=
  toStandby_changes src? s .pending (by decide)

/-- The entry to HALT. -/
theorem enterHalt_changes (c : HaltCause) (s : State) : Changes [.rct, .ntu, .trc] s (enterHalt c s) := by
  exact Changes.occur _ ((Changes.withRct s _).mono (by simp)) (by simp)

@[simp] theorem enterHalt_mfe (c : HaltCause) (s : State) : (enterHalt c s).mfe = s.mfe :=
  enterHalt_changes c s .mfe (by decide)
@[simp] theorem enterHalt_ffb (c : HaltCause) (s : State) : (enterHalt c s).ffb = s.ffb :=
  enterHalt_changes c s .ffb (by decide)
@[simp] theorem enterHalt_atr (c : HaltCause) (s : State) : (enterHalt c s).atr = s.atr :=
  enterHalt_changes c s .atr (by decide)
@[simp] theorem enterHalt_ssq (c : HaltCause) (s : State) : (enterHalt c s).ssq = s.ssq :=
  enterHalt_changes c s .ssq (by decide)
@[simp] theorem enterHalt_crg (c : HaltCause) (s : State) : (enterHalt c s).crg = s.crg :=
  enterHalt_changes c s .crg (by decide)
@[simp] theorem enterHalt_fls (c : HaltCause) (s : State) : (enterHalt c s).fls = s.fls :=
  enterHalt_changes c s .fls (by decide)
@[simp] theorem enterHalt_dgv (c : HaltCause) (s : State) : (enterHalt c s).dgv = s.dgv :=
  enterHalt_changes c s .dgv (by decide)
@[simp] theorem enterHalt_rtb (c : HaltCause) (s : State) : (enterHalt c s).rtb = s.rtb :=
  enterHalt_changes c s .rtb (by decide)
@[simp] theorem enterHalt_wcu (c : HaltCause) (s : State) : (enterHalt c s).wcu = s.wcu :=
  enterHalt_changes c s .wcu (by decide)
@[simp] theorem enterHalt_lnk (c : HaltCause) (s : State) : (enterHalt c s).lnk = s.lnk :=
  enterHalt_changes c s .lnk (by decide)
@[simp] theorem enterHalt_sst (c : HaltCause) (s : State) : (enterHalt c s).sst = s.sst :=
  enterHalt_changes c s .sst (by decide)
@[simp] theorem enterHalt_params (c : HaltCause) (s : State) : (enterHalt c s).params = s.params :=
  enterHalt_changes c s .params (by decide)
@[simp] theorem enterHalt_pins (c : HaltCause) (s : State) : (enterHalt c s).pins = s.pins :=
  enterHalt_changes c s .pins (by decide)
@[simp] theorem enterHalt_orders (c : HaltCause) (s : State) : (enterHalt c s).orders = s.orders :=
  enterHalt_changes c s .orders (by decide)
@[simp] theorem enterHalt_freeCount (c : HaltCause) (s : State) : (enterHalt c s).freeCount = s.freeCount :=
  enterHalt_changes c s .freeCount (by decide)
@[simp] theorem enterHalt_pending (c : HaltCause) (s : State) : (enterHalt c s).pending = s.pending :=
  enterHalt_changes c s .pending (by decide)

/-- A halt cause taken. -/
theorem takeHalt_changes (c : HaltCause) (s : State) : Changes [.rct, .crg, .fls, .dgv, .rtb, .ntu, .trc] s (takeHalt c s) := by
  exact Changes.ite (((enterHalt_changes c s).mono (by simp)).trans ((endRun_changes _).mono (by simp))) (Changes.refl _ s)

@[simp] theorem takeHalt_mfe (c : HaltCause) (s : State) : (takeHalt c s).mfe = s.mfe :=
  takeHalt_changes c s .mfe (by decide)
@[simp] theorem takeHalt_ffb (c : HaltCause) (s : State) : (takeHalt c s).ffb = s.ffb :=
  takeHalt_changes c s .ffb (by decide)
@[simp] theorem takeHalt_atr (c : HaltCause) (s : State) : (takeHalt c s).atr = s.atr :=
  takeHalt_changes c s .atr (by decide)
@[simp] theorem takeHalt_ssq (c : HaltCause) (s : State) : (takeHalt c s).ssq = s.ssq :=
  takeHalt_changes c s .ssq (by decide)
@[simp] theorem takeHalt_wcu (c : HaltCause) (s : State) : (takeHalt c s).wcu = s.wcu :=
  takeHalt_changes c s .wcu (by decide)
@[simp] theorem takeHalt_lnk (c : HaltCause) (s : State) : (takeHalt c s).lnk = s.lnk :=
  takeHalt_changes c s .lnk (by decide)
@[simp] theorem takeHalt_sst (c : HaltCause) (s : State) : (takeHalt c s).sst = s.sst :=
  takeHalt_changes c s .sst (by decide)
@[simp] theorem takeHalt_params (c : HaltCause) (s : State) : (takeHalt c s).params = s.params :=
  takeHalt_changes c s .params (by decide)
@[simp] theorem takeHalt_pins (c : HaltCause) (s : State) : (takeHalt c s).pins = s.pins :=
  takeHalt_changes c s .pins (by decide)
@[simp] theorem takeHalt_orders (c : HaltCause) (s : State) : (takeHalt c s).orders = s.orders :=
  takeHalt_changes c s .orders (by decide)
@[simp] theorem takeHalt_freeCount (c : HaltCause) (s : State) : (takeHalt c s).freeCount = s.freeCount :=
  takeHalt_changes c s .freeCount (by decide)
@[simp] theorem takeHalt_pending (c : HaltCause) (s : State) : (takeHalt c s).pending = s.pending :=
  takeHalt_changes c s .pending (by decide)

/-- A halt request, if there is one. -/
theorem askHalt_changes (c? : Option HaltCause) (s : State) : Changes [.rct, .crg, .fls, .dgv, .rtb, .ntu, .trc] s (askHalt c? s) := by
  cases c? with
  | none => exact Changes.refl _ s
  | some c => exact takeHalt_changes c s

@[simp] theorem askHalt_mfe (c? : Option HaltCause) (s : State) : (askHalt c? s).mfe = s.mfe :=
  askHalt_changes c? s .mfe (by decide)
@[simp] theorem askHalt_ffb (c? : Option HaltCause) (s : State) : (askHalt c? s).ffb = s.ffb :=
  askHalt_changes c? s .ffb (by decide)
@[simp] theorem askHalt_atr (c? : Option HaltCause) (s : State) : (askHalt c? s).atr = s.atr :=
  askHalt_changes c? s .atr (by decide)
@[simp] theorem askHalt_ssq (c? : Option HaltCause) (s : State) : (askHalt c? s).ssq = s.ssq :=
  askHalt_changes c? s .ssq (by decide)
@[simp] theorem askHalt_wcu (c? : Option HaltCause) (s : State) : (askHalt c? s).wcu = s.wcu :=
  askHalt_changes c? s .wcu (by decide)
@[simp] theorem askHalt_lnk (c? : Option HaltCause) (s : State) : (askHalt c? s).lnk = s.lnk :=
  askHalt_changes c? s .lnk (by decide)
@[simp] theorem askHalt_sst (c? : Option HaltCause) (s : State) : (askHalt c? s).sst = s.sst :=
  askHalt_changes c? s .sst (by decide)
@[simp] theorem askHalt_params (c? : Option HaltCause) (s : State) : (askHalt c? s).params = s.params :=
  askHalt_changes c? s .params (by decide)
@[simp] theorem askHalt_pins (c? : Option HaltCause) (s : State) : (askHalt c? s).pins = s.pins :=
  askHalt_changes c? s .pins (by decide)
@[simp] theorem askHalt_orders (c? : Option HaltCause) (s : State) : (askHalt c? s).orders = s.orders :=
  askHalt_changes c? s .orders (by decide)
@[simp] theorem askHalt_freeCount (c? : Option HaltCause) (s : State) : (askHalt c? s).freeCount = s.freeCount :=
  askHalt_changes c? s .freeCount (by decide)
@[simp] theorem askHalt_pending (c? : Option HaltCause) (s : State) : (askHalt c? s).pending = s.pending :=
  askHalt_changes c? s .pending (by decide)

/-- Misfire requests. -/
theorem askMisfires_changes (l : List (Fin 24)) (s : State) : Changes [.rct, .crg, .fls, .dgv, .rtb, .ntu, .trc] s (askMisfires l s) := by
  induction l generalizing s with
  | nil => exact Changes.refl _ s
  | cons k rest ih => exact (takeHalt_changes _ s).trans (ih _)

@[simp] theorem askMisfires_mfe (l : List (Fin 24)) (s : State) : (askMisfires l s).mfe = s.mfe :=
  askMisfires_changes l s .mfe (by decide)
@[simp] theorem askMisfires_ffb (l : List (Fin 24)) (s : State) : (askMisfires l s).ffb = s.ffb :=
  askMisfires_changes l s .ffb (by decide)
@[simp] theorem askMisfires_atr (l : List (Fin 24)) (s : State) : (askMisfires l s).atr = s.atr :=
  askMisfires_changes l s .atr (by decide)
@[simp] theorem askMisfires_ssq (l : List (Fin 24)) (s : State) : (askMisfires l s).ssq = s.ssq :=
  askMisfires_changes l s .ssq (by decide)
@[simp] theorem askMisfires_wcu (l : List (Fin 24)) (s : State) : (askMisfires l s).wcu = s.wcu :=
  askMisfires_changes l s .wcu (by decide)
@[simp] theorem askMisfires_lnk (l : List (Fin 24)) (s : State) : (askMisfires l s).lnk = s.lnk :=
  askMisfires_changes l s .lnk (by decide)
@[simp] theorem askMisfires_sst (l : List (Fin 24)) (s : State) : (askMisfires l s).sst = s.sst :=
  askMisfires_changes l s .sst (by decide)
@[simp] theorem askMisfires_params (l : List (Fin 24)) (s : State) : (askMisfires l s).params = s.params :=
  askMisfires_changes l s .params (by decide)
@[simp] theorem askMisfires_pins (l : List (Fin 24)) (s : State) : (askMisfires l s).pins = s.pins :=
  askMisfires_changes l s .pins (by decide)
@[simp] theorem askMisfires_orders (l : List (Fin 24)) (s : State) : (askMisfires l s).orders = s.orders :=
  askMisfires_changes l s .orders (by decide)
@[simp] theorem askMisfires_freeCount (l : List (Fin 24)) (s : State) : (askMisfires l s).freeCount = s.freeCount :=
  askMisfires_changes l s .freeCount (by decide)
@[simp] theorem askMisfires_pending (l : List (Fin 24)) (s : State) : (askMisfires l s).pending = s.pending :=
  askMisfires_changes l s .pending (by decide)

/-- The union taken. -/
theorem settle_changes (s : State) : Changes [.rct, .crg, .fls, .dgv, .rtb, .ntu, .trc] s (settle s) := by
  exact (((takeUnblock_changes s).mono (by simp)).trans ((takeClose_changes _).mono (by simp))).trans
    (askMisfires_changes _ _)

@[simp] theorem settle_mfe (s : State) : (settle s).mfe = s.mfe :=
  settle_changes s .mfe (by decide)
@[simp] theorem settle_ffb (s : State) : (settle s).ffb = s.ffb :=
  settle_changes s .ffb (by decide)
@[simp] theorem settle_atr (s : State) : (settle s).atr = s.atr :=
  settle_changes s .atr (by decide)
@[simp] theorem settle_ssq (s : State) : (settle s).ssq = s.ssq :=
  settle_changes s .ssq (by decide)
@[simp] theorem settle_wcu (s : State) : (settle s).wcu = s.wcu :=
  settle_changes s .wcu (by decide)
@[simp] theorem settle_lnk (s : State) : (settle s).lnk = s.lnk :=
  settle_changes s .lnk (by decide)
@[simp] theorem settle_sst (s : State) : (settle s).sst = s.sst :=
  settle_changes s .sst (by decide)
@[simp] theorem settle_params (s : State) : (settle s).params = s.params :=
  settle_changes s .params (by decide)
@[simp] theorem settle_pins (s : State) : (settle s).pins = s.pins :=
  settle_changes s .pins (by decide)
@[simp] theorem settle_orders (s : State) : (settle s).orders = s.orders :=
  settle_changes s .orders (by decide)
@[simp] theorem settle_freeCount (s : State) : (settle s).freeCount = s.freeCount :=
  settle_changes s .freeCount (by decide)
@[simp] theorem settle_pending (s : State) : (settle s).pending = s.pending :=
  settle_changes s .pending (by decide)

/-- The trimmed-set check. -/
theorem tripCheck_changes (s : State) : Changes [.rct, .crg, .fls, .dgv, .rtb, .ntu, .trc] s (tripCheck s) := by
  unfold tripCheck; split
  · exact askHalt_changes _ s
  · exact Changes.refl _ s

@[simp] theorem tripCheck_mfe (s : State) : (tripCheck s).mfe = s.mfe :=
  tripCheck_changes s .mfe (by decide)
@[simp] theorem tripCheck_ffb (s : State) : (tripCheck s).ffb = s.ffb :=
  tripCheck_changes s .ffb (by decide)
@[simp] theorem tripCheck_atr (s : State) : (tripCheck s).atr = s.atr :=
  tripCheck_changes s .atr (by decide)
@[simp] theorem tripCheck_ssq (s : State) : (tripCheck s).ssq = s.ssq :=
  tripCheck_changes s .ssq (by decide)
@[simp] theorem tripCheck_wcu (s : State) : (tripCheck s).wcu = s.wcu :=
  tripCheck_changes s .wcu (by decide)
@[simp] theorem tripCheck_lnk (s : State) : (tripCheck s).lnk = s.lnk :=
  tripCheck_changes s .lnk (by decide)
@[simp] theorem tripCheck_sst (s : State) : (tripCheck s).sst = s.sst :=
  tripCheck_changes s .sst (by decide)
@[simp] theorem tripCheck_params (s : State) : (tripCheck s).params = s.params :=
  tripCheck_changes s .params (by decide)
@[simp] theorem tripCheck_pins (s : State) : (tripCheck s).pins = s.pins :=
  tripCheck_changes s .pins (by decide)
@[simp] theorem tripCheck_orders (s : State) : (tripCheck s).orders = s.orders :=
  tripCheck_changes s .orders (by decide)
@[simp] theorem tripCheck_freeCount (s : State) : (tripCheck s).freeCount = s.freeCount :=
  tripCheck_changes s .freeCount (by decide)
@[simp] theorem tripCheck_pending (s : State) : (tripCheck s).pending = s.pending :=
  tripCheck_changes s .pending (by decide)

/-- The supervision count. -/
theorem countSupervision_changes (s : State) : Changes [.rct] s (countSupervision s) := by
  intro f hf; cases f <;> first | rfl | (exact absurd (by simp) hf)

@[simp] theorem countSupervision_mfe (s : State) : (countSupervision s).mfe = s.mfe :=
  countSupervision_changes s .mfe (by decide)
@[simp] theorem countSupervision_ffb (s : State) : (countSupervision s).ffb = s.ffb :=
  countSupervision_changes s .ffb (by decide)
@[simp] theorem countSupervision_atr (s : State) : (countSupervision s).atr = s.atr :=
  countSupervision_changes s .atr (by decide)
@[simp] theorem countSupervision_ssq (s : State) : (countSupervision s).ssq = s.ssq :=
  countSupervision_changes s .ssq (by decide)
@[simp] theorem countSupervision_crg (s : State) : (countSupervision s).crg = s.crg :=
  countSupervision_changes s .crg (by decide)
@[simp] theorem countSupervision_fls (s : State) : (countSupervision s).fls = s.fls :=
  countSupervision_changes s .fls (by decide)
@[simp] theorem countSupervision_dgv (s : State) : (countSupervision s).dgv = s.dgv :=
  countSupervision_changes s .dgv (by decide)
@[simp] theorem countSupervision_rtb (s : State) : (countSupervision s).rtb = s.rtb :=
  countSupervision_changes s .rtb (by decide)
@[simp] theorem countSupervision_ntu (s : State) : (countSupervision s).ntu = s.ntu :=
  countSupervision_changes s .ntu (by decide)
@[simp] theorem countSupervision_wcu (s : State) : (countSupervision s).wcu = s.wcu :=
  countSupervision_changes s .wcu (by decide)
@[simp] theorem countSupervision_trc (s : State) : (countSupervision s).trc = s.trc :=
  countSupervision_changes s .trc (by decide)
@[simp] theorem countSupervision_lnk (s : State) : (countSupervision s).lnk = s.lnk :=
  countSupervision_changes s .lnk (by decide)
@[simp] theorem countSupervision_sst (s : State) : (countSupervision s).sst = s.sst :=
  countSupervision_changes s .sst (by decide)
@[simp] theorem countSupervision_params (s : State) : (countSupervision s).params = s.params :=
  countSupervision_changes s .params (by decide)
@[simp] theorem countSupervision_pins (s : State) : (countSupervision s).pins = s.pins :=
  countSupervision_changes s .pins (by decide)
@[simp] theorem countSupervision_orders (s : State) : (countSupervision s).orders = s.orders :=
  countSupervision_changes s .orders (by decide)
@[simp] theorem countSupervision_freeCount (s : State) : (countSupervision s).freeCount = s.freeCount :=
  countSupervision_changes s .freeCount (by decide)
@[simp] theorem countSupervision_pending (s : State) : (countSupervision s).pending = s.pending :=
  countSupervision_changes s .pending (by decide)

/-- A supervision lapse. -/
theorem lapse_changes (s : State) : Changes [.rct, .crg, .ntu, .trc] s (lapse s) := by
  exact Changes.occur _ (((Changes.withRct s _).mono (by simp)).trans ((zeroTargets_changes _).mono (by simp))) (by simp)

@[simp] theorem lapse_mfe (s : State) : (lapse s).mfe = s.mfe :=
  lapse_changes s .mfe (by decide)
@[simp] theorem lapse_ffb (s : State) : (lapse s).ffb = s.ffb :=
  lapse_changes s .ffb (by decide)
@[simp] theorem lapse_atr (s : State) : (lapse s).atr = s.atr :=
  lapse_changes s .atr (by decide)
@[simp] theorem lapse_ssq (s : State) : (lapse s).ssq = s.ssq :=
  lapse_changes s .ssq (by decide)
@[simp] theorem lapse_fls (s : State) : (lapse s).fls = s.fls :=
  lapse_changes s .fls (by decide)
@[simp] theorem lapse_dgv (s : State) : (lapse s).dgv = s.dgv :=
  lapse_changes s .dgv (by decide)
@[simp] theorem lapse_rtb (s : State) : (lapse s).rtb = s.rtb :=
  lapse_changes s .rtb (by decide)
@[simp] theorem lapse_wcu (s : State) : (lapse s).wcu = s.wcu :=
  lapse_changes s .wcu (by decide)
@[simp] theorem lapse_lnk (s : State) : (lapse s).lnk = s.lnk :=
  lapse_changes s .lnk (by decide)
@[simp] theorem lapse_sst (s : State) : (lapse s).sst = s.sst :=
  lapse_changes s .sst (by decide)
@[simp] theorem lapse_params (s : State) : (lapse s).params = s.params :=
  lapse_changes s .params (by decide)
@[simp] theorem lapse_pins (s : State) : (lapse s).pins = s.pins :=
  lapse_changes s .pins (by decide)
@[simp] theorem lapse_orders (s : State) : (lapse s).orders = s.orders :=
  lapse_changes s .orders (by decide)
@[simp] theorem lapse_freeCount (s : State) : (lapse s).freeCount = s.freeCount :=
  lapse_changes s .freeCount (by decide)
@[simp] theorem lapse_pending (s : State) : (lapse s).pending = s.pending :=
  lapse_changes s .pending (by decide)

/-- The entry to RUN. -/
theorem enterRun_changes (s : State) : Changes [.rct, .ntu, .trc] s (enterRun s) := by
  exact Changes.occur _ ((Changes.withRct s _).mono (by simp)) (by simp)

@[simp] theorem enterRun_mfe (s : State) : (enterRun s).mfe = s.mfe :=
  enterRun_changes s .mfe (by decide)
@[simp] theorem enterRun_ffb (s : State) : (enterRun s).ffb = s.ffb :=
  enterRun_changes s .ffb (by decide)
@[simp] theorem enterRun_atr (s : State) : (enterRun s).atr = s.atr :=
  enterRun_changes s .atr (by decide)
@[simp] theorem enterRun_ssq (s : State) : (enterRun s).ssq = s.ssq :=
  enterRun_changes s .ssq (by decide)
@[simp] theorem enterRun_crg (s : State) : (enterRun s).crg = s.crg :=
  enterRun_changes s .crg (by decide)
@[simp] theorem enterRun_fls (s : State) : (enterRun s).fls = s.fls :=
  enterRun_changes s .fls (by decide)
@[simp] theorem enterRun_dgv (s : State) : (enterRun s).dgv = s.dgv :=
  enterRun_changes s .dgv (by decide)
@[simp] theorem enterRun_rtb (s : State) : (enterRun s).rtb = s.rtb :=
  enterRun_changes s .rtb (by decide)
@[simp] theorem enterRun_wcu (s : State) : (enterRun s).wcu = s.wcu :=
  enterRun_changes s .wcu (by decide)
@[simp] theorem enterRun_lnk (s : State) : (enterRun s).lnk = s.lnk :=
  enterRun_changes s .lnk (by decide)
@[simp] theorem enterRun_sst (s : State) : (enterRun s).sst = s.sst :=
  enterRun_changes s .sst (by decide)
@[simp] theorem enterRun_params (s : State) : (enterRun s).params = s.params :=
  enterRun_changes s .params (by decide)
@[simp] theorem enterRun_pins (s : State) : (enterRun s).pins = s.pins :=
  enterRun_changes s .pins (by decide)
@[simp] theorem enterRun_orders (s : State) : (enterRun s).orders = s.orders :=
  enterRun_changes s .orders (by decide)
@[simp] theorem enterRun_freeCount (s : State) : (enterRun s).freeCount = s.freeCount :=
  enterRun_changes s .freeCount (by decide)
@[simp] theorem enterRun_pending (s : State) : (enterRun s).pending = s.pending :=
  enterRun_changes s .pending (by decide)

/-- The judgement in SYNC. -/
theorem judgeSync_changes (s : State) : Changes [.rct, .crg, .fls, .dgv, .rtb, .ntu, .trc] s (judgeSync s) := by
  exact Changes.ite ((enterRun_changes s).mono (by simp)) (Changes.ite (toStandby_changes _ s) (Changes.refl _ s))

@[simp] theorem judgeSync_mfe (s : State) : (judgeSync s).mfe = s.mfe :=
  judgeSync_changes s .mfe (by decide)
@[simp] theorem judgeSync_ffb (s : State) : (judgeSync s).ffb = s.ffb :=
  judgeSync_changes s .ffb (by decide)
@[simp] theorem judgeSync_atr (s : State) : (judgeSync s).atr = s.atr :=
  judgeSync_changes s .atr (by decide)
@[simp] theorem judgeSync_ssq (s : State) : (judgeSync s).ssq = s.ssq :=
  judgeSync_changes s .ssq (by decide)
@[simp] theorem judgeSync_wcu (s : State) : (judgeSync s).wcu = s.wcu :=
  judgeSync_changes s .wcu (by decide)
@[simp] theorem judgeSync_lnk (s : State) : (judgeSync s).lnk = s.lnk :=
  judgeSync_changes s .lnk (by decide)
@[simp] theorem judgeSync_sst (s : State) : (judgeSync s).sst = s.sst :=
  judgeSync_changes s .sst (by decide)
@[simp] theorem judgeSync_params (s : State) : (judgeSync s).params = s.params :=
  judgeSync_changes s .params (by decide)
@[simp] theorem judgeSync_pins (s : State) : (judgeSync s).pins = s.pins :=
  judgeSync_changes s .pins (by decide)
@[simp] theorem judgeSync_orders (s : State) : (judgeSync s).orders = s.orders :=
  judgeSync_changes s .orders (by decide)
@[simp] theorem judgeSync_freeCount (s : State) : (judgeSync s).freeCount = s.freeCount :=
  judgeSync_changes s .freeCount (by decide)
@[simp] theorem judgeSync_pending (s : State) : (judgeSync s).pending = s.pending :=
  judgeSync_changes s .pending (by decide)

/-- The judgement in STOPPING. -/
theorem judgeStop_changes (s : State) : Changes [.rct, .crg, .fls, .dgv, .rtb, .ntu, .trc] s (judgeStop s) := by
  exact Changes.ite (toStandby_changes _ s) (Changes.refl _ s)

@[simp] theorem judgeStop_mfe (s : State) : (judgeStop s).mfe = s.mfe :=
  judgeStop_changes s .mfe (by decide)
@[simp] theorem judgeStop_ffb (s : State) : (judgeStop s).ffb = s.ffb :=
  judgeStop_changes s .ffb (by decide)
@[simp] theorem judgeStop_atr (s : State) : (judgeStop s).atr = s.atr :=
  judgeStop_changes s .atr (by decide)
@[simp] theorem judgeStop_ssq (s : State) : (judgeStop s).ssq = s.ssq :=
  judgeStop_changes s .ssq (by decide)
@[simp] theorem judgeStop_wcu (s : State) : (judgeStop s).wcu = s.wcu :=
  judgeStop_changes s .wcu (by decide)
@[simp] theorem judgeStop_lnk (s : State) : (judgeStop s).lnk = s.lnk :=
  judgeStop_changes s .lnk (by decide)
@[simp] theorem judgeStop_sst (s : State) : (judgeStop s).sst = s.sst :=
  judgeStop_changes s .sst (by decide)
@[simp] theorem judgeStop_params (s : State) : (judgeStop s).params = s.params :=
  judgeStop_changes s .params (by decide)
@[simp] theorem judgeStop_pins (s : State) : (judgeStop s).pins = s.pins :=
  judgeStop_changes s .pins (by decide)
@[simp] theorem judgeStop_orders (s : State) : (judgeStop s).orders = s.orders :=
  judgeStop_changes s .orders (by decide)
@[simp] theorem judgeStop_freeCount (s : State) : (judgeStop s).freeCount = s.freeCount :=
  judgeStop_changes s .freeCount (by decide)
@[simp] theorem judgeStop_pending (s : State) : (judgeStop s).pending = s.pending :=
  judgeStop_changes s .pending (by decide)

/-- An angle update taken by the run controller. -/
theorem runStep_changes (u : AngleUpdate) (s : State) : Changes [.rct, .crg, .fls, .dgv, .rtb, .ntu, .trc] s (runStep u s) := by
  unfold runStep
  dsimp only
  have h1 := (countSupervision_changes s).mono (gs := [.rct, .crg, .fls, .dgv, .rtb, .ntu, .trc]) (by simp)
  refine h1.trans ?_
  split
  · exact ((Changes.withRct _ _).mono (by simp)).trans (judgeSync_changes _)
  · exact Changes.ite ((lapse_changes _).mono (by simp)) (Changes.refl _ _)
  · exact ((Changes.withRct _ _).mono (by simp)).trans (judgeStop_changes _)
  · exact Changes.refl _ _
  · exact Changes.refl _ _

@[simp] theorem runStep_mfe (u : AngleUpdate) (s : State) : (runStep u s).mfe = s.mfe :=
  runStep_changes u s .mfe (by decide)
@[simp] theorem runStep_ffb (u : AngleUpdate) (s : State) : (runStep u s).ffb = s.ffb :=
  runStep_changes u s .ffb (by decide)
@[simp] theorem runStep_atr (u : AngleUpdate) (s : State) : (runStep u s).atr = s.atr :=
  runStep_changes u s .atr (by decide)
@[simp] theorem runStep_ssq (u : AngleUpdate) (s : State) : (runStep u s).ssq = s.ssq :=
  runStep_changes u s .ssq (by decide)
@[simp] theorem runStep_wcu (u : AngleUpdate) (s : State) : (runStep u s).wcu = s.wcu :=
  runStep_changes u s .wcu (by decide)
@[simp] theorem runStep_lnk (u : AngleUpdate) (s : State) : (runStep u s).lnk = s.lnk :=
  runStep_changes u s .lnk (by decide)
@[simp] theorem runStep_sst (u : AngleUpdate) (s : State) : (runStep u s).sst = s.sst :=
  runStep_changes u s .sst (by decide)
@[simp] theorem runStep_params (u : AngleUpdate) (s : State) : (runStep u s).params = s.params :=
  runStep_changes u s .params (by decide)
@[simp] theorem runStep_pins (u : AngleUpdate) (s : State) : (runStep u s).pins = s.pins :=
  runStep_changes u s .pins (by decide)
@[simp] theorem runStep_orders (u : AngleUpdate) (s : State) : (runStep u s).orders = s.orders :=
  runStep_changes u s .orders (by decide)
@[simp] theorem runStep_freeCount (u : AngleUpdate) (s : State) : (runStep u s).freeCount = s.freeCount :=
  runStep_changes u s .freeCount (by decide)
@[simp] theorem runStep_pending (u : AngleUpdate) (s : State) : (runStep u s).pending = s.pending :=
  runStep_changes u s .pending (by decide)

/-- START accepted. -/
theorem acceptStart_changes (s : State) : Changes [.rct, .ssq, .crg, .fls] s (acceptStart s) := by
  exact (((Changes.withRct s _).mono (by simp)).trans ((zeroSetpoints_changes _).mono (by simp))).trans
    ((show Changes [.fls, .ssq] _ _ from fun f hf => by
      cases f <;> first | rfl | (exact absurd (by simp) hf)).mono (by simp))

@[simp] theorem acceptStart_mfe (s : State) : (acceptStart s).mfe = s.mfe :=
  acceptStart_changes s .mfe (by decide)
@[simp] theorem acceptStart_ffb (s : State) : (acceptStart s).ffb = s.ffb :=
  acceptStart_changes s .ffb (by decide)
@[simp] theorem acceptStart_atr (s : State) : (acceptStart s).atr = s.atr :=
  acceptStart_changes s .atr (by decide)
@[simp] theorem acceptStart_dgv (s : State) : (acceptStart s).dgv = s.dgv :=
  acceptStart_changes s .dgv (by decide)
@[simp] theorem acceptStart_rtb (s : State) : (acceptStart s).rtb = s.rtb :=
  acceptStart_changes s .rtb (by decide)
@[simp] theorem acceptStart_ntu (s : State) : (acceptStart s).ntu = s.ntu :=
  acceptStart_changes s .ntu (by decide)
@[simp] theorem acceptStart_wcu (s : State) : (acceptStart s).wcu = s.wcu :=
  acceptStart_changes s .wcu (by decide)
@[simp] theorem acceptStart_trc (s : State) : (acceptStart s).trc = s.trc :=
  acceptStart_changes s .trc (by decide)
@[simp] theorem acceptStart_lnk (s : State) : (acceptStart s).lnk = s.lnk :=
  acceptStart_changes s .lnk (by decide)
@[simp] theorem acceptStart_sst (s : State) : (acceptStart s).sst = s.sst :=
  acceptStart_changes s .sst (by decide)
@[simp] theorem acceptStart_params (s : State) : (acceptStart s).params = s.params :=
  acceptStart_changes s .params (by decide)
@[simp] theorem acceptStart_pins (s : State) : (acceptStart s).pins = s.pins :=
  acceptStart_changes s .pins (by decide)
@[simp] theorem acceptStart_orders (s : State) : (acceptStart s).orders = s.orders :=
  acceptStart_changes s .orders (by decide)
@[simp] theorem acceptStart_freeCount (s : State) : (acceptStart s).freeCount = s.freeCount :=
  acceptStart_changes s .freeCount (by decide)
@[simp] theorem acceptStart_pending (s : State) : (acceptStart s).pending = s.pending :=
  acceptStart_changes s .pending (by decide)

/-- A soft stop in RUN. -/
theorem beginStop_changes (s : State) : Changes [.rct, .crg] s (beginStop s) := by
  exact ((Changes.withRct s _).mono (by simp)).trans ((zeroTargets_changes _).mono (by simp))

@[simp] theorem beginStop_mfe (s : State) : (beginStop s).mfe = s.mfe :=
  beginStop_changes s .mfe (by decide)
@[simp] theorem beginStop_ffb (s : State) : (beginStop s).ffb = s.ffb :=
  beginStop_changes s .ffb (by decide)
@[simp] theorem beginStop_atr (s : State) : (beginStop s).atr = s.atr :=
  beginStop_changes s .atr (by decide)
@[simp] theorem beginStop_ssq (s : State) : (beginStop s).ssq = s.ssq :=
  beginStop_changes s .ssq (by decide)
@[simp] theorem beginStop_fls (s : State) : (beginStop s).fls = s.fls :=
  beginStop_changes s .fls (by decide)
@[simp] theorem beginStop_dgv (s : State) : (beginStop s).dgv = s.dgv :=
  beginStop_changes s .dgv (by decide)
@[simp] theorem beginStop_rtb (s : State) : (beginStop s).rtb = s.rtb :=
  beginStop_changes s .rtb (by decide)
@[simp] theorem beginStop_ntu (s : State) : (beginStop s).ntu = s.ntu :=
  beginStop_changes s .ntu (by decide)
@[simp] theorem beginStop_wcu (s : State) : (beginStop s).wcu = s.wcu :=
  beginStop_changes s .wcu (by decide)
@[simp] theorem beginStop_trc (s : State) : (beginStop s).trc = s.trc :=
  beginStop_changes s .trc (by decide)
@[simp] theorem beginStop_lnk (s : State) : (beginStop s).lnk = s.lnk :=
  beginStop_changes s .lnk (by decide)
@[simp] theorem beginStop_sst (s : State) : (beginStop s).sst = s.sst :=
  beginStop_changes s .sst (by decide)
@[simp] theorem beginStop_params (s : State) : (beginStop s).params = s.params :=
  beginStop_changes s .params (by decide)
@[simp] theorem beginStop_pins (s : State) : (beginStop s).pins = s.pins :=
  beginStop_changes s .pins (by decide)
@[simp] theorem beginStop_orders (s : State) : (beginStop s).orders = s.orders :=
  beginStop_changes s .orders (by decide)
@[simp] theorem beginStop_freeCount (s : State) : (beginStop s).freeCount = s.freeCount :=
  beginStop_changes s .freeCount (by decide)
@[simp] theorem beginStop_pending (s : State) : (beginStop s).pending = s.pending :=
  beginStop_changes s .pending (by decide)

/-! The union of block reasons taken (R66, R88 to R90). -/

/-- The union depends on the run state, TRIP_IN, the tracker state, the episode block and pending sync alone (R88). -/
theorem union_congr {s t : State} (h1 : t.rct = s.rct) (h2 : t.atr = s.atr) (h3 : t.dgv = s.dgv) (h4 : t.ssq = s.ssq) :
    t.union = s.union := by
  simp [State.union, State.runReason, State.running, State.trackerReason, h1, h2, h3, h4]

/-- The list stays settled while what the union and the list depend on stays. -/
theorem settled_congr {s t : State} (h : s.ListSettled) (h1 : t.rct = s.rct) (h2 : t.atr = s.atr) (h3 : t.dgv = s.dgv)
    (h4 : t.ssq = s.ssq) (h5 : t.fls.blocked = s.fls.blocked) (h6 : t.fls.list = s.fls.list) : t.ListSettled :=
  ⟨by rw [h5, union_congr h1 h2 h3 h4]; exact h.1, by rw [h5, h6]; exact h.2⟩

@[simp] theorem takeUnblock_union (s : State) : (takeUnblock s).union = s.union := union_congr (by simp) (by simp) (by simp) (by simp)

@[simp] theorem takeClose_union (s : State) : (takeClose s).1.union = s.union := union_congr (by simp) (by simp) (by simp) (by simp)

/-- With blocked at the union nothing is taken. -/
theorem takeUnblock_settled (s : State) (h : s.fls.blocked = s.union) : takeUnblock s = s := by
  unfold takeUnblock; rw [if_neg]; cases hu : s.union <;> simp [h, hu]

theorem takeClose_settled (s : State) (h : s.fls.blocked = s.union) : takeClose s = (s, []) := by
  unfold takeClose; rw [if_neg]; cases hu : s.union <;> simp [h, hu]

/-- A lifted union: blocked NO and the presets recorded (R66, R88). -/
theorem takeUnblock_lifted (s : State) (hu : s.union = false) (hb : s.fls.blocked = true) :
    takeUnblock s = recordPresets (s.withFls { s.fls with blocked := false }) := by
  unfold takeUnblock; rw [if_pos (by simp [hu, hb])]

/-- A risen union: the list closed (R89). -/
theorem takeClose_risen (s : State) (hu : s.union = true) (hb : s.fls.blocked = false) : takeClose s = closeList s := by
  unfold takeClose; rw [if_pos (by simp [hu, hb])]

/-- After the union is taken, blocked is the union (R88). -/
theorem takeUnblock_risen (s : State) (hu : s.union = true) : takeUnblock s = s := by
  unfold takeUnblock; rw [if_neg (by simp [hu])]

theorem takeClose_takeUnblock_blocked (s : State) : (takeClose (takeUnblock s)).1.fls.blocked = s.union := by
  cases hu : s.union <;> cases hb : s.fls.blocked
  · rw [takeUnblock_settled s (by simp [hu, hb]), takeClose_settled s (by simp [hu, hb])]; exact hb
  · rw [takeUnblock_lifted s hu hb, takeClose_settled _ (by rw [union_congr (s := s)] <;> simp [hu])]
    simp
  · rw [takeUnblock_risen s hu]
    rw [takeClose_risen s hu hb]; exact (closeList_spec s).2.1
  · rw [takeUnblock_settled s (by simp [hu, hb]), takeClose_settled s (by simp [hu, hb])]; exact hb

/-- With the list settled, taking the union changes nothing. -/
theorem settle_of_settled (s : State) (h : s.ListSettled) : settle s = s := by
  unfold settle
  rw [takeUnblock_settled s h.1, takeClose_settled s h.1]
  rfl

/-! Halts and entries to STANDBY. -/

theorem takeHalt_inactive (c : HaltCause) (s : State) (h : s.active = false) : takeHalt c s = s := by
  unfold takeHalt; rw [if_neg (by simp [h])]

theorem takeHalt_active (c : HaltCause) (s : State) (h : s.active = true) :
    takeHalt c s = endRun (enterHalt c s) := by
  unfold takeHalt; rw [if_pos h]


/-- The run controller after a halt (R146, R147). -/
theorem takeHalt_rct_active (c : HaltCause) (s : State) (h : s.active = true) :
    (takeHalt c s).rct = { s.rct.enter .halt with trip := some (tripRecordOf c s) } := by
  rw [takeHalt_active c s h]; simp [enterHalt]

/-- The run controller after an entry to STANDBY. -/
theorem toStandby_rct (src? : Option Source) (s : State) : (toStandby src? s).rct = s.rct.enter .standby := by
  cases src? <;> simp [toStandby, occurIf]

theorem active_eq (s : State) : s.active = (s.rct.state == .sync || s.rct.state == .run || s.rct.state == .stopping) := by
  unfold State.active; cases s.rct.state <;> rfl

/-- A halt leaves SYNC, RUN and STOPPING. -/
theorem takeHalt_not_active (c : HaltCause) (s : State) : (takeHalt c s).active = false := by
  by_cases h : s.active = true
  · rw [active_eq, takeHalt_rct_active c s h]; rfl
  · rw [takeHalt_inactive c s (by simpa using h)]; simpa using h

/-- Of several misfire requests the first alone can halt (R145). -/
theorem askMisfires_inactive (l : List (Fin 24)) (s : State) (h : s.active = false) : askMisfires l s = s := by
  induction l generalizing s with
  | nil => rfl
  | cons k rest ih => rw [askMisfires, takeHalt_inactive _ s h]; exact ih s h

theorem askMisfires_cons (k : Fin 24) (l : List (Fin 24)) (s : State) :
    askMisfires (k :: l) s = takeHalt (.misfire k) s := by
  rw [askMisfires]; exact askMisfires_inactive l _ (takeHalt_not_active _ s)

/-- The union is present in STANDBY, SYNC and HALT (R136). -/
theorem union_of_not_running (s : State) (h : s.running = false) : s.union = true := by
  simp [State.union, State.runReason, h]

theorem running_of_not_active (s : State) (h : s.active = false) : s.running = false := by
  rw [active_eq] at h; unfold State.running; revert h; cases s.rct.state <;> simp

/-- Outside SYNC, RUN and STOPPING a risen union is taken by the close alone. -/
theorem settle_inactive (s : State) (h : s.active = false) : settle s = (takeClose s).1 := by
  have hu := union_of_not_running s (running_of_not_active s h)
  unfold settle
  rw [takeUnblock_risen s hu]
  exact askMisfires_inactive _ _ (by rw [active_eq, takeClose_rct, ← active_eq]; exact h)

/-- A risen union, taken: no entry is left. -/
theorem takeClose_empties (s : State) (hu : s.union = true) (hl : s.fls.blocked = true → s.fls.list = []) :
    (takeClose s).1.fls.list = [] ∧ (takeClose s).1.fls.blocked = true := by
  cases hb : s.fls.blocked
  · rw [takeClose_risen s hu hb]; exact ⟨(closeList_spec s).1, (closeList_spec s).2.1⟩
  · rw [takeClose_settled s (by simp [hu, hb])]; exact ⟨hl hb, hb⟩

/-- While blocked with no entry, a halt leaves it so. -/
theorem endRun_fls (s : State) (hb : s.fls.blocked = true) : (endRun s).fls = s.fls := by
  unfold endRun
  rw [endEpisode_fls]
  split
  · rw [show takeClose (zeroSetpoints s) = (zeroSetpoints s, []) from ?_]
    · simp
    · unfold takeClose; rw [if_neg (by simp [hb])]
  · simp

theorem takeHalt_fls (c : HaltCause) (s : State) (hb : s.fls.blocked = true) : (takeHalt c s).fls = s.fls := by
  by_cases h : s.active = true
  · rw [takeHalt_active c s h, endRun_fls _ (by simpa using hb)]; simp
  · rw [takeHalt_inactive c s (by simpa using h)]

theorem askMisfires_fls (l : List (Fin 24)) (s : State) (hb : s.fls.blocked = true) : (askMisfires l s).fls = s.fls := by
  cases l with
  | nil => rfl
  | cons k rest => rw [askMisfires_cons]; exact takeHalt_fls _ s hb

theorem takeHalt_union (c : HaltCause) (s : State) (hu : s.union = true) : (takeHalt c s).union = true := by
  by_cases h : s.active = true
  · exact union_of_not_running _ (running_of_not_active _ (takeHalt_not_active c s))
  · rw [takeHalt_inactive c s (by simpa using h)]; exact hu

theorem askMisfires_union (l : List (Fin 24)) (s : State) (hu : s.union = true) : (askMisfires l s).union = true := by
  cases l with
  | nil => exact hu
  | cons k rest => rw [askMisfires_cons]; exact takeHalt_union _ s hu

/-- Taking the union settles the list (R88, R90). -/
theorem settle_settled (s : State) (hl : s.fls.blocked = true → s.fls.list = []) : (settle s).ListSettled := by
  cases hu : s.union
  · cases hb : s.fls.blocked
    · rw [settle_of_settled s ⟨by simp [hu, hb], hl⟩]; exact ⟨by simp [hu, hb], hl⟩
    · have e : takeUnblock s = recordPresets (s.withFls { s.fls with blocked := false }) := takeUnblock_lifted s hu hb
      have hu' : (takeUnblock s).union = false := by simp [hu]
      have hb' : (takeUnblock s).fls.blocked = false := by rw [e]; simp
      have : settle s = takeUnblock s := by
        unfold settle; rw [takeClose_settled _ (by rw [hu', hb'])]; rfl
      rw [this]
      exact ⟨by rw [hu', hb'], fun h => by rw [hb'] at h; exact absurd h (by simp)⟩
  · have hc := takeClose_empties s hu hl
    have e : settle s = askMisfires (takeClose s).2 (takeClose s).1 := by
      unfold settle; rw [takeUnblock_risen s hu]
    have hf : (settle s).fls = (takeClose s).1.fls := by rw [e]; exact askMisfires_fls _ _ hc.2
    have hu' : (settle s).union = true := by rw [e]; exact askMisfires_union _ _ (by simp [hu])
    exact ⟨by rw [hf, hu', hc.2], fun _ => by rw [hf, hc.1]⟩

/-- After a run-state change to STANDBY or HALT has been taken, the list is shut (R89, R90). -/
theorem settle_shut (s : State) (hr : s.running = false) (hl : s.fls.blocked = true → s.fls.list = []) :
    (settle s).fls.blocked = true ∧ (settle s).fls.list = [] := by
  have hu := union_of_not_running s hr
  have hc := takeClose_empties s hu hl
  have e : settle s = askMisfires (takeClose s).2 (takeClose s).1 := by
    unfold settle; rw [takeUnblock_risen s hu]
  have hf : (settle s).fls = (takeClose s).1.fls := by rw [e]; exact askMisfires_fls _ _ hc.2
  rw [hf]; exact ⟨hc.2, hc.1⟩

end Sys2Proof.Machine
end

