-- ==== Sys2Proof/Laws/Link.lean ====
section
/-!
SUPPORT. What a request does on a free link (R177 to R180): it arrives, its owner takes it, and the reply is built.
-/

namespace Sys2Proof.Machine

/-- A reply changes the link alone. -/
theorem sendReply_changes (f : Frame) (c : ResultCode) (p : List Byte) (s : State) :
    Changes [.lnk] s (sendReply f c p s) := Changes.withLnk s _

/-- An arrival changes the inbox and the supervision alone. -/
theorem arrive_changes (f : Frame) (s : State) : Changes [.lnk, .rct] s (arrive f s) :=
  ((Changes.withLnk s _).mono (by simp)).trans ((Changes.withRct _ _).mono (by simp))

/-! The arrival keeps what owners read (R150, R177). -/

@[simp] theorem arrive_mfe (f : Frame) (s : State) : (arrive f s).mfe = s.mfe := rfl
@[simp] theorem arrive_ffb (f : Frame) (s : State) : (arrive f s).ffb = s.ffb := rfl
@[simp] theorem arrive_atr (f : Frame) (s : State) : (arrive f s).atr = s.atr := rfl
@[simp] theorem arrive_ssq (f : Frame) (s : State) : (arrive f s).ssq = s.ssq := rfl
@[simp] theorem arrive_crg (f : Frame) (s : State) : (arrive f s).crg = s.crg := rfl
@[simp] theorem arrive_fls (f : Frame) (s : State) : (arrive f s).fls = s.fls := rfl
@[simp] theorem arrive_dgv (f : Frame) (s : State) : (arrive f s).dgv = s.dgv := rfl
@[simp] theorem arrive_rtb (f : Frame) (s : State) : (arrive f s).rtb = s.rtb := rfl
@[simp] theorem arrive_ntu (f : Frame) (s : State) : (arrive f s).ntu = s.ntu := rfl
@[simp] theorem arrive_wcu (f : Frame) (s : State) : (arrive f s).wcu = s.wcu := rfl
@[simp] theorem arrive_trc (f : Frame) (s : State) : (arrive f s).trc = s.trc := rfl
@[simp] theorem arrive_sst (f : Frame) (s : State) : (arrive f s).sst = s.sst := rfl
@[simp] theorem arrive_params (f : Frame) (s : State) : (arrive f s).params = s.params := rfl
@[simp] theorem arrive_pins (f : Frame) (s : State) : (arrive f s).pins = s.pins := rfl
@[simp] theorem arrive_orders (f : Frame) (s : State) : (arrive f s).orders = s.orders := rfl
@[simp] theorem arrive_freeCount (f : Frame) (s : State) : (arrive f s).freeCount = s.freeCount := rfl
@[simp] theorem arrive_pending (f : Frame) (s : State) : (arrive f s).pending = s.pending := rfl
@[simp] theorem arrive_rct_state (f : Frame) (s : State) : (arrive f s).rct.state = s.rct.state := rfl
@[simp] theorem arrive_rct_tripIn (f : Frame) (s : State) : (arrive f s).rct.tripIn = s.rct.tripIn := rfl
@[simp] theorem arrive_rct_trip (f : Frame) (s : State) : (arrive f s).rct.trip = s.rct.trip := rfl
@[simp] theorem arrive_rct_stopCount (f : Frame) (s : State) : (arrive f s).rct.stopCount = s.rct.stopCount := rfl
@[simp] theorem arrive_rct_syncTimer (f : Frame) (s : State) : (arrive f s).rct.syncTimer = s.rct.syncTimer := rfl
@[simp] theorem arrive_rct_settleCount (f : Frame) (s : State) : (arrive f s).rct.settleCount = s.rct.settleCount := rfl
@[simp] theorem arrive_saving (f : Frame) (s : State) : (arrive f s).saving = s.saving := rfl
@[simp] theorem arrive_asleep (f : Frame) (s : State) : (arrive f s).asleep = s.asleep := rfl
@[simp] theorem arrive_active (f : Frame) (s : State) : (arrive f s).active = s.active := rfl
@[simp] theorem arrive_running (f : Frame) (s : State) : (arrive f s).running = s.running := rfl
@[simp] theorem arrive_limit (f : Frame) (s : State) : (arrive f s).limit = s.limit := rfl
@[simp] theorem arrive_governingIndex (f : Frame) (s : State) : (arrive f s).governingIndex = s.governingIndex := rfl
@[simp] theorem arrive_par (f : Frame) (s : State) (p : ParamId) : (arrive f s).par p = s.par p := rfl
@[simp] theorem arrive_parN (f : Frame) (s : State) (p : ParamId) : (arrive f s).parN p = s.parN p := rfl
@[simp] theorem arrive_inbox (f : Frame) (s : State) : (arrive f s).lnk.inbox = s.lnk.inbox ++ [f] := rfl

/-- The union does not depend on the link or the supervision. -/
@[simp] theorem arrive_union (f : Frame) (s : State) : (arrive f s).union = s.union := rfl

theorem arrive_settled (f : Frame) (s : State) (h : s.ListSettled) : (arrive f s).ListSettled := h

/-- On a free link a request is handled at once (R178). -/
theorem request_free (f : Frame) (owner : State → State × Answer) (s : State) (ha : s.asleep = false)
    (hi : s.lnk.inbox = []) : request (some f) owner s = serve f owner (arrive f s) := by
  unfold request
  rw [if_neg (by simp [ha])]
  simp [finishReplies, arriveAndServe, hi]

/-- A request whose owner answers at once, the list being settled after it. -/
theorem serve_reply (f : Frame) (owner : State → State × Answer) (s t : State) (c : ResultCode) (p : List Byte)
    (h : owner s = (t, .reply c p)) (ht : t.ListSettled) : serve f owner s = sendReply f c p t := by
  unfold serve
  simp only [h, settle_of_settled t ht]

/-- A request whose reply waits for the end of a load. -/
theorem serve_waits (f : Frame) (owner : State → State × Answer) (s t : State) (h : owner s = (t, .atLoadEnd))
    (ht : t.ListSettled) : serve f owner s = t := by
  unfold serve
  simp only [h, settle_of_settled t ht]

/-- In power-on reset, and until its load has ended, a request does nothing (R176). -/
theorem request_asleep (f? : Option Frame) (owner : State → State × Answer) (s : State) (ha : s.asleep = true) :
    request f? owner s = s := by
  unfold request; rw [if_pos ha]

/-- With no reply under transmission none is transmitted. -/
theorem finishReplies_none (n : Nat) (s : State) (h : s.lnk.reply = none) : finishReplies n s = s := by
  cases n <;> simp [finishReplies, h]

end Sys2Proof.Machine
end

