-- ==== Sys2Proof/Laws/PerInstr.lean ====
section
/-!
SUPPORT. The families of facts that hold of every command as syntax, one lemma per constructor.

`RequestKind`: a well-formed command that is a request fits its frame, and its frame's kind is a kind of the request table
unless the command is UNKNOWN_KIND, whose kind is none of them (R180, R187).
-/

namespace Sys2Proof.Laws.RequestKind

open Sys2Proof.Machine

/-- The family's statement about one command. -/
def Statement (i : Instr) : Prop :=
  ∀ f : Frame, i.wellFormed = true → frameOf i = some f →
    f.payload.length ≤ 238
    ∧ (f.kind ∈ requestKinds ∨ ∃ k t p, i = .unknownKind k t p ∧ k ∉ requestKinds)

/-- A command without a frame meets the statement. -/
theorem of_none (i : Instr) (h : frameOf i = none) : Statement i := by
  intro f _ hf
  rw [h] at hf
  exact absurd hf (by simp)

/-- A well-formed command fits its frame. -/
theorem fits (i : Instr) (f : Frame) (hw : i.wellFormed = true) (hf : frameOf i = some f) : f.payload.length ≤ 238 := by
  unfold Instr.wellFormed Instr.fitsFrame at hw
  rw [hf] at hw
  simp only [Bool.and_eq_true, decide_eq_true_eq] at hw
  exact hw.1

/-- A command whose frame has a kind of the table meets the statement. -/
theorem of_kind (i : Instr) (g : Frame) (h : frameOf i = some g) (hk : g.kind ∈ requestKinds) : Statement i := by
  intro f hw hf
  refine ⟨fits i f hw hf, Or.inl ?_⟩
  rw [h] at hf
  cases hf
  exact hk

theorem powerOnReset : Statement .powerOnReset := of_none _ rfl

theorem loadEnd : Statement .loadEnd := of_none _ rfl

theorem softReset : Statement .softReset := of_none _ rfl

theorem conversionSet (raw : RawSet) : Statement (.conversionSet raw) := of_none _ rfl

theorem trackLocked : Statement .trackLocked := of_none _ rfl

theorem trackLost : Statement .trackLost := of_none _ rfl

theorem misfireLimitReached (slot : Fin 24) : Statement (.misfireLimitReached slot) := of_none _ rfl

theorem traceFrozen : Statement .traceFrozen := of_none _ rfl

theorem episodeOnset : Statement .episodeOnset := of_none _ rfl

theorem holdExpiry : Statement .holdExpiry := of_none _ rfl

theorem episodeLong : Statement .episodeLong := of_none _ rfl

theorem episodeClear : Statement .episodeClear := of_none _ rfl

theorem recoveryDone : Statement .recoveryDone := of_none _ rfl

theorem episodeEnd : Statement .episodeEnd := of_none _ rfl

theorem listClose : Statement .listClose := of_none _ rfl

theorem unblock : Statement .unblock := of_none _ rfl

theorem runEntered : Statement .runEntered := of_none _ rfl

theorem syncFailed : Statement .syncFailed := of_none _ rfl

theorem stopDone : Statement .stopDone := of_none _ rfl

theorem supervisionLapse : Statement .supervisionLapse := of_none _ rfl

theorem haltCause (cause : HaltCause) : Statement (.haltCause cause) := of_none _ rfl

theorem tripInAssert : Statement .tripInAssert := of_none _ rfl

theorem tripInRelease : Statement .tripInRelease := of_none _ rfl

theorem rxByte (byte : Byte) : Statement (.rxByte byte) := of_none _ rfl

theorem rxFramingError : Statement .rxFramingError := of_none _ rfl

theorem frameGapTimeout : Statement .frameGapTimeout := of_none _ rfl

theorem replyTransmitted : Statement .replyTransmitted := of_none _ rfl

theorem unknownKind (kind : Byte) (tag : Byte) (payload : List Byte) : Statement (.unknownKind kind tag payload) := by
  intro f hw hf
  refine ⟨fits _ f hw hf, Or.inr ⟨kind, tag, payload, rfl, ?_⟩⟩
  simp only [Instr.wellFormed, Bool.and_eq_true, Bool.not_eq_true'] at hw
  simpa using hw.2

theorem identify (tag : Byte) : Statement (.identify tag) := of_kind _ _ rfl (by simp [requestKinds])

theorem getStatus (tag : Byte) : Statement (.getStatus tag) := of_kind _ _ rfl (by simp [requestKinds])

theorem getTrip (tag : Byte) : Statement (.getTrip tag) := of_kind _ _ rfl (by simp [requestKinds])

theorem start (tag : Byte) : Statement (.start tag) := of_kind _ _ rfl (by simp [requestKinds])

theorem stopSoft (tag : Byte) : Statement (.stopSoft tag) := of_kind _ _ rfl (by simp [requestKinds])

theorem stopImmediate (tag : Byte) : Statement (.stopImmediate tag) := of_kind _ _ rfl (by simp [requestKinds])

theorem clearHalt (tag : Byte) : Statement (.clearHalt tag) := of_kind _ _ rfl (by simp [requestKinds])

theorem setTargets (tag : Byte) (pairs : List (Byte × BitVec 16)) : Statement (.setTargets tag pairs) :=
  of_kind _ _ rfl (by simp [requestKinds])

theorem getParam (tag : Byte) (ids : List Byte) : Statement (.getParam tag ids) :=
  of_kind _ _ rfl (by simp [requestKinds])

theorem setParam (tag : Byte) (pairs : List (Byte × BitVec 32)) : Statement (.setParam tag pairs) :=
  of_kind _ _ rfl (by simp [requestKinds])

theorem writeSlots (tag : Byte) (first : Byte) (recs : List SlotRec) : Statement (.writeSlots tag first recs) :=
  of_kind _ _ rfl (by simp [requestKinds])

theorem readSlots (tag : Byte) (first : Byte) (count : Byte) : Statement (.readSlots tag first count) :=
  of_kind _ _ rfl (by simp [requestKinds])

theorem writeResponses (tag : Byte) (first : Byte) (recs : List ResponseRec)
    : Statement (.writeResponses tag first recs) :=
  of_kind _ _ rfl (by simp [requestKinds])

theorem readResponses (tag : Byte) (first : Byte) (count : Byte) : Statement (.readResponses tag first count) :=
  of_kind _ _ rfl (by simp [requestKinds])

theorem clearMarks (tag : Byte) (mask : BitVec 32) : Statement (.clearMarks tag mask) :=
  of_kind _ _ rfl (by simp [requestKinds])

theorem writeFilter (tag : Byte) (recs : List FilterRec) : Statement (.writeFilter tag recs) :=
  of_kind _ _ rfl (by simp [requestKinds])

theorem readFilter (tag : Byte) : Statement (.readFilter tag) := of_kind _ _ rfl (by simp [requestKinds])

theorem filterControlEnable (tag : Byte) : Statement (.filterControlEnable tag) :=
  of_kind _ _ rfl (by simp [requestKinds])

theorem filterControlDisable (tag : Byte) : Statement (.filterControlDisable tag) :=
  of_kind _ _ rfl (by simp [requestKinds])

theorem writeTrim (tag : Byte) (recs : List TrimRec) : Statement (.writeTrim tag recs) :=
  of_kind _ _ rfl (by simp [requestKinds])

theorem readTrim (tag : Byte) (first : Byte) (count : Byte) : Statement (.readTrim tag first count) :=
  of_kind _ _ rfl (by simp [requestKinds])

theorem readHistory (tag : Byte) (offset : Byte) (count : Byte) : Statement (.readHistory tag offset count) :=
  of_kind _ _ rfl (by simp [requestKinds])

theorem fetchNotices (tag : Byte) : Statement (.fetchNotices tag) := of_kind _ _ rfl (by simp [requestKinds])

theorem ackNotices (tag : Byte) (sources : List Byte) : Statement (.ackNotices tag sources) :=
  of_kind _ _ rfl (by simp [requestKinds])

theorem setNoticeEnableAssign (tag : Byte) (mask : BitVec 24) : Statement (.setNoticeEnableAssign tag mask) :=
  of_kind _ _ rfl (by simp [requestKinds])

theorem setNoticeEnableSet (tag : Byte) (mask : BitVec 24) : Statement (.setNoticeEnableSet tag mask) :=
  of_kind _ _ rfl (by simp [requestKinds])

theorem setNoticeEnableClear (tag : Byte) (mask : BitVec 24) : Statement (.setNoticeEnableClear tag mask) :=
  of_kind _ _ rfl (by simp [requestKinds])

theorem setNoticeLevels (tag : Byte) (pairs : List (Byte × Byte)) : Statement (.setNoticeLevels tag pairs) :=
  of_kind _ _ rfl (by simp [requestKinds])

theorem setWatch (tag : Byte) (unit : Byte) (signal : Byte) (threshold : BitVec 32) (direction : Byte) (mode : Byte)
    : Statement (.setWatch tag unit signal threshold direction mode) :=
  of_kind _ _ rfl (by simp [requestKinds])

theorem rearmWatch (tag : Byte) (mask : Byte) : Statement (.rearmWatch tag mask) :=
  of_kind _ _ rfl (by simp [requestKinds])

theorem traceControlArm (tag : Byte) : Statement (.traceControlArm tag) := of_kind _ _ rfl (by simp [requestKinds])

theorem traceControlDisable (tag : Byte) : Statement (.traceControlDisable tag) :=
  of_kind _ _ rfl (by simp [requestKinds])

theorem traceControlTrigger (tag : Byte) : Statement (.traceControlTrigger tag) :=
  of_kind _ _ rfl (by simp [requestKinds])

theorem traceControlSetMask (tag : Byte) (mask : BitVec 24) : Statement (.traceControlSetMask tag mask) :=
  of_kind _ _ rfl (by simp [requestKinds])

theorem readTrace (tag : Byte) (first : BitVec 16) (count : Byte) : Statement (.readTrace tag first count) :=
  of_kind _ _ rfl (by simp [requestKinds])

theorem saveSettings (tag : Byte) : Statement (.saveSettings tag) := of_kind _ _ rfl (by simp [requestKinds])

theorem saveRowWritten (errors : BitVec 39) : Statement (.saveRowWritten errors) := of_none _ rfl

theorem loadSettings (tag : Byte) : Statement (.loadSettings tag) := of_kind _ _ rfl (by simp [requestKinds])

theorem readStore (tag : Byte) : Statement (.readStore tag) := of_kind _ _ rfl (by simp [requestKinds])

theorem reset (tag : Byte) : Statement (.reset tag) := of_kind _ _ rfl (by simp [requestKinds])

theorem resetNAsserted : Statement .resetNAsserted := of_none _ rfl

end Sys2Proof.Laws.RequestKind
end

