-- ==== Sys2Proof/Laws/Update.lean ====
section
/-!
SUPPORT. What the front end, the filter bank, the tracker, the sequencer and the watch units can change (chapters 1, 2, 3
and 9), and with them an angle update and a conversion set.
-/

namespace Sys2Proof.Machine

/-- A set completed. -/
theorem completeSet_changes (raw : RawSet) (s : State) : Changes [.mfe, .ntu, .trc] s (completeSet raw s) := by
  unfold completeSet
  dsimp only
  have h1 : ∀ v : Mfe, Changes [.mfe, .ntu, .trc] s (s.withMfe v) := fun v => (Changes.withMfe s v).mono (by simp)
  exact Changes.ite (Changes.occur _ (h1 _) (by simp)) (h1 _)

@[simp] theorem completeSet_ffb (raw : RawSet) (s : State) : (completeSet raw s).ffb = s.ffb :=
  completeSet_changes raw s .ffb (by decide)
@[simp] theorem completeSet_atr (raw : RawSet) (s : State) : (completeSet raw s).atr = s.atr :=
  completeSet_changes raw s .atr (by decide)
@[simp] theorem completeSet_ssq (raw : RawSet) (s : State) : (completeSet raw s).ssq = s.ssq :=
  completeSet_changes raw s .ssq (by decide)
@[simp] theorem completeSet_crg (raw : RawSet) (s : State) : (completeSet raw s).crg = s.crg :=
  completeSet_changes raw s .crg (by decide)
@[simp] theorem completeSet_fls (raw : RawSet) (s : State) : (completeSet raw s).fls = s.fls :=
  completeSet_changes raw s .fls (by decide)
@[simp] theorem completeSet_dgv (raw : RawSet) (s : State) : (completeSet raw s).dgv = s.dgv :=
  completeSet_changes raw s .dgv (by decide)
@[simp] theorem completeSet_rtb (raw : RawSet) (s : State) : (completeSet raw s).rtb = s.rtb :=
  completeSet_changes raw s .rtb (by decide)
@[simp] theorem completeSet_rct (raw : RawSet) (s : State) : (completeSet raw s).rct = s.rct :=
  completeSet_changes raw s .rct (by decide)
@[simp] theorem completeSet_wcu (raw : RawSet) (s : State) : (completeSet raw s).wcu = s.wcu :=
  completeSet_changes raw s .wcu (by decide)
@[simp] theorem completeSet_lnk (raw : RawSet) (s : State) : (completeSet raw s).lnk = s.lnk :=
  completeSet_changes raw s .lnk (by decide)
@[simp] theorem completeSet_sst (raw : RawSet) (s : State) : (completeSet raw s).sst = s.sst :=
  completeSet_changes raw s .sst (by decide)
@[simp] theorem completeSet_params (raw : RawSet) (s : State) : (completeSet raw s).params = s.params :=
  completeSet_changes raw s .params (by decide)
@[simp] theorem completeSet_pins (raw : RawSet) (s : State) : (completeSet raw s).pins = s.pins :=
  completeSet_changes raw s .pins (by decide)
@[simp] theorem completeSet_orders (raw : RawSet) (s : State) : (completeSet raw s).orders = s.orders :=
  completeSet_changes raw s .orders (by decide)
@[simp] theorem completeSet_freeCount (raw : RawSet) (s : State) : (completeSet raw s).freeCount = s.freeCount :=
  completeSet_changes raw s .freeCount (by decide)
@[simp] theorem completeSet_pending (raw : RawSet) (s : State) : (completeSet raw s).pending = s.pending :=
  completeSet_changes raw s .pending (by decide)

/-- A set filtered. -/
theorem filterSet_changes (t : TrimmedSet) (s : State) : Changes [.ffb, .ntu, .trc] s (filterSet t s) := by
  unfold filterSet
  dsimp only
  have h1 : ∀ v : Ffb, Changes [.ffb, .ntu, .trc] s (s.withFfb v) := fun v => (Changes.withFfb s v).mono (by simp)
  exact Changes.ite (Changes.ite (Changes.occur _ (h1 _) (by simp)) (h1 _)) (h1 _)

@[simp] theorem filterSet_mfe (t : TrimmedSet) (s : State) : (filterSet t s).mfe = s.mfe :=
  filterSet_changes t s .mfe (by decide)
@[simp] theorem filterSet_atr (t : TrimmedSet) (s : State) : (filterSet t s).atr = s.atr :=
  filterSet_changes t s .atr (by decide)
@[simp] theorem filterSet_ssq (t : TrimmedSet) (s : State) : (filterSet t s).ssq = s.ssq :=
  filterSet_changes t s .ssq (by decide)
@[simp] theorem filterSet_crg (t : TrimmedSet) (s : State) : (filterSet t s).crg = s.crg :=
  filterSet_changes t s .crg (by decide)
@[simp] theorem filterSet_fls (t : TrimmedSet) (s : State) : (filterSet t s).fls = s.fls :=
  filterSet_changes t s .fls (by decide)
@[simp] theorem filterSet_dgv (t : TrimmedSet) (s : State) : (filterSet t s).dgv = s.dgv :=
  filterSet_changes t s .dgv (by decide)
@[simp] theorem filterSet_rtb (t : TrimmedSet) (s : State) : (filterSet t s).rtb = s.rtb :=
  filterSet_changes t s .rtb (by decide)
@[simp] theorem filterSet_rct (t : TrimmedSet) (s : State) : (filterSet t s).rct = s.rct :=
  filterSet_changes t s .rct (by decide)
@[simp] theorem filterSet_wcu (t : TrimmedSet) (s : State) : (filterSet t s).wcu = s.wcu :=
  filterSet_changes t s .wcu (by decide)
@[simp] theorem filterSet_lnk (t : TrimmedSet) (s : State) : (filterSet t s).lnk = s.lnk :=
  filterSet_changes t s .lnk (by decide)
@[simp] theorem filterSet_sst (t : TrimmedSet) (s : State) : (filterSet t s).sst = s.sst :=
  filterSet_changes t s .sst (by decide)
@[simp] theorem filterSet_params (t : TrimmedSet) (s : State) : (filterSet t s).params = s.params :=
  filterSet_changes t s .params (by decide)
@[simp] theorem filterSet_pins (t : TrimmedSet) (s : State) : (filterSet t s).pins = s.pins :=
  filterSet_changes t s .pins (by decide)
@[simp] theorem filterSet_orders (t : TrimmedSet) (s : State) : (filterSet t s).orders = s.orders :=
  filterSet_changes t s .orders (by decide)
@[simp] theorem filterSet_freeCount (t : TrimmedSet) (s : State) : (filterSet t s).freeCount = s.freeCount :=
  filterSet_changes t s .freeCount (by decide)
@[simp] theorem filterSet_pending (t : TrimmedSet) (s : State) : (filterSet t s).pending = s.pending :=
  filterSet_changes t s .pending (by decide)

/-- A filtered set tracked. -/
theorem trackerUpdate_changes (f : FilteredSet) (s : State) : Changes [.atr, .ntu, .trc] s (trackerUpdate f s) := by
  unfold trackerUpdate
  dsimp only
  exact Changes.occurIf _ ((Changes.withAtr s _).mono (by simp)) (by simp)

@[simp] theorem trackerUpdate_mfe (f : FilteredSet) (s : State) : (trackerUpdate f s).mfe = s.mfe :=
  trackerUpdate_changes f s .mfe (by decide)
@[simp] theorem trackerUpdate_ffb (f : FilteredSet) (s : State) : (trackerUpdate f s).ffb = s.ffb :=
  trackerUpdate_changes f s .ffb (by decide)
@[simp] theorem trackerUpdate_ssq (f : FilteredSet) (s : State) : (trackerUpdate f s).ssq = s.ssq :=
  trackerUpdate_changes f s .ssq (by decide)
@[simp] theorem trackerUpdate_crg (f : FilteredSet) (s : State) : (trackerUpdate f s).crg = s.crg :=
  trackerUpdate_changes f s .crg (by decide)
@[simp] theorem trackerUpdate_fls (f : FilteredSet) (s : State) : (trackerUpdate f s).fls = s.fls :=
  trackerUpdate_changes f s .fls (by decide)
@[simp] theorem trackerUpdate_dgv (f : FilteredSet) (s : State) : (trackerUpdate f s).dgv = s.dgv :=
  trackerUpdate_changes f s .dgv (by decide)
@[simp] theorem trackerUpdate_rtb (f : FilteredSet) (s : State) : (trackerUpdate f s).rtb = s.rtb :=
  trackerUpdate_changes f s .rtb (by decide)
@[simp] theorem trackerUpdate_rct (f : FilteredSet) (s : State) : (trackerUpdate f s).rct = s.rct :=
  trackerUpdate_changes f s .rct (by decide)
@[simp] theorem trackerUpdate_wcu (f : FilteredSet) (s : State) : (trackerUpdate f s).wcu = s.wcu :=
  trackerUpdate_changes f s .wcu (by decide)
@[simp] theorem trackerUpdate_lnk (f : FilteredSet) (s : State) : (trackerUpdate f s).lnk = s.lnk :=
  trackerUpdate_changes f s .lnk (by decide)
@[simp] theorem trackerUpdate_sst (f : FilteredSet) (s : State) : (trackerUpdate f s).sst = s.sst :=
  trackerUpdate_changes f s .sst (by decide)
@[simp] theorem trackerUpdate_params (f : FilteredSet) (s : State) : (trackerUpdate f s).params = s.params :=
  trackerUpdate_changes f s .params (by decide)
@[simp] theorem trackerUpdate_pins (f : FilteredSet) (s : State) : (trackerUpdate f s).pins = s.pins :=
  trackerUpdate_changes f s .pins (by decide)
@[simp] theorem trackerUpdate_orders (f : FilteredSet) (s : State) : (trackerUpdate f s).orders = s.orders :=
  trackerUpdate_changes f s .orders (by decide)
@[simp] theorem trackerUpdate_freeCount (f : FilteredSet) (s : State) : (trackerUpdate f s).freeCount = s.freeCount :=
  trackerUpdate_changes f s .freeCount (by decide)
@[simp] theorem trackerUpdate_pending (f : FilteredSet) (s : State) : (trackerUpdate f s).pending = s.pending :=
  trackerUpdate_changes f s .pending (by decide)

/-- The reseat mark taken. -/
theorem takeReseat_changes (u : AngleUpdate) (s : State) : Changes [.ssq] s (takeReseat u s) := by
  exact Changes.ite (Changes.withSsq s _) (Changes.refl _ s)

@[simp] theorem takeReseat_mfe (u : AngleUpdate) (s : State) : (takeReseat u s).mfe = s.mfe :=
  takeReseat_changes u s .mfe (by decide)
@[simp] theorem takeReseat_ffb (u : AngleUpdate) (s : State) : (takeReseat u s).ffb = s.ffb :=
  takeReseat_changes u s .ffb (by decide)
@[simp] theorem takeReseat_atr (u : AngleUpdate) (s : State) : (takeReseat u s).atr = s.atr :=
  takeReseat_changes u s .atr (by decide)
@[simp] theorem takeReseat_crg (u : AngleUpdate) (s : State) : (takeReseat u s).crg = s.crg :=
  takeReseat_changes u s .crg (by decide)
@[simp] theorem takeReseat_fls (u : AngleUpdate) (s : State) : (takeReseat u s).fls = s.fls :=
  takeReseat_changes u s .fls (by decide)
@[simp] theorem takeReseat_dgv (u : AngleUpdate) (s : State) : (takeReseat u s).dgv = s.dgv :=
  takeReseat_changes u s .dgv (by decide)
@[simp] theorem takeReseat_rtb (u : AngleUpdate) (s : State) : (takeReseat u s).rtb = s.rtb :=
  takeReseat_changes u s .rtb (by decide)
@[simp] theorem takeReseat_rct (u : AngleUpdate) (s : State) : (takeReseat u s).rct = s.rct :=
  takeReseat_changes u s .rct (by decide)
@[simp] theorem takeReseat_ntu (u : AngleUpdate) (s : State) : (takeReseat u s).ntu = s.ntu :=
  takeReseat_changes u s .ntu (by decide)
@[simp] theorem takeReseat_wcu (u : AngleUpdate) (s : State) : (takeReseat u s).wcu = s.wcu :=
  takeReseat_changes u s .wcu (by decide)
@[simp] theorem takeReseat_trc (u : AngleUpdate) (s : State) : (takeReseat u s).trc = s.trc :=
  takeReseat_changes u s .trc (by decide)
@[simp] theorem takeReseat_lnk (u : AngleUpdate) (s : State) : (takeReseat u s).lnk = s.lnk :=
  takeReseat_changes u s .lnk (by decide)
@[simp] theorem takeReseat_sst (u : AngleUpdate) (s : State) : (takeReseat u s).sst = s.sst :=
  takeReseat_changes u s .sst (by decide)
@[simp] theorem takeReseat_params (u : AngleUpdate) (s : State) : (takeReseat u s).params = s.params :=
  takeReseat_changes u s .params (by decide)
@[simp] theorem takeReseat_pins (u : AngleUpdate) (s : State) : (takeReseat u s).pins = s.pins :=
  takeReseat_changes u s .pins (by decide)
@[simp] theorem takeReseat_orders (u : AngleUpdate) (s : State) : (takeReseat u s).orders = s.orders :=
  takeReseat_changes u s .orders (by decide)
@[simp] theorem takeReseat_freeCount (u : AngleUpdate) (s : State) : (takeReseat u s).freeCount = s.freeCount :=
  takeReseat_changes u s .freeCount (by decide)
@[simp] theorem takeReseat_pending (u : AngleUpdate) (s : State) : (takeReseat u s).pending = s.pending :=
  takeReseat_changes u s .pending (by decide)

/-- The pointer advanced. -/
theorem advancePointer_changes (k : Nat) (s : State) : Changes [.ssq] s (advancePointer k s) := by
  exact Changes.withSsq s _

@[simp] theorem advancePointer_mfe (k : Nat) (s : State) : (advancePointer k s).mfe = s.mfe :=
  advancePointer_changes k s .mfe (by decide)
@[simp] theorem advancePointer_ffb (k : Nat) (s : State) : (advancePointer k s).ffb = s.ffb :=
  advancePointer_changes k s .ffb (by decide)
@[simp] theorem advancePointer_atr (k : Nat) (s : State) : (advancePointer k s).atr = s.atr :=
  advancePointer_changes k s .atr (by decide)
@[simp] theorem advancePointer_crg (k : Nat) (s : State) : (advancePointer k s).crg = s.crg :=
  advancePointer_changes k s .crg (by decide)
@[simp] theorem advancePointer_fls (k : Nat) (s : State) : (advancePointer k s).fls = s.fls :=
  advancePointer_changes k s .fls (by decide)
@[simp] theorem advancePointer_dgv (k : Nat) (s : State) : (advancePointer k s).dgv = s.dgv :=
  advancePointer_changes k s .dgv (by decide)
@[simp] theorem advancePointer_rtb (k : Nat) (s : State) : (advancePointer k s).rtb = s.rtb :=
  advancePointer_changes k s .rtb (by decide)
@[simp] theorem advancePointer_rct (k : Nat) (s : State) : (advancePointer k s).rct = s.rct :=
  advancePointer_changes k s .rct (by decide)
@[simp] theorem advancePointer_ntu (k : Nat) (s : State) : (advancePointer k s).ntu = s.ntu :=
  advancePointer_changes k s .ntu (by decide)
@[simp] theorem advancePointer_wcu (k : Nat) (s : State) : (advancePointer k s).wcu = s.wcu :=
  advancePointer_changes k s .wcu (by decide)
@[simp] theorem advancePointer_trc (k : Nat) (s : State) : (advancePointer k s).trc = s.trc :=
  advancePointer_changes k s .trc (by decide)
@[simp] theorem advancePointer_lnk (k : Nat) (s : State) : (advancePointer k s).lnk = s.lnk :=
  advancePointer_changes k s .lnk (by decide)
@[simp] theorem advancePointer_sst (k : Nat) (s : State) : (advancePointer k s).sst = s.sst :=
  advancePointer_changes k s .sst (by decide)
@[simp] theorem advancePointer_params (k : Nat) (s : State) : (advancePointer k s).params = s.params :=
  advancePointer_changes k s .params (by decide)
@[simp] theorem advancePointer_pins (k : Nat) (s : State) : (advancePointer k s).pins = s.pins :=
  advancePointer_changes k s .pins (by decide)
@[simp] theorem advancePointer_orders (k : Nat) (s : State) : (advancePointer k s).orders = s.orders :=
  advancePointer_changes k s .orders (by decide)
@[simp] theorem advancePointer_freeCount (k : Nat) (s : State) : (advancePointer k s).freeCount = s.freeCount :=
  advancePointer_changes k s .freeCount (by decide)
@[simp] theorem advancePointer_pending (k : Nat) (s : State) : (advancePointer k s).pending = s.pending :=
  advancePointer_changes k s .pending (by decide)

/-- A dispatch. -/
theorem dispatch_changes (v : View) (u : AngleUpdate) (k : Nat) (s : State) : Changes [.crg, .fls, .ntu, .trc] s (dispatch v u k s) := by
  unfold dispatch
  dsimp only
  have h1 : ∀ c : Crg, Changes [.crg, .fls, .ntu, .trc] s (s.withCrg c) := fun c => (Changes.withCrg s c).mono (by simp)
  refine (h1 ⟨s.crg.bridges.set (s.slotBridge k)
    (regulate s v.floor (s.crg.bridges.get (s.slotBridge k)) (u.set.idc.get (s.slotBridge k)))⟩).trans ?_
  intro f hf; cases f <;> first | (simp [Field.same]; done) | (exact absurd (by simp) hf)

@[simp] theorem dispatch_mfe (v : View) (u : AngleUpdate) (k : Nat) (s : State) : (dispatch v u k s).mfe = s.mfe :=
  dispatch_changes v u k s .mfe (by decide)
@[simp] theorem dispatch_ffb (v : View) (u : AngleUpdate) (k : Nat) (s : State) : (dispatch v u k s).ffb = s.ffb :=
  dispatch_changes v u k s .ffb (by decide)
@[simp] theorem dispatch_atr (v : View) (u : AngleUpdate) (k : Nat) (s : State) : (dispatch v u k s).atr = s.atr :=
  dispatch_changes v u k s .atr (by decide)
@[simp] theorem dispatch_ssq (v : View) (u : AngleUpdate) (k : Nat) (s : State) : (dispatch v u k s).ssq = s.ssq :=
  dispatch_changes v u k s .ssq (by decide)
@[simp] theorem dispatch_dgv (v : View) (u : AngleUpdate) (k : Nat) (s : State) : (dispatch v u k s).dgv = s.dgv :=
  dispatch_changes v u k s .dgv (by decide)
@[simp] theorem dispatch_rtb (v : View) (u : AngleUpdate) (k : Nat) (s : State) : (dispatch v u k s).rtb = s.rtb :=
  dispatch_changes v u k s .rtb (by decide)
@[simp] theorem dispatch_rct (v : View) (u : AngleUpdate) (k : Nat) (s : State) : (dispatch v u k s).rct = s.rct :=
  dispatch_changes v u k s .rct (by decide)
@[simp] theorem dispatch_wcu (v : View) (u : AngleUpdate) (k : Nat) (s : State) : (dispatch v u k s).wcu = s.wcu :=
  dispatch_changes v u k s .wcu (by decide)
@[simp] theorem dispatch_lnk (v : View) (u : AngleUpdate) (k : Nat) (s : State) : (dispatch v u k s).lnk = s.lnk :=
  dispatch_changes v u k s .lnk (by decide)
@[simp] theorem dispatch_sst (v : View) (u : AngleUpdate) (k : Nat) (s : State) : (dispatch v u k s).sst = s.sst :=
  dispatch_changes v u k s .sst (by decide)
@[simp] theorem dispatch_params (v : View) (u : AngleUpdate) (k : Nat) (s : State) : (dispatch v u k s).params = s.params :=
  dispatch_changes v u k s .params (by decide)
@[simp] theorem dispatch_pins (v : View) (u : AngleUpdate) (k : Nat) (s : State) : (dispatch v u k s).pins = s.pins :=
  dispatch_changes v u k s .pins (by decide)
@[simp] theorem dispatch_orders (v : View) (u : AngleUpdate) (k : Nat) (s : State) : (dispatch v u k s).orders = s.orders :=
  dispatch_changes v u k s .orders (by decide)
@[simp] theorem dispatch_freeCount (v : View) (u : AngleUpdate) (k : Nat) (s : State) : (dispatch v u k s).freeCount = s.freeCount :=
  dispatch_changes v u k s .freeCount (by decide)
@[simp] theorem dispatch_pending (v : View) (u : AngleUpdate) (k : Nat) (s : State) : (dispatch v u k s).pending = s.pending :=
  dispatch_changes v u k s .pending (by decide)

/-- A slot at its dispatch angle. -/
theorem handleSlot_changes (v : View) (u : AngleUpdate) (k : Nat) (s : State) : Changes [.ssq, .crg, .fls, .ntu, .trc] s (handleSlot v u k s) := by
  refine Changes.trans (t := if dispatchEnabled v u s then dispatch v u k s else s) ?_
    ((advancePointer_changes k _).mono (by simp))
  exact Changes.ite ((dispatch_changes v u k s).mono (by simp)) (Changes.refl _ s)

@[simp] theorem handleSlot_mfe (v : View) (u : AngleUpdate) (k : Nat) (s : State) : (handleSlot v u k s).mfe = s.mfe :=
  handleSlot_changes v u k s .mfe (by decide)
@[simp] theorem handleSlot_ffb (v : View) (u : AngleUpdate) (k : Nat) (s : State) : (handleSlot v u k s).ffb = s.ffb :=
  handleSlot_changes v u k s .ffb (by decide)
@[simp] theorem handleSlot_atr (v : View) (u : AngleUpdate) (k : Nat) (s : State) : (handleSlot v u k s).atr = s.atr :=
  handleSlot_changes v u k s .atr (by decide)
@[simp] theorem handleSlot_dgv (v : View) (u : AngleUpdate) (k : Nat) (s : State) : (handleSlot v u k s).dgv = s.dgv :=
  handleSlot_changes v u k s .dgv (by decide)
@[simp] theorem handleSlot_rtb (v : View) (u : AngleUpdate) (k : Nat) (s : State) : (handleSlot v u k s).rtb = s.rtb :=
  handleSlot_changes v u k s .rtb (by decide)
@[simp] theorem handleSlot_rct (v : View) (u : AngleUpdate) (k : Nat) (s : State) : (handleSlot v u k s).rct = s.rct :=
  handleSlot_changes v u k s .rct (by decide)
@[simp] theorem handleSlot_wcu (v : View) (u : AngleUpdate) (k : Nat) (s : State) : (handleSlot v u k s).wcu = s.wcu :=
  handleSlot_changes v u k s .wcu (by decide)
@[simp] theorem handleSlot_lnk (v : View) (u : AngleUpdate) (k : Nat) (s : State) : (handleSlot v u k s).lnk = s.lnk :=
  handleSlot_changes v u k s .lnk (by decide)
@[simp] theorem handleSlot_sst (v : View) (u : AngleUpdate) (k : Nat) (s : State) : (handleSlot v u k s).sst = s.sst :=
  handleSlot_changes v u k s .sst (by decide)
@[simp] theorem handleSlot_params (v : View) (u : AngleUpdate) (k : Nat) (s : State) : (handleSlot v u k s).params = s.params :=
  handleSlot_changes v u k s .params (by decide)
@[simp] theorem handleSlot_pins (v : View) (u : AngleUpdate) (k : Nat) (s : State) : (handleSlot v u k s).pins = s.pins :=
  handleSlot_changes v u k s .pins (by decide)
@[simp] theorem handleSlot_orders (v : View) (u : AngleUpdate) (k : Nat) (s : State) : (handleSlot v u k s).orders = s.orders :=
  handleSlot_changes v u k s .orders (by decide)
@[simp] theorem handleSlot_freeCount (v : View) (u : AngleUpdate) (k : Nat) (s : State) : (handleSlot v u k s).freeCount = s.freeCount :=
  handleSlot_changes v u k s .freeCount (by decide)
@[simp] theorem handleSlot_pending (v : View) (u : AngleUpdate) (k : Nat) (s : State) : (handleSlot v u k s).pending = s.pending :=
  handleSlot_changes v u k s .pending (by decide)

/-- Pending sync resolved. -/
theorem resolveSync_changes (k : Nat) (s : State) : Changes [.ssq, .crg, .fls] s (resolveSync k s) := by
  exact ((Changes.withSsq s _).mono (by simp)).trans ((takeUnblock_changes _).mono (by simp))

@[simp] theorem resolveSync_mfe (k : Nat) (s : State) : (resolveSync k s).mfe = s.mfe :=
  resolveSync_changes k s .mfe (by decide)
@[simp] theorem resolveSync_ffb (k : Nat) (s : State) : (resolveSync k s).ffb = s.ffb :=
  resolveSync_changes k s .ffb (by decide)
@[simp] theorem resolveSync_atr (k : Nat) (s : State) : (resolveSync k s).atr = s.atr :=
  resolveSync_changes k s .atr (by decide)
@[simp] theorem resolveSync_dgv (k : Nat) (s : State) : (resolveSync k s).dgv = s.dgv :=
  resolveSync_changes k s .dgv (by decide)
@[simp] theorem resolveSync_rtb (k : Nat) (s : State) : (resolveSync k s).rtb = s.rtb :=
  resolveSync_changes k s .rtb (by decide)
@[simp] theorem resolveSync_rct (k : Nat) (s : State) : (resolveSync k s).rct = s.rct :=
  resolveSync_changes k s .rct (by decide)
@[simp] theorem resolveSync_ntu (k : Nat) (s : State) : (resolveSync k s).ntu = s.ntu :=
  resolveSync_changes k s .ntu (by decide)
@[simp] theorem resolveSync_wcu (k : Nat) (s : State) : (resolveSync k s).wcu = s.wcu :=
  resolveSync_changes k s .wcu (by decide)
@[simp] theorem resolveSync_trc (k : Nat) (s : State) : (resolveSync k s).trc = s.trc :=
  resolveSync_changes k s .trc (by decide)
@[simp] theorem resolveSync_lnk (k : Nat) (s : State) : (resolveSync k s).lnk = s.lnk :=
  resolveSync_changes k s .lnk (by decide)
@[simp] theorem resolveSync_sst (k : Nat) (s : State) : (resolveSync k s).sst = s.sst :=
  resolveSync_changes k s .sst (by decide)
@[simp] theorem resolveSync_params (k : Nat) (s : State) : (resolveSync k s).params = s.params :=
  resolveSync_changes k s .params (by decide)
@[simp] theorem resolveSync_pins (k : Nat) (s : State) : (resolveSync k s).pins = s.pins :=
  resolveSync_changes k s .pins (by decide)
@[simp] theorem resolveSync_orders (k : Nat) (s : State) : (resolveSync k s).orders = s.orders :=
  resolveSync_changes k s .orders (by decide)
@[simp] theorem resolveSync_freeCount (k : Nat) (s : State) : (resolveSync k s).freeCount = s.freeCount :=
  resolveSync_changes k s .freeCount (by decide)
@[simp] theorem resolveSync_pending (k : Nat) (s : State) : (resolveSync k s).pending = s.pending :=
  resolveSync_changes k s .pending (by decide)

/-- The sequencer at a path point. -/
theorem sequencerPoint_changes (v : View) (u : AngleUpdate) (x : Nat) (s : State) : Changes [.ssq, .crg, .fls, .ntu, .trc] s (sequencerPoint v u x s) := by
  unfold sequencerPoint
  refine Changes.ite (Changes.refl _ s) (Changes.ite ?_ (Changes.ite (handleSlot_changes _ _ _ s) (Changes.refl _ s)))
  split
  · exact ((resolveSync_changes _ s).mono (by simp)).trans (handleSlot_changes _ _ _ _)
  · exact Changes.refl _ s

@[simp] theorem sequencerPoint_mfe (v : View) (u : AngleUpdate) (x : Nat) (s : State) : (sequencerPoint v u x s).mfe = s.mfe :=
  sequencerPoint_changes v u x s .mfe (by decide)
@[simp] theorem sequencerPoint_ffb (v : View) (u : AngleUpdate) (x : Nat) (s : State) : (sequencerPoint v u x s).ffb = s.ffb :=
  sequencerPoint_changes v u x s .ffb (by decide)
@[simp] theorem sequencerPoint_atr (v : View) (u : AngleUpdate) (x : Nat) (s : State) : (sequencerPoint v u x s).atr = s.atr :=
  sequencerPoint_changes v u x s .atr (by decide)
@[simp] theorem sequencerPoint_dgv (v : View) (u : AngleUpdate) (x : Nat) (s : State) : (sequencerPoint v u x s).dgv = s.dgv :=
  sequencerPoint_changes v u x s .dgv (by decide)
@[simp] theorem sequencerPoint_rtb (v : View) (u : AngleUpdate) (x : Nat) (s : State) : (sequencerPoint v u x s).rtb = s.rtb :=
  sequencerPoint_changes v u x s .rtb (by decide)
@[simp] theorem sequencerPoint_rct (v : View) (u : AngleUpdate) (x : Nat) (s : State) : (sequencerPoint v u x s).rct = s.rct :=
  sequencerPoint_changes v u x s .rct (by decide)
@[simp] theorem sequencerPoint_wcu (v : View) (u : AngleUpdate) (x : Nat) (s : State) : (sequencerPoint v u x s).wcu = s.wcu :=
  sequencerPoint_changes v u x s .wcu (by decide)
@[simp] theorem sequencerPoint_lnk (v : View) (u : AngleUpdate) (x : Nat) (s : State) : (sequencerPoint v u x s).lnk = s.lnk :=
  sequencerPoint_changes v u x s .lnk (by decide)
@[simp] theorem sequencerPoint_sst (v : View) (u : AngleUpdate) (x : Nat) (s : State) : (sequencerPoint v u x s).sst = s.sst :=
  sequencerPoint_changes v u x s .sst (by decide)
@[simp] theorem sequencerPoint_params (v : View) (u : AngleUpdate) (x : Nat) (s : State) : (sequencerPoint v u x s).params = s.params :=
  sequencerPoint_changes v u x s .params (by decide)
@[simp] theorem sequencerPoint_pins (v : View) (u : AngleUpdate) (x : Nat) (s : State) : (sequencerPoint v u x s).pins = s.pins :=
  sequencerPoint_changes v u x s .pins (by decide)
@[simp] theorem sequencerPoint_orders (v : View) (u : AngleUpdate) (x : Nat) (s : State) : (sequencerPoint v u x s).orders = s.orders :=
  sequencerPoint_changes v u x s .orders (by decide)
@[simp] theorem sequencerPoint_freeCount (v : View) (u : AngleUpdate) (x : Nat) (s : State) : (sequencerPoint v u x s).freeCount = s.freeCount :=
  sequencerPoint_changes v u x s .freeCount (by decide)
@[simp] theorem sequencerPoint_pending (v : View) (u : AngleUpdate) (x : Nat) (s : State) : (sequencerPoint v u x s).pending = s.pending :=
  sequencerPoint_changes v u x s .pending (by decide)

/-- A path point. -/
theorem pathPoint_changes (v : View) (u : AngleUpdate) (x : Nat) (s : State) : Changes [.ssq, .crg, .fls, .ntu, .trc] s (pathPoint v u x s) := by
  refine (sequencerPoint_changes v u x s).trans ?_
  intro f hf; cases f <;> first | rfl | (exact absurd (by simp) hf)

@[simp] theorem pathPoint_mfe (v : View) (u : AngleUpdate) (x : Nat) (s : State) : (pathPoint v u x s).mfe = s.mfe :=
  pathPoint_changes v u x s .mfe (by decide)
@[simp] theorem pathPoint_ffb (v : View) (u : AngleUpdate) (x : Nat) (s : State) : (pathPoint v u x s).ffb = s.ffb :=
  pathPoint_changes v u x s .ffb (by decide)
@[simp] theorem pathPoint_atr (v : View) (u : AngleUpdate) (x : Nat) (s : State) : (pathPoint v u x s).atr = s.atr :=
  pathPoint_changes v u x s .atr (by decide)
@[simp] theorem pathPoint_dgv (v : View) (u : AngleUpdate) (x : Nat) (s : State) : (pathPoint v u x s).dgv = s.dgv :=
  pathPoint_changes v u x s .dgv (by decide)
@[simp] theorem pathPoint_rtb (v : View) (u : AngleUpdate) (x : Nat) (s : State) : (pathPoint v u x s).rtb = s.rtb :=
  pathPoint_changes v u x s .rtb (by decide)
@[simp] theorem pathPoint_rct (v : View) (u : AngleUpdate) (x : Nat) (s : State) : (pathPoint v u x s).rct = s.rct :=
  pathPoint_changes v u x s .rct (by decide)
@[simp] theorem pathPoint_wcu (v : View) (u : AngleUpdate) (x : Nat) (s : State) : (pathPoint v u x s).wcu = s.wcu :=
  pathPoint_changes v u x s .wcu (by decide)
@[simp] theorem pathPoint_lnk (v : View) (u : AngleUpdate) (x : Nat) (s : State) : (pathPoint v u x s).lnk = s.lnk :=
  pathPoint_changes v u x s .lnk (by decide)
@[simp] theorem pathPoint_sst (v : View) (u : AngleUpdate) (x : Nat) (s : State) : (pathPoint v u x s).sst = s.sst :=
  pathPoint_changes v u x s .sst (by decide)
@[simp] theorem pathPoint_params (v : View) (u : AngleUpdate) (x : Nat) (s : State) : (pathPoint v u x s).params = s.params :=
  pathPoint_changes v u x s .params (by decide)
@[simp] theorem pathPoint_pins (v : View) (u : AngleUpdate) (x : Nat) (s : State) : (pathPoint v u x s).pins = s.pins :=
  pathPoint_changes v u x s .pins (by decide)
@[simp] theorem pathPoint_orders (v : View) (u : AngleUpdate) (x : Nat) (s : State) : (pathPoint v u x s).orders = s.orders :=
  pathPoint_changes v u x s .orders (by decide)
@[simp] theorem pathPoint_freeCount (v : View) (u : AngleUpdate) (x : Nat) (s : State) : (pathPoint v u x s).freeCount = s.freeCount :=
  pathPoint_changes v u x s .freeCount (by decide)
@[simp] theorem pathPoint_pending (v : View) (u : AngleUpdate) (x : Nat) (s : State) : (pathPoint v u x s).pending = s.pending :=
  pathPoint_changes v u x s .pending (by decide)

/-- A watch unit at an update. -/
theorem watchUnit_changes (u : AngleUpdate) (n : Fin 4) (s : State) : Changes [.wcu, .ntu, .trc] s (watchUnit u n s) := by
  unfold watchUnit
  dsimp only
  have h1 : ∀ v : Wcu, Changes [.wcu, .ntu, .trc] s (s.withWcu v) := fun v => (Changes.withWcu s v).mono (by simp)
  exact Changes.ite (Changes.occur _ (h1 _) (by simp)) (h1 _)

@[simp] theorem watchUnit_mfe (u : AngleUpdate) (n : Fin 4) (s : State) : (watchUnit u n s).mfe = s.mfe :=
  watchUnit_changes u n s .mfe (by decide)
@[simp] theorem watchUnit_ffb (u : AngleUpdate) (n : Fin 4) (s : State) : (watchUnit u n s).ffb = s.ffb :=
  watchUnit_changes u n s .ffb (by decide)
@[simp] theorem watchUnit_atr (u : AngleUpdate) (n : Fin 4) (s : State) : (watchUnit u n s).atr = s.atr :=
  watchUnit_changes u n s .atr (by decide)
@[simp] theorem watchUnit_ssq (u : AngleUpdate) (n : Fin 4) (s : State) : (watchUnit u n s).ssq = s.ssq :=
  watchUnit_changes u n s .ssq (by decide)
@[simp] theorem watchUnit_crg (u : AngleUpdate) (n : Fin 4) (s : State) : (watchUnit u n s).crg = s.crg :=
  watchUnit_changes u n s .crg (by decide)
@[simp] theorem watchUnit_fls (u : AngleUpdate) (n : Fin 4) (s : State) : (watchUnit u n s).fls = s.fls :=
  watchUnit_changes u n s .fls (by decide)
@[simp] theorem watchUnit_dgv (u : AngleUpdate) (n : Fin 4) (s : State) : (watchUnit u n s).dgv = s.dgv :=
  watchUnit_changes u n s .dgv (by decide)
@[simp] theorem watchUnit_rtb (u : AngleUpdate) (n : Fin 4) (s : State) : (watchUnit u n s).rtb = s.rtb :=
  watchUnit_changes u n s .rtb (by decide)
@[simp] theorem watchUnit_rct (u : AngleUpdate) (n : Fin 4) (s : State) : (watchUnit u n s).rct = s.rct :=
  watchUnit_changes u n s .rct (by decide)
@[simp] theorem watchUnit_lnk (u : AngleUpdate) (n : Fin 4) (s : State) : (watchUnit u n s).lnk = s.lnk :=
  watchUnit_changes u n s .lnk (by decide)
@[simp] theorem watchUnit_sst (u : AngleUpdate) (n : Fin 4) (s : State) : (watchUnit u n s).sst = s.sst :=
  watchUnit_changes u n s .sst (by decide)
@[simp] theorem watchUnit_params (u : AngleUpdate) (n : Fin 4) (s : State) : (watchUnit u n s).params = s.params :=
  watchUnit_changes u n s .params (by decide)
@[simp] theorem watchUnit_pins (u : AngleUpdate) (n : Fin 4) (s : State) : (watchUnit u n s).pins = s.pins :=
  watchUnit_changes u n s .pins (by decide)
@[simp] theorem watchUnit_orders (u : AngleUpdate) (n : Fin 4) (s : State) : (watchUnit u n s).orders = s.orders :=
  watchUnit_changes u n s .orders (by decide)
@[simp] theorem watchUnit_freeCount (u : AngleUpdate) (n : Fin 4) (s : State) : (watchUnit u n s).freeCount = s.freeCount :=
  watchUnit_changes u n s .freeCount (by decide)
@[simp] theorem watchUnit_pending (u : AngleUpdate) (n : Fin 4) (s : State) : (watchUnit u n s).pending = s.pending :=
  watchUnit_changes u n s .pending (by decide)

/-- The watch units at an update. -/
theorem watchStep_changes (u : AngleUpdate) (s : State) : Changes [.wcu, .ntu, .trc] s (watchStep u s) := by
  exact (((watchUnit_changes u 0 s).trans (watchUnit_changes u 1 _)).trans (watchUnit_changes u 2 _)).trans
    (watchUnit_changes u 3 _)

@[simp] theorem watchStep_mfe (u : AngleUpdate) (s : State) : (watchStep u s).mfe = s.mfe :=
  watchStep_changes u s .mfe (by decide)
@[simp] theorem watchStep_ffb (u : AngleUpdate) (s : State) : (watchStep u s).ffb = s.ffb :=
  watchStep_changes u s .ffb (by decide)
@[simp] theorem watchStep_atr (u : AngleUpdate) (s : State) : (watchStep u s).atr = s.atr :=
  watchStep_changes u s .atr (by decide)
@[simp] theorem watchStep_ssq (u : AngleUpdate) (s : State) : (watchStep u s).ssq = s.ssq :=
  watchStep_changes u s .ssq (by decide)
@[simp] theorem watchStep_crg (u : AngleUpdate) (s : State) : (watchStep u s).crg = s.crg :=
  watchStep_changes u s .crg (by decide)
@[simp] theorem watchStep_fls (u : AngleUpdate) (s : State) : (watchStep u s).fls = s.fls :=
  watchStep_changes u s .fls (by decide)
@[simp] theorem watchStep_dgv (u : AngleUpdate) (s : State) : (watchStep u s).dgv = s.dgv :=
  watchStep_changes u s .dgv (by decide)
@[simp] theorem watchStep_rtb (u : AngleUpdate) (s : State) : (watchStep u s).rtb = s.rtb :=
  watchStep_changes u s .rtb (by decide)
@[simp] theorem watchStep_rct (u : AngleUpdate) (s : State) : (watchStep u s).rct = s.rct :=
  watchStep_changes u s .rct (by decide)
@[simp] theorem watchStep_lnk (u : AngleUpdate) (s : State) : (watchStep u s).lnk = s.lnk :=
  watchStep_changes u s .lnk (by decide)
@[simp] theorem watchStep_sst (u : AngleUpdate) (s : State) : (watchStep u s).sst = s.sst :=
  watchStep_changes u s .sst (by decide)
@[simp] theorem watchStep_params (u : AngleUpdate) (s : State) : (watchStep u s).params = s.params :=
  watchStep_changes u s .params (by decide)
@[simp] theorem watchStep_pins (u : AngleUpdate) (s : State) : (watchStep u s).pins = s.pins :=
  watchStep_changes u s .pins (by decide)
@[simp] theorem watchStep_orders (u : AngleUpdate) (s : State) : (watchStep u s).orders = s.orders :=
  watchStep_changes u s .orders (by decide)
@[simp] theorem watchStep_freeCount (u : AngleUpdate) (s : State) : (watchStep u s).freeCount = s.freeCount :=
  watchStep_changes u s .freeCount (by decide)
@[simp] theorem watchStep_pending (u : AngleUpdate) (s : State) : (watchStep u s).pending = s.pending :=
  watchStep_changes u s .pending (by decide)

/-- A retirement. -/
theorem retireHead_changes (s : State) : Changes [.fls, .ntu, .trc] s (retireHead s).1 := by
  intro f hf; cases f <;> first | (simp [Field.same]; done) | (exact absurd (by simp) hf)

/-- DONE heads retired. -/
theorem retireDone_changes (n : Nat) (s : State) : Changes [.rct, .crg, .fls, .dgv, .rtb, .ntu, .trc] s (retireDone n s) := by
  induction n generalizing s with
  | zero => exact Changes.refl _ s
  | succ n ih =>
    unfold retireDone
    split
    · exact Changes.refl _ s
    · exact Changes.ite ((((retireHead_changes s).mono (by simp)).trans (askHalt_changes _ _)).trans (ih _)) (Changes.refl _ s)

@[simp] theorem retireDone_mfe (n : Nat) (s : State) : (retireDone n s).mfe = s.mfe :=
  retireDone_changes n s .mfe (by decide)
@[simp] theorem retireDone_ffb (n : Nat) (s : State) : (retireDone n s).ffb = s.ffb :=
  retireDone_changes n s .ffb (by decide)
@[simp] theorem retireDone_atr (n : Nat) (s : State) : (retireDone n s).atr = s.atr :=
  retireDone_changes n s .atr (by decide)
@[simp] theorem retireDone_ssq (n : Nat) (s : State) : (retireDone n s).ssq = s.ssq :=
  retireDone_changes n s .ssq (by decide)
@[simp] theorem retireDone_wcu (n : Nat) (s : State) : (retireDone n s).wcu = s.wcu :=
  retireDone_changes n s .wcu (by decide)
@[simp] theorem retireDone_lnk (n : Nat) (s : State) : (retireDone n s).lnk = s.lnk :=
  retireDone_changes n s .lnk (by decide)
@[simp] theorem retireDone_sst (n : Nat) (s : State) : (retireDone n s).sst = s.sst :=
  retireDone_changes n s .sst (by decide)
@[simp] theorem retireDone_params (n : Nat) (s : State) : (retireDone n s).params = s.params :=
  retireDone_changes n s .params (by decide)
@[simp] theorem retireDone_pins (n : Nat) (s : State) : (retireDone n s).pins = s.pins :=
  retireDone_changes n s .pins (by decide)
@[simp] theorem retireDone_orders (n : Nat) (s : State) : (retireDone n s).orders = s.orders :=
  retireDone_changes n s .orders (by decide)
@[simp] theorem retireDone_freeCount (n : Nat) (s : State) : (retireDone n s).freeCount = s.freeCount :=
  retireDone_changes n s .freeCount (by decide)
@[simp] theorem retireDone_pending (n : Nat) (s : State) : (retireDone n s).pending = s.pending :=
  retireDone_changes n s .pending (by decide)

/-- The end of the list's part of an update. -/
theorem listEnd_changes (u : AngleUpdate) (s : State) : Changes [.rct, .crg, .fls, .dgv, .rtb, .ntu, .trc] s (listEnd u s) := by
  refine Changes.trans (t := sampleWindows u s) ?_ (retireDone_changes _ _)
  intro f hf; cases f <;> first | rfl | (exact absurd (by simp) hf)

@[simp] theorem listEnd_mfe (u : AngleUpdate) (s : State) : (listEnd u s).mfe = s.mfe :=
  listEnd_changes u s .mfe (by decide)
@[simp] theorem listEnd_ffb (u : AngleUpdate) (s : State) : (listEnd u s).ffb = s.ffb :=
  listEnd_changes u s .ffb (by decide)
@[simp] theorem listEnd_atr (u : AngleUpdate) (s : State) : (listEnd u s).atr = s.atr :=
  listEnd_changes u s .atr (by decide)
@[simp] theorem listEnd_ssq (u : AngleUpdate) (s : State) : (listEnd u s).ssq = s.ssq :=
  listEnd_changes u s .ssq (by decide)
@[simp] theorem listEnd_wcu (u : AngleUpdate) (s : State) : (listEnd u s).wcu = s.wcu :=
  listEnd_changes u s .wcu (by decide)
@[simp] theorem listEnd_lnk (u : AngleUpdate) (s : State) : (listEnd u s).lnk = s.lnk :=
  listEnd_changes u s .lnk (by decide)
@[simp] theorem listEnd_sst (u : AngleUpdate) (s : State) : (listEnd u s).sst = s.sst :=
  listEnd_changes u s .sst (by decide)
@[simp] theorem listEnd_params (u : AngleUpdate) (s : State) : (listEnd u s).params = s.params :=
  listEnd_changes u s .params (by decide)
@[simp] theorem listEnd_pins (u : AngleUpdate) (s : State) : (listEnd u s).pins = s.pins :=
  listEnd_changes u s .pins (by decide)
@[simp] theorem listEnd_orders (u : AngleUpdate) (s : State) : (listEnd u s).orders = s.orders :=
  listEnd_changes u s .orders (by decide)
@[simp] theorem listEnd_freeCount (u : AngleUpdate) (s : State) : (listEnd u s).freeCount = s.freeCount :=
  listEnd_changes u s .freeCount (by decide)
@[simp] theorem listEnd_pending (u : AngleUpdate) (s : State) : (listEnd u s).pending = s.pending :=
  listEnd_changes u s .pending (by decide)

/-- The governor's deed. -/
theorem governorDeed_changes (u : AngleUpdate) (s : State) : Changes [.atr, .rct, .crg, .fls, .dgv, .rtb, .ntu, .trc] s (governorDeed u s) := by
  exact (((governorStep_changes u s).mono (by simp)).trans ((takeUnblock_changes _).mono (by simp))).trans
    ((askHalt_changes _ _).mono (by simp))

@[simp] theorem governorDeed_mfe (u : AngleUpdate) (s : State) : (governorDeed u s).mfe = s.mfe :=
  governorDeed_changes u s .mfe (by decide)
@[simp] theorem governorDeed_ffb (u : AngleUpdate) (s : State) : (governorDeed u s).ffb = s.ffb :=
  governorDeed_changes u s .ffb (by decide)
@[simp] theorem governorDeed_ssq (u : AngleUpdate) (s : State) : (governorDeed u s).ssq = s.ssq :=
  governorDeed_changes u s .ssq (by decide)
@[simp] theorem governorDeed_wcu (u : AngleUpdate) (s : State) : (governorDeed u s).wcu = s.wcu :=
  governorDeed_changes u s .wcu (by decide)
@[simp] theorem governorDeed_lnk (u : AngleUpdate) (s : State) : (governorDeed u s).lnk = s.lnk :=
  governorDeed_changes u s .lnk (by decide)
@[simp] theorem governorDeed_sst (u : AngleUpdate) (s : State) : (governorDeed u s).sst = s.sst :=
  governorDeed_changes u s .sst (by decide)
@[simp] theorem governorDeed_params (u : AngleUpdate) (s : State) : (governorDeed u s).params = s.params :=
  governorDeed_changes u s .params (by decide)
@[simp] theorem governorDeed_pins (u : AngleUpdate) (s : State) : (governorDeed u s).pins = s.pins :=
  governorDeed_changes u s .pins (by decide)
@[simp] theorem governorDeed_orders (u : AngleUpdate) (s : State) : (governorDeed u s).orders = s.orders :=
  governorDeed_changes u s .orders (by decide)
@[simp] theorem governorDeed_freeCount (u : AngleUpdate) (s : State) : (governorDeed u s).freeCount = s.freeCount :=
  governorDeed_changes u s .freeCount (by decide)
@[simp] theorem governorDeed_pending (u : AngleUpdate) (s : State) : (governorDeed u s).pending = s.pending :=
  governorDeed_changes u s .pending (by decide)

/-- A deed of an update. -/
theorem doDeed_changes (v : View) (u : AngleUpdate) (d : Deed) (s : State) : Changes [.atr, .ssq, .crg, .fls, .dgv, .rtb, .rct, .ntu, .wcu, .trc] s (doDeed v u d s) := by
  cases d with
  | take => exact Changes.refl _ s
  | path n => exact (pathPoint_changes v u _ s).mono (by simp)
  | listEnd => exact (listEnd_changes u s).mono (by simp)
  | trip => exact (tripCheck_changes s).mono (by simp)
  | governor => exact (governorDeed_changes u s).mono (by simp)
  | ramp => exact (rampStep_changes s).mono (by simp)
  | run => exact (runStep_changes u s).mono (by simp)
  | watch => exact (watchStep_changes u s).mono (by simp)

@[simp] theorem doDeed_mfe (v : View) (u : AngleUpdate) (d : Deed) (s : State) : (doDeed v u d s).mfe = s.mfe :=
  doDeed_changes v u d s .mfe (by decide)
@[simp] theorem doDeed_ffb (v : View) (u : AngleUpdate) (d : Deed) (s : State) : (doDeed v u d s).ffb = s.ffb :=
  doDeed_changes v u d s .ffb (by decide)
@[simp] theorem doDeed_lnk (v : View) (u : AngleUpdate) (d : Deed) (s : State) : (doDeed v u d s).lnk = s.lnk :=
  doDeed_changes v u d s .lnk (by decide)
@[simp] theorem doDeed_sst (v : View) (u : AngleUpdate) (d : Deed) (s : State) : (doDeed v u d s).sst = s.sst :=
  doDeed_changes v u d s .sst (by decide)
@[simp] theorem doDeed_params (v : View) (u : AngleUpdate) (d : Deed) (s : State) : (doDeed v u d s).params = s.params :=
  doDeed_changes v u d s .params (by decide)
@[simp] theorem doDeed_pins (v : View) (u : AngleUpdate) (d : Deed) (s : State) : (doDeed v u d s).pins = s.pins :=
  doDeed_changes v u d s .pins (by decide)
@[simp] theorem doDeed_orders (v : View) (u : AngleUpdate) (d : Deed) (s : State) : (doDeed v u d s).orders = s.orders :=
  doDeed_changes v u d s .orders (by decide)
@[simp] theorem doDeed_freeCount (v : View) (u : AngleUpdate) (d : Deed) (s : State) : (doDeed v u d s).freeCount = s.freeCount :=
  doDeed_changes v u d s .freeCount (by decide)
@[simp] theorem doDeed_pending (v : View) (u : AngleUpdate) (d : Deed) (s : State) : (doDeed v u d s).pending = s.pending :=
  doDeed_changes v u d s .pending (by decide)

/-- The union taken at a place of the agenda. -/
theorem settleAt_changes (o : UpdateOrder) (k : Nat) (s : State) : Changes [.rct, .crg, .fls, .dgv, .rtb, .ntu, .trc] s (settleAt o k s) := by
  exact Changes.ite (settle_changes s) ((takeUnblock_changes s).mono (by simp))

@[simp] theorem settleAt_mfe (o : UpdateOrder) (k : Nat) (s : State) : (settleAt o k s).mfe = s.mfe :=
  settleAt_changes o k s .mfe (by decide)
@[simp] theorem settleAt_ffb (o : UpdateOrder) (k : Nat) (s : State) : (settleAt o k s).ffb = s.ffb :=
  settleAt_changes o k s .ffb (by decide)
@[simp] theorem settleAt_atr (o : UpdateOrder) (k : Nat) (s : State) : (settleAt o k s).atr = s.atr :=
  settleAt_changes o k s .atr (by decide)
@[simp] theorem settleAt_ssq (o : UpdateOrder) (k : Nat) (s : State) : (settleAt o k s).ssq = s.ssq :=
  settleAt_changes o k s .ssq (by decide)
@[simp] theorem settleAt_wcu (o : UpdateOrder) (k : Nat) (s : State) : (settleAt o k s).wcu = s.wcu :=
  settleAt_changes o k s .wcu (by decide)
@[simp] theorem settleAt_lnk (o : UpdateOrder) (k : Nat) (s : State) : (settleAt o k s).lnk = s.lnk :=
  settleAt_changes o k s .lnk (by decide)
@[simp] theorem settleAt_sst (o : UpdateOrder) (k : Nat) (s : State) : (settleAt o k s).sst = s.sst :=
  settleAt_changes o k s .sst (by decide)
@[simp] theorem settleAt_params (o : UpdateOrder) (k : Nat) (s : State) : (settleAt o k s).params = s.params :=
  settleAt_changes o k s .params (by decide)
@[simp] theorem settleAt_pins (o : UpdateOrder) (k : Nat) (s : State) : (settleAt o k s).pins = s.pins :=
  settleAt_changes o k s .pins (by decide)
@[simp] theorem settleAt_orders (o : UpdateOrder) (k : Nat) (s : State) : (settleAt o k s).orders = s.orders :=
  settleAt_changes o k s .orders (by decide)
@[simp] theorem settleAt_freeCount (o : UpdateOrder) (k : Nat) (s : State) : (settleAt o k s).freeCount = s.freeCount :=
  settleAt_changes o k s .freeCount (by decide)
@[simp] theorem settleAt_pending (o : UpdateOrder) (k : Nat) (s : State) : (settleAt o k s).pending = s.pending :=
  settleAt_changes o k s .pending (by decide)

/-- The deeds of an update. -/
theorem doDeeds_changes (o : UpdateOrder) (u : AngleUpdate) (v : View) (l : List (Nat × Deed)) (s : State) : Changes [.atr, .ssq, .crg, .fls, .dgv, .rtb, .rct, .ntu, .wcu, .trc] s (doDeeds o u v l s) := by
  induction l generalizing v s with
  | nil => exact (settle_changes s).mono (by simp)
  | cons x rest ih =>
    exact (((settleAt_changes o x.1 s).mono (by simp)).trans (doDeed_changes _ u x.2 _)).trans (ih _ _)

@[simp] theorem doDeeds_mfe (o : UpdateOrder) (u : AngleUpdate) (v : View) (l : List (Nat × Deed)) (s : State) : (doDeeds o u v l s).mfe = s.mfe :=
  doDeeds_changes o u v l s .mfe (by decide)
@[simp] theorem doDeeds_ffb (o : UpdateOrder) (u : AngleUpdate) (v : View) (l : List (Nat × Deed)) (s : State) : (doDeeds o u v l s).ffb = s.ffb :=
  doDeeds_changes o u v l s .ffb (by decide)
@[simp] theorem doDeeds_lnk (o : UpdateOrder) (u : AngleUpdate) (v : View) (l : List (Nat × Deed)) (s : State) : (doDeeds o u v l s).lnk = s.lnk :=
  doDeeds_changes o u v l s .lnk (by decide)
@[simp] theorem doDeeds_sst (o : UpdateOrder) (u : AngleUpdate) (v : View) (l : List (Nat × Deed)) (s : State) : (doDeeds o u v l s).sst = s.sst :=
  doDeeds_changes o u v l s .sst (by decide)
@[simp] theorem doDeeds_params (o : UpdateOrder) (u : AngleUpdate) (v : View) (l : List (Nat × Deed)) (s : State) : (doDeeds o u v l s).params = s.params :=
  doDeeds_changes o u v l s .params (by decide)
@[simp] theorem doDeeds_pins (o : UpdateOrder) (u : AngleUpdate) (v : View) (l : List (Nat × Deed)) (s : State) : (doDeeds o u v l s).pins = s.pins :=
  doDeeds_changes o u v l s .pins (by decide)
@[simp] theorem doDeeds_orders (o : UpdateOrder) (u : AngleUpdate) (v : View) (l : List (Nat × Deed)) (s : State) : (doDeeds o u v l s).orders = s.orders :=
  doDeeds_changes o u v l s .orders (by decide)
@[simp] theorem doDeeds_freeCount (o : UpdateOrder) (u : AngleUpdate) (v : View) (l : List (Nat × Deed)) (s : State) : (doDeeds o u v l s).freeCount = s.freeCount :=
  doDeeds_changes o u v l s .freeCount (by decide)
@[simp] theorem doDeeds_pending (o : UpdateOrder) (u : AngleUpdate) (v : View) (l : List (Nat × Deed)) (s : State) : (doDeeds o u v l s).pending = s.pending :=
  doDeeds_changes o u v l s .pending (by decide)

/-- An angle update taken. -/
theorem takeUpdate_changes (u : AngleUpdate) (s : State) : Changes [.atr, .ssq, .crg, .fls, .dgv, .rtb, .rct, .ntu, .wcu, .trc] s (takeUpdate u s) := by
  exact ((takeReseat_changes u s).mono (by simp)).trans (doDeeds_changes _ _ _ _ _)

@[simp] theorem takeUpdate_mfe (u : AngleUpdate) (s : State) : (takeUpdate u s).mfe = s.mfe :=
  takeUpdate_changes u s .mfe (by decide)
@[simp] theorem takeUpdate_ffb (u : AngleUpdate) (s : State) : (takeUpdate u s).ffb = s.ffb :=
  takeUpdate_changes u s .ffb (by decide)
@[simp] theorem takeUpdate_lnk (u : AngleUpdate) (s : State) : (takeUpdate u s).lnk = s.lnk :=
  takeUpdate_changes u s .lnk (by decide)
@[simp] theorem takeUpdate_sst (u : AngleUpdate) (s : State) : (takeUpdate u s).sst = s.sst :=
  takeUpdate_changes u s .sst (by decide)
@[simp] theorem takeUpdate_params (u : AngleUpdate) (s : State) : (takeUpdate u s).params = s.params :=
  takeUpdate_changes u s .params (by decide)
@[simp] theorem takeUpdate_pins (u : AngleUpdate) (s : State) : (takeUpdate u s).pins = s.pins :=
  takeUpdate_changes u s .pins (by decide)
@[simp] theorem takeUpdate_orders (u : AngleUpdate) (s : State) : (takeUpdate u s).orders = s.orders :=
  takeUpdate_changes u s .orders (by decide)
@[simp] theorem takeUpdate_freeCount (u : AngleUpdate) (s : State) : (takeUpdate u s).freeCount = s.freeCount :=
  takeUpdate_changes u s .freeCount (by decide)
@[simp] theorem takeUpdate_pending (u : AngleUpdate) (s : State) : (takeUpdate u s).pending = s.pending :=
  takeUpdate_changes u s .pending (by decide)

/-- A filtered set tracked and taken. -/
theorem trackAndTake_changes (f : FilteredSet) (s : State) : Changes [.atr, .ssq, .crg, .fls, .dgv, .rtb, .rct, .ntu, .wcu, .trc] s (trackAndTake f s) := by
  unfold trackAndTake
  dsimp only
  have h1 := (trackerUpdate_changes f s).mono (gs := [.atr, .ssq, .crg, .fls, .dgv, .rtb, .rct, .ntu, .wcu, .trc]) (by simp)
  split
  · exact h1.trans (takeUpdate_changes _ _)
  · exact h1.trans ((settle_changes _).mono (by simp))

@[simp] theorem trackAndTake_mfe (f : FilteredSet) (s : State) : (trackAndTake f s).mfe = s.mfe :=
  trackAndTake_changes f s .mfe (by decide)
@[simp] theorem trackAndTake_ffb (f : FilteredSet) (s : State) : (trackAndTake f s).ffb = s.ffb :=
  trackAndTake_changes f s .ffb (by decide)
@[simp] theorem trackAndTake_lnk (f : FilteredSet) (s : State) : (trackAndTake f s).lnk = s.lnk :=
  trackAndTake_changes f s .lnk (by decide)
@[simp] theorem trackAndTake_sst (f : FilteredSet) (s : State) : (trackAndTake f s).sst = s.sst :=
  trackAndTake_changes f s .sst (by decide)
@[simp] theorem trackAndTake_params (f : FilteredSet) (s : State) : (trackAndTake f s).params = s.params :=
  trackAndTake_changes f s .params (by decide)
@[simp] theorem trackAndTake_pins (f : FilteredSet) (s : State) : (trackAndTake f s).pins = s.pins :=
  trackAndTake_changes f s .pins (by decide)
@[simp] theorem trackAndTake_orders (f : FilteredSet) (s : State) : (trackAndTake f s).orders = s.orders :=
  trackAndTake_changes f s .orders (by decide)
@[simp] theorem trackAndTake_freeCount (f : FilteredSet) (s : State) : (trackAndTake f s).freeCount = s.freeCount :=
  trackAndTake_changes f s .freeCount (by decide)
@[simp] theorem trackAndTake_pending (f : FilteredSet) (s : State) : (trackAndTake f s).pending = s.pending :=
  trackAndTake_changes f s .pending (by decide)

/-- A trimmed set filtered, tracked and taken. -/
theorem filterAndTrack_changes (t : TrimmedSet) (s : State) : Changes [.ffb, .atr, .ssq, .crg, .fls, .dgv, .rtb, .rct, .ntu, .wcu, .trc] s (filterAndTrack t s) := by
  unfold filterAndTrack
  dsimp only
  have h1 := (filterSet_changes t s).mono
    (gs := [.ffb, .atr, .ssq, .crg, .fls, .dgv, .rtb, .rct, .ntu, .wcu, .trc]) (by simp)
  split
  · exact h1.trans ((trackAndTake_changes _ _).mono (by simp))
  · exact h1.trans ((settle_changes _).mono (by simp))

@[simp] theorem filterAndTrack_mfe (t : TrimmedSet) (s : State) : (filterAndTrack t s).mfe = s.mfe :=
  filterAndTrack_changes t s .mfe (by decide)
@[simp] theorem filterAndTrack_lnk (t : TrimmedSet) (s : State) : (filterAndTrack t s).lnk = s.lnk :=
  filterAndTrack_changes t s .lnk (by decide)
@[simp] theorem filterAndTrack_sst (t : TrimmedSet) (s : State) : (filterAndTrack t s).sst = s.sst :=
  filterAndTrack_changes t s .sst (by decide)
@[simp] theorem filterAndTrack_params (t : TrimmedSet) (s : State) : (filterAndTrack t s).params = s.params :=
  filterAndTrack_changes t s .params (by decide)
@[simp] theorem filterAndTrack_pins (t : TrimmedSet) (s : State) : (filterAndTrack t s).pins = s.pins :=
  filterAndTrack_changes t s .pins (by decide)
@[simp] theorem filterAndTrack_orders (t : TrimmedSet) (s : State) : (filterAndTrack t s).orders = s.orders :=
  filterAndTrack_changes t s .orders (by decide)
@[simp] theorem filterAndTrack_freeCount (t : TrimmedSet) (s : State) : (filterAndTrack t s).freeCount = s.freeCount :=
  filterAndTrack_changes t s .freeCount (by decide)
@[simp] theorem filterAndTrack_pending (t : TrimmedSet) (s : State) : (filterAndTrack t s).pending = s.pending :=
  filterAndTrack_changes t s .pending (by decide)

/-- A conversion set. -/
theorem conversionSet_changes (raw : RawSet) (s : State) : Changes [.mfe, .ffb, .atr, .ssq, .crg, .fls, .dgv, .rtb, .rct, .ntu, .wcu, .trc, .orders] s (conversionSet raw s) := by
  unfold conversionSet
  dsimp only
  have h1 := (completeSet_changes raw s).mono
    (gs := [.mfe, .ffb, .atr, .ssq, .crg, .fls, .dgv, .rtb, .rct, .ntu, .wcu, .trc, .orders]) (by simp)
  have h2 : Changes [.mfe, .ffb, .atr, .ssq, .crg, .fls, .dgv, .rtb, .rct, .ntu, .wcu, .trc, .orders] s
      (if s.order.tripFirst then settleAt s.order 0 (tripCheck (completeSet raw s)) else completeSet raw s) :=
    Changes.ite ((h1.trans ((tripCheck_changes _).mono (by simp))).trans ((settleAt_changes _ _ _).mono (by simp))) h1
  refine Changes.trans (t := match (if s.order.tripFirst then settleAt s.order 0 (tripCheck (completeSet raw s)) else
      completeSet raw s).mfe.trimmed with
    | some t => filterAndTrack t (if s.order.tripFirst then settleAt s.order 0 (tripCheck (completeSet raw s)) else completeSet raw s)
    | none => settle (if s.order.tripFirst then settleAt s.order 0 (tripCheck (completeSet raw s)) else completeSet raw s)) ?_
    ((Changes.withOrders _ _).mono (by simp))
  split
  · exact h2.trans ((filterAndTrack_changes _ _).mono (by simp))
  · exact h2.trans ((settle_changes _).mono (by simp))

@[simp] theorem conversionSet_lnk (raw : RawSet) (s : State) : (conversionSet raw s).lnk = s.lnk :=
  conversionSet_changes raw s .lnk (by decide)
@[simp] theorem conversionSet_sst (raw : RawSet) (s : State) : (conversionSet raw s).sst = s.sst :=
  conversionSet_changes raw s .sst (by decide)
@[simp] theorem conversionSet_params (raw : RawSet) (s : State) : (conversionSet raw s).params = s.params :=
  conversionSet_changes raw s .params (by decide)
@[simp] theorem conversionSet_pins (raw : RawSet) (s : State) : (conversionSet raw s).pins = s.pins :=
  conversionSet_changes raw s .pins (by decide)
@[simp] theorem conversionSet_freeCount (raw : RawSet) (s : State) : (conversionSet raw s).freeCount = s.freeCount :=
  conversionSet_changes raw s .freeCount (by decide)
@[simp] theorem conversionSet_pending (raw : RawSet) (s : State) : (conversionSet raw s).pending = s.pending :=
  conversionSet_changes raw s .pending (by decide)

end Sys2Proof.Machine
end

