-- ==== Sys2Proof/Laws/Take.lean ====
section
/-!
SUPPORT. What an update is taken under, a hand-off open and blocked, and that every shared operation of an update leaves a
blocked list without entries, so that the union of block reasons, once taken, is settled.
-/

namespace Sys2Proof.Machine

/-! What an update is taken under. -/

@[simp] theorem view_live (s : State) : s.view.live = s.active := rfl
@[simp] theorem view_unseen (s : State) : s.view.unseen = false := rfl
@[simp] theorem view_floor (s : State) : s.view.floor = s.floorEp := rfl

/-- Only the sequencer's own taking of the update changes what it has read (R44, R46). -/
@[simp] theorem after_take (v : View) (s : State) : v.after .take s = { v with live := s.active, unseen := !s.union } := rfl

/-- Only the ramp step changes the floor (R57). -/
@[simp] theorem after_ramp (v : View) (s : State) : v.after .ramp s = { v with floor := s.floorEp } := rfl
@[simp] theorem after_path (v : View) (d : Nat) (s : State) : v.after (.path d) s = v := rfl
@[simp] theorem after_listEnd (v : View) (s : State) : v.after .listEnd s = v := rfl
@[simp] theorem after_trip (v : View) (s : State) : v.after .trip s = v := rfl
@[simp] theorem after_governor (v : View) (s : State) : v.after .governor s = v := rfl
@[simp] theorem after_run (v : View) (s : State) : v.after .run s = v := rfl
@[simp] theorem after_watch (v : View) (s : State) : v.after .watch s = v := rfl

@[simp] theorem at_live (v : View) (o : UpdateOrder) (k : Nat) : (v.at o k).live = v.live := rfl
@[simp] theorem at_floor (v : View) (o : UpdateOrder) (k : Nat) : (v.at o k).floor = v.floor := rfl

/-- From the order's place of sight on, a raised block reason is seen (R46). -/
theorem at_seen (v : View) (o : UpdateOrder) (k : Nat) (h : o.sight ≤ k) : (v.at o k).unseen = false := by
  have : ¬ k < o.sight := by omega
  simp [View.at, this]

/-! Hand-offs. -/

/-- A hand-off while pulses are allowed joins the tail (R72). -/
theorem handOff_open (e : Entry) (s : State) (h : s.fls.blocked = false) :
    handOff e s = s.withFls { s.fls with list := s.fls.list ++ [e] } := by
  unfold handOff; exact if_neg (by simp [h])

/-- A hand-off while blocked leaves no entry (R72, R90). -/
theorem handOff_blocked (e : Entry) (s : State) (h : s.fls.blocked = true) :
    (handOff e s).fls.list = [] ∧ (handOff e s).fls.blocked = true := by
  unfold handOff
  rw [if_pos (by simp [h])]
  exact ⟨(closeList_spec _).1, (closeList_spec _).2.1⟩

/-! No entry while blocked. -/

/-- While the list is blocked it holds no entry (R90). -/
def State.NoneHeld (s : State) : Prop := s.fls.blocked = true → s.fls.list = []

/-- It depends on the firing list alone. -/
theorem noneHeld_of_fls {s t : State} (h : s.NoneHeld) (e : t.fls = s.fls) : t.NoneHeld := by
  unfold State.NoneHeld; rw [e]; exact h

/-- A lifted union taken (R88). -/
theorem takeUnblock_noneHeld {s : State} (h : s.NoneHeld) : (takeUnblock s).NoneHeld := by
  unfold takeUnblock; split
  · intro hb; simp at hb
  · exact h

/-- A risen union taken (R90). -/
theorem takeClose_noneHeld {s : State} (h : s.NoneHeld) : (takeClose s).1.NoneHeld := by
  unfold takeClose; split
  · intro _; exact (closeList_spec s).1
  · exact h

/-- An entry to STANDBY or HALT. -/
theorem endRun_noneHeld {s : State} (h : s.NoneHeld) : (endRun s).NoneHeld := by
  unfold endRun
  have h0 : (zeroSetpoints s).NoneHeld := h
  refine noneHeld_of_fls (s := if s.order.closeFirst then (takeClose (zeroSetpoints s)).1 else zeroSetpoints s) ?_ (endEpisode_fls _)
  split
  · exact takeClose_noneHeld h0
  · exact h0

/-- A halt. -/
theorem takeHalt_noneHeld (c : HaltCause) {s : State} (h : s.NoneHeld) : (takeHalt c s).NoneHeld := by
  unfold takeHalt; split
  · exact endRun_noneHeld (noneHeld_of_fls h (by simp [enterHalt]))
  · exact h

/-- A halt asked for. -/
theorem askHalt_noneHeld (c? : Option HaltCause) {s : State} (h : s.NoneHeld) : (askHalt c? s).NoneHeld := by
  cases c? with
  | none => exact h
  | some c => exact takeHalt_noneHeld c h

/-- The check of the trimmed set. -/
theorem tripCheck_noneHeld {s : State} (h : s.NoneHeld) : (tripCheck s).NoneHeld := by
  unfold tripCheck; split
  · exact askHalt_noneHeld _ h
  · exact h

/-- A clear. -/
theorem takeClear_noneHeld (u : AngleUpdate) {s : State} (h : s.NoneHeld) : (takeClear u s).1.NoneHeld :=
  noneHeld_of_fls (takeClose_noneHeld h) (by simp [takeClear])

/-- Expiry, length and clear. -/
theorem judgeEpisode_noneHeld (u : AngleUpdate) {s : State} (h : s.NoneHeld) : (judgeEpisode u s).1.NoneHeld := by
  have h1 : ∀ r : State × Option HaltCause, r.1.NoneHeld → (if r.2.isSome then r
      else if tooLong u r.1 then (r.1, some .episodeLong)
      else
        let t := countC u r.1
        if t.parN .clearCount ≤ t.dgv.cCount then takeClear u t else (t, none)).1.NoneHeld := by
    intro r hr
    have h2 : (countC u r.1).NoneHeld := noneHeld_of_fls hr (by simp)
    dsimp only
    split
    · exact hr
    · split
      · exact hr
      · split
        · exact takeClear_noneHeld u h2
        · exact h2
  refine h1 _ ?_
  split
  · exact noneHeld_of_fls h (by simp)
  · exact h

/-- The governor's update. -/
theorem governorStep_noneHeld (u : AngleUpdate) {s : State} (h : s.NoneHeld) : (governorStep u s).1.NoneHeld := by
  unfold governorStep
  split
  · split
    · unfold episodeStep
      dsimp only
      split
      · exact noneHeld_of_fls h (by simp)
      · exact judgeEpisode_noneHeld u (noneHeld_of_fls h (by simp))
    · exact noneHeld_of_fls h (by simp)
  · exact h

/-- The governor and its halt. -/
theorem governorDeed_noneHeld (u : AngleUpdate) {s : State} (h : s.NoneHeld) : (governorDeed u s).NoneHeld :=
  askHalt_noneHeld _ (takeUnblock_noneHeld (governorStep_noneHeld u h))

/-- The union taken. -/
theorem settle_noneHeld {s : State} (h : s.NoneHeld) : (settle s).NoneHeld := (settle_settled s h).2

/-- Taken once, the union is taken (R88). -/
theorem settle_settle {s : State} (h : s.NoneHeld) : settle (settle s) = settle s := settle_of_settled _ (settle_settled s h)

/-- Handing an entry off. -/
theorem handOff_noneHeld (e : Entry) {s : State} : (handOff e s).NoneHeld := by
  cases hb : s.fls.blocked
  · rw [handOff_open e s hb]; intro h; simp [hb] at h
  · exact fun _ => (handOff_blocked e s hb).1

/-- Every entry at a path point: as many as before. -/
theorem passEntries_length (s : State) (u : AngleUpdate) (x : Nat) (avg : Tab Nat 4) (l : List Entry) :
    (passEntries s u x avg l).1.length = l.length := by
  induction l generalizing avg with
  | nil => rfl
  | cons e rest ih => simp [passEntries, ih]

/-- The firing list at a path point. -/
theorem firePoint_noneHeld (u : AngleUpdate) (x : Nat) {s : State} (h : s.NoneHeld) : (firePoint u x s).NoneHeld := by
  intro hb
  have hl : s.fls.list = [] := h (by simpa [firePoint] using hb)
  simp [firePoint, hl, passEntries]

end Sys2Proof.Machine
end

