-- ==== Sys2Proof/Tests/Slice0.lean ====
section
/-!
SUPPORT. Tests. The worked cases of the chapters, with the values the manual prints; ill-formed commands that the check
refuses; and, for every statement with hypotheses, a state and operands that meet them.
-/

namespace Sys2Proof.Tests

open Sys2Proof.Machine Sys2Proof.Claims

set_option Elab.async false

/-! States the tests start from. -/

/-- The part in STANDBY after its power-on load. -/
def awake : State := { State.reset with sst := { State.reset.sst with activity := .idle } }

/-- The part as the load at power-on runs. -/
def loadingUp : State := State.reset

/-- A settings save has begun. -/
def saving : State := { awake with sst := { awake.sst with activity := .saving 0 } }

/-- The save at its last row. -/
def savingLast : State := { awake with sst := { awake.sst with activity := .saving 511 } }

/-- A filtered set without voltage or current. -/
def set0 : FilteredSet := ⟨5000, Tab.fill 3 0, Tab.fill 3 0, Tab.fill 4 0, 0⟩

/-- An update across 16 au with the tracker LOCKED. -/
def u0 : AngleUpdate := ⟨100, 116, 4096, 0, 14746, .locked, false, 0, set0⟩

/-- The group in RUN with pulses allowed. -/
def inRun : State :=
  { awake with
    rct := { awake.rct with state := .run }
    atr := { awake.atr with state := .locked, seated := true, last := some u0 }
    fls := { awake.fls with blocked := false }
    mfe := { awake.mfe with count := 5000 } }

/-- The group in SYNC, pending sync set. -/
def inSync : State :=
  { awake with
    rct := { awake.rct with state := .sync }
    ssq := { awake.ssq with pendingSync := true }
    atr := { awake.atr with state := .locked, seated := true, last := some u0 } }

/-- The group in STOPPING. -/
def inStopping : State := { inRun with rct := { inRun.rct with state := .stopping } }

/-- The group in HALT, the governor in STEADY. -/
def inHalt : State := { awake with rct := { awake.rct with state := .halt } }

/-- The response fields of entry 17 of the worked episode (6.10). -/
def resp17 : Response := ⟨.ride, 1024, 6000, 1000, .trip, 7000, 500, .freeze⟩

/-- A record of the episode under way. -/
def record41 : HistoryRecord := ⟨41, 1000, .sagAsym, .sagAsym, 2, .entry 17, false, false, .ongoing, none⟩

/-- An episode under way in RUN. -/
def inEpisode : State :=
  { inRun with dgv := { inRun.dgv with
      state := .episode, kind := some .sagAsym, band := 2, start := 1000, copy := some ⟨resp17, .entry 17⟩
      rideOut := true, freeze := true, history := [record41], nextNumber := 42 } }

/-- A recovery under way in RUN. -/
def inRecovery : State :=
  { inEpisode with dgv := { inEpisode.dgv with state := .recovery, freeze := false, recovery := 2500 } }

/-- An entry of slot 0 in CONDUCTING with its notch close at 116. -/
def entry0 : Entry :=
  { slot := 0, bridge := 0, pair := 0, alpha := 6000, fire := 22516, refOpen := 22068, refClose := 22388, gateOff := 22996
    notchClose := 116, config := ⟨.vab, 5000, 16777215⟩, iMeas := 11500, iSet := 12000, refArea := 0, refSamples := 0
    notchArea := 46000, notchSamples := 16, disturbed := false, drive := false, state := .conducting, outcome := none
    episodeMark := false, doneTime := 0 }

/-- The entry retired with an outcome. -/
def doneEntry (o : RetireOutcome) : Entry := { entry0 with state := .done, outcome := some o, doneTime := 5000 }

/-- The group in RUN with a list. -/
def withList (l : List Entry) : State := { inRun with fls := { inRun.fls with list := l } }

/-! Ill-formed commands: a payload too long for a frame, an unknown kind that is known, a halt cause without its detail. -/

theorem test_wf_refuses_long_payload : (Instr.unknownKind 0x7F 1 (List.replicate 239 0)).wellFormed = false := by
  decide +kernel

theorem test_wf_refuses_known_kind : (Instr.unknownKind 0x3F 1 []).wellFormed = false := by decide +kernel

theorem test_wf_refuses_response_without_entry : (Instr.haltCause (.response .none)).wellFormed = false := by
  decide +kernel

theorem test_wf_refuses_expiry_without_entry : (Instr.haltCause (.expiry .none)).wellFormed = false := by decide +kernel

theorem test_wf_takes_halt_by_default_entry : (Instr.haltCause (.expiry .dflt)).wellFormed = true := by decide +kernel

/-! Worked trims (1.2) and the worked filter stage (1.4). -/

theorem test_trims : (trimValue ⟨BitVec.ofInt 16 (-200), 8600, false⟩ 12000).toInt = 12808
    ∧ (trimValue ⟨0, 12288, false⟩ (BitVec.ofInt 16 (-3))).toInt = -4
    ∧ (trimValue ⟨BitVec.ofInt 16 (-1000), 9000, true⟩ 32767).toInt = -32767
    ∧ (trimValue ⟨0, 8192, true⟩ (BitVec.ofInt 16 (-32768))).toInt = 32767 := by decide +kernel

/-- The coefficients of the worked stage. -/
def workedStage : Coeffs := ⟨4096, 8192, 4096, BitVec.ofInt 16 (-16000), 7000⟩

theorem test_filter_two_sets :
    stageShift workedStage ⟨9000, 8000, 20000, 18000⟩ 10000 = ⟨10000, 9000, 20841, 20000⟩
    ∧ stageShift workedStage ⟨10000, 9000, 20841, 20000⟩ 12000 = ⟨12000, 10000, 22058, 20841⟩ := by decide +kernel

theorem test_filter_saturates :
    stageOut ⟨8192, 8192, 8192, BitVec.ofInt 16 (-16384), 8192⟩ ⟨30000, 30000, 30000, 30000⟩ 30000 = 32767
    ∧ stageSaturates ⟨8192, 8192, 8192, BitVec.ofInt 16 (-16384), 8192⟩ ⟨30000, 30000, 30000, 30000⟩ 30000 = true := by
  decide +kernel

/-! Worked vectors, one tracking update and the 30° phase jump (2.2, 2.3). -/

/-- A filtered set with the two line voltages. -/
def voltages (vab vbc : Int) : FilteredSet := { set0 with filtered := ⟨[BitVec.ofInt 16 vab, BitVec.ofInt 16 vbc, 0], rfl⟩ }

theorem test_vector_first : thetaRaw 30000 17320 = 1920 ∧ magnitude 30000 17320 34641 = 4096 ∧ nominalLength 20000 = 34641
    ∧ vectorX (voltages 10000 10000) = 30000 ∧ vectorY (voltages 10000 10000) = 17320 := by decide +kernel

theorem test_vector_second : thetaRaw 2000 20784 = 5408 ∧ magnitude 2000 20784 34641 = 2469
    ∧ vectorX (voltages (-5000) 12000) = 2000 ∧ vectorY (voltages (-5000) 12000) = 20784 := by decide +kernel

theorem test_phase_correction_wraps : angleOf (1000 - 2000) = 22040 ∧ angleOf (22500 + 2880) = 2340 := by decide +kernel

theorem test_one_tracking_update : trackW 16 14746 20 = 14747 ∧ advanceP 486500 (trackAdvance 24 14747 20) = 501727
    ∧ 501727 / 256 = 1959 := by decide +kernel

theorem test_phase_jump : trackW 16 14746 1920 = 14866 ∧ advanceP 2560000 (trackAdvance 24 14866 1920) = 2589732
    ∧ trackW 16 14866 1862 = 14982 ∧ advanceP 2589732 (trackAdvance 24 14982 1862) = 2619696
    ∧ trackW 16 14982 1802 = 15094 ∧ advanceP 2619696 (trackAdvance 24 15094 1802) = 2649884 := by decide +kernel

theorem test_centihertz : centihertz 14746 = 5000 ∧ wNominal 50 = 14746 ∧ wNominal 60 = 17695 := by decide +kernel

/-! Worked geometry and crossings (3.1, 3.3). -/

theorem test_geometry_four_bridges : awake.baseAngle 23 = 960 ∧ awake.dispatchAngle 23 = 22080 ∧ awake.baseAngle 0 = 1920
    ∧ awake.dispatchAngle 5 = 4800 := by decide +kernel

theorem test_geometry_two_bridges :
    let s := (awake.withPar .bridges 2).withPar .shift1 1920
    s.baseAngle 11 = 0 ∧ s.dispatchAngle 11 = 21120 ∧ s.baseAngle 4 = 9600 ∧ s.dispatchAngle 3 = 5760 := by decide +kernel

theorem test_crossing_wraps : crosses 23000 40 false 23001 = true ∧ crosses 23000 40 false 0 = true
    ∧ crosses 23000 40 false 40 = true ∧ crosses 23000 40 false 41 = false ∧ crosses 23000 40 false 23000 = false
    ∧ crosses 13410 5000 true 20000 = false := by decide +kernel

/-! Worked dispatch, preset and limits (4.3, 4.4, 4.2). -/

/-- The parameters of the worked dispatch. -/
def workedRegulator : State :=
  (((((inRun.withPar .alphaCenter 5760).withPar .curKp 64).withPar .curKi 4).withPar .alphaMin 960).withPar
    .alphaMax 9600).withPar .alphaSlewDn 320

theorem test_dispatch : regulate workedRegulator 0 ⟨0, 12000 * 256, 768000, 2700, false, none⟩ 11500
    = ⟨0, 12000 * 256, 770000, 2635, false, none⟩ := by decide +kernel

theorem test_preset : regulate workedRegulator 0 ⟨0, 5000 * 256, 5, 2000, true, some 7000⟩ 150
    = ⟨0, 5000 * 256, -317440, 6680, false, some 7000⟩ := by decide +kernel

theorem test_recovery_limit : (inRecovery.withPar .iMax 20000).limit = 8750
    ∧ ({ inRecovery with dgv := { inRecovery.dgv with recovery := 9999 } } |>.withPar .iMax 20000).limit = 19998
    ∧ (inEpisode.withPar .iMax 20000).limit = 5000 := by decide +kernel

theorem test_ramp_step : rampBridge 8750 256 1024 ⟨16000, 7499 * 256, 0, 0, false, none⟩
    = ⟨16000, 7500 * 256, 0, 0, false, none⟩
    ∧ rampBridge 5000 256 1024 ⟨16000, 4096000, 0, 0, false, none⟩ = ⟨16000, 5000 * 256, 0, 0, false, none⟩ := by
  decide +kernel

/-! Worked judgement and block (5.5, 5.7). -/

theorem test_judgement : judgeNotch awake u0 entry0 40000 = .confirmed ∧ averageAfter awake 40000 46000 = 40750
    ∧ averageAfter awake 40750 38000 = 40665 ∧ judgeNotch awake u0 { entry0 with notchArea := 9000 } 40665 = .misfire := by
  decide +kernel

theorem test_block :
    let l := [{ entry0 with state := .waiting, slot := 4 }, { entry0 with slot := 5, drive := true },
      { entry0 with state := .waiting, slot := 6 }, { entry0 with state := .waiting, slot := 7 }]
    let s := withList l
    let t := (closeList { s with fls := { s.fls with seq := 816 } }).1
    t.fls.list = [] ∧ t.fls.seq = 820
    ∧ t.trc.ring.map (fun r => (r.seq.toNat, r.outcome, r.areas.isSome)) =
        [(816, .cancelled, false), (817, .indeterminate, true), (818, .cancelled, false), (819, .cancelled, false)] := by
  decide +kernel

/-! The worked episode and search (6.10, 7.6). -/

theorem test_onset_kind_and_band :
    classify inRun { u0 with m := 2900, uLast := 520 } = .sagAsym ∧ bandOf .sagAsym ⟨2900, 3300, 90, 12⟩ = 2
    ∧ bandOf .sagAsym ⟨2500, 3300, 90, 12⟩ = 3 := by decide +kernel

/-- Entries 9, 11 and 17 of the worked search. -/
def workedTable : State :=
  { inRun with rtb := { inRun.rtb with
      entries := ((inRun.rtb.entries.set 9
        ⟨true, .sagAsym, false, 0, 2, ⟨.ride, 2048, 4800, 400, .block, 6400, 500, .freeze⟩⟩).set 11
        ⟨true, .sagAsym, true, 3, 7, ⟨.block, 0, 9600, 300, .trip, 7680, 1000, .freeze⟩⟩).set 17
        ⟨true, .sagAsym, true, 3, 7, resp17⟩ } }

theorem test_search : (searchResult .sagAsym 2 workedTable).ix = .entry 9
    ∧ searchResult .sagAsym 3 workedTable = ⟨resp17, .entry 17⟩ ∧ (searchResult .loss 3 workedTable).ix = .dflt := by
  decide +kernel

/-! The worked watch, fetch, trace and frame (9.2 to 9.4, 10.2). -/

/-- Unit 2 after each of the bus voltages of the worked watch: condition, armed. -/
def watchRow (w : Watch) (v : Int) : Watch := watchAfter { u0 with set := { set0 with vdc := BitVec.ofInt 16 v } } awake w

theorem test_watch :
    let w0 : Watch := ⟨⟨.vdc, 27000, true, true⟩, true, false⟩
    let b := watchRow (watchRow w0 26950) 27010
    let d := watchRow (watchRow b 26990) 27040
    let g := watchRow (watchRow (watchRow { d with armed := true } 27060) 26980) 27020
    (b.condition, b.armed) = (true, false) ∧ (d.condition, d.armed) = (true, false)
    ∧ (g.condition, g.armed) = (true, false)
    ∧ watchFires { u0 with set := { set0 with vdc := 27060 } } awake { d with armed := true } = false := by decide +kernel

/-- The sources of the worked fetch. -/
def workedFetch : State :=
  occurTimes 14 .adcClip (occur .traceFrozen (occur .haltEntered (occurTimes 3 .slotMisfire (occur .trackLocked awake))))

theorem test_fetch : latchedSources workedFetch = [4, 5, 13, 18, 6] := by decide +kernel

theorem test_ack : (ackSources [4, 5, 18] workedFetch.ntu.sources).2 = [1, 3, 1] := by decide +kernel

/-- The frozen trace of the worked halt: entries 1005 to 1260, trigger position 1256. -/
def workedRing : List TraceRecord :=
  (List.range 256).map fun n => ⟨BitVec.ofNat 16 (1005 + n), 0, 7, 3, 6000, 0, .misfire, none, 0, false⟩

theorem test_read_trace : traceStart workedRing 1003 = none ∧ traceStart workedRing 1256 = some 251 := by decide +kernel

theorem test_frame : (Frame.wire ⟨0x02, 0x17, []⟩) = [0xC3, 0x02, 0x02, 0x17, 0x48, 0xA6]
    ∧ crcByte 0xFFFF 0x02 = 0xC1B2 ∧ crcByte 0xC1B2 0x02 = 0x5B2F ∧ crcByte 0x5B2F 0x17 = 0xA648 := by decide +kernel

theorem test_crc_check_value : crc [0x31, 0x32, 0x33, 0x34, 0x35, 0x36, 0x37, 0x38, 0x39] = 0x29B1 := by decide +kernel

theorem test_row_code : readRow (encodeRow 0xDEADBEEF) = .clean 0xDEADBEEF
    ∧ readRow (disturbRow (encodeRow 0xDEADBEEF) 0x4000000000) = .corrected 0xDEADBEEF
    ∧ readRow (disturbRow (encodeRow 0xDEADBEEF) 3) = .uncorrectable := by decide +kernel

/-! One step of the queue, and the idle step. -/

theorem test_idle : step awake = .next awake := rfl

theorem test_step_takes_the_front : step (awake.withPending [.tripInAssert]) =
    .next { awake with rct := { awake.rct with tripIn := true } } := by rfl


/-! Witnesses: for each statement with hypotheses, states and operands that meet them, clause by clause. -/

/-- Being settled, as a check. -/
theorem settledOf (s : State) (h : (s.fls.blocked == s.union && (!s.fls.blocked || s.fls.list.isEmpty)) = true) :
    s.ListSettled := by
  simp at h
  refine ⟨h.1, fun hb => ?_⟩
  simpa [hb] using h.2

/-- Being free, as a check. -/
theorem freeOf (s : State) (h : (!s.asleep && s.lnk.inbox.isEmpty
    && (s.fls.blocked == s.union && (!s.fls.blocked || s.fls.list.isEmpty))) = true) : Free s := by
  simp only [Bool.and_eq_true, Bool.not_eq_true', List.isEmpty_iff] at h
  exact ⟨h.1.1, h.1.2, settledOf s (by simpa using h.2)⟩

/-- A save running, as a check. -/
theorem notSaving (s : State) (h : s.saving = false) : ¬ SaveRunning s := by
  rintro ⟨n, hn⟩
  simp [State.saving, hn] at h

/-- SYNC, RUN and STOPPING, as a check. -/
theorem activeOf (s : State) (h : s.active = true) : Running3 s := by
  unfold State.active at h
  unfold Running3
  cases hs : s.rct.state <;> simp_all

/-- STANDBY and HALT, as a check. -/
theorem idleOf (s : State) (h : s.active = false) : ¬ Running3 s := by
  unfold State.active at h
  unfold Running3
  cases hs : s.rct.state <;> simp_all

/-- Tracker values in range, as a check. -/
theorem trackerOf (s : State) (h : (decide (13271 ≤ s.atr.w) && decide (s.atr.w ≤ 19169) && decide (s.atr.p < 5898240)
    && decide (s.atr.thetaMeas < 23040) && decide (s.atr.m ≤ 8191) && decide (-11520 ≤ s.atr.e)
    && decide (s.atr.e ≤ 11519)) = true) : s.TrackerInRange := by
  simp only [Bool.and_eq_true, decide_eq_true_eq] at h
  exact ⟨h.1.1.1.1.1.1, h.1.1.1.1.1.2, h.1.1.1.1.2, h.1.1.1.2, h.1.1.2, h.1.2, h.2⟩

/-- Parameters in range, as a check. -/
theorem paramsOf (s : State) (h : s.params = Params.defaults) : s.ParamsInRange := by
  intro p
  unfold State.par
  rw [h]
  cases p <;> decide +kernel

theorem free_awake : Free awake := freeOf _ (by decide +kernel)
theorem free_saving : Free saving := freeOf _ (by decide +kernel)
theorem saving_saving : SaveRunning saving := ⟨0, rfl⟩
theorem not_saving_awake : ¬ SaveRunning awake := notSaving _ rfl
theorem free_inRun : Free inRun := freeOf _ (by decide +kernel)
theorem free_inSync : Free inSync := freeOf _ (by decide +kernel)
theorem free_inStopping : Free inStopping := freeOf _ (by decide +kernel)
theorem free_inHalt : Free inHalt := freeOf _ (by decide +kernel)
theorem settled_inEpisode : inEpisode.ListSettled := settledOf _ (by decide +kernel)
theorem settled_inRecovery : inRecovery.ListSettled := settledOf _ (by decide +kernel)

theorem witness_ResetLineHoldsAndLoads : awake.sst.activity ≠ .saving 0 ∧ saving.sst.activity ≠ .saving 1
    ∧ saving.sst.activity ≠ .saving 511 := by decide +kernel

theorem witness_SoftResetKeepsSettings : awake.asleep = false ∧ saving.asleep = false ∧ saving.sst.activity ≠ .saving 1 := by
  decide +kernel

/-- A load that LOAD_SETTINGS began, its request under handling; one whose row 0 cannot be read. -/
def reloading : State :=
  { awake with sst := { awake.sst with activity := .loading }, lnk := { awake.lnk with inbox := [⟨0x3D, 7, []⟩] } }
def badRow : State :=
  { reloading with sst :=
      { reloading.sst with rows := reloading.sst.rows.set 0 (disturbRow (reloading.sst.rows.get 0) 3) } }

theorem witness_LoadEndInstallsImage :
    (reloading.ListSettled ∧ reloading.sst.activity = .loading ∧ reloading.lnk.inbox = [⟨0x3D, 7, []⟩])
    ∧ (badRow.ListSettled ∧ badRow.sst.activity = .loading ∧ readRow (badRow.sst.rows.get 0) = .uncorrectable)
    ∧ (loadingUp.ListSettled ∧ loadingUp.sst.activity = .powerOnLoad ∧ loadingUp.pins.resetLow = false)
    ∧ (awake.ListSettled ∧ awake.sst.activity = .idle) ∧ (saving.ListSettled ∧ saving.sst.activity = .saving 0) :=
  ⟨⟨free_awake.2.2, rfl, rfl⟩, ⟨free_awake.2.2, rfl, by decide +kernel⟩, ⟨settledOf _ (by decide +kernel), rfl, rfl⟩,
    ⟨free_awake.2.2, rfl⟩, ⟨free_saving.2.2, rfl⟩⟩

/-- A set with one clip, and one without. -/
def rawClip : RawSet := ⟨0x7FFF, 0, 0, 0, 0, 0, 0, 0⟩

/-- A state with a trimmed set, which the filter bank and the tracker take. -/
def Measures (d : State) : Prop :=
  ∃ w f u, d.mfe.trimmed = some w ∧ (filterSet w d).ffb.filtered = some f
    ∧ (trackerUpdate f (filterSet w d)).atr.last = some u

theorem measures (d : State) (h : d.mfe.trimmed.isSome = true) : Measures d := by
  obtain ⟨w, hw⟩ := Option.isSome_iff_exists.mp h
  have hf : (filterSet w d).ffb.filtered.isSome = true := by
    unfold filterSet; split
    · dsimp only; split <;> simp
    · simp
  obtain ⟨f, hf⟩ := Option.isSome_iff_exists.mp hf
  have hu : (trackerUpdate f (filterSet w d)).atr.last.isSome = true := by simp [trackerUpdate, occurIf_atr]
  obtain ⟨u, hu⟩ := Option.isSome_iff_exists.mp hu
  exact ⟨w, f, u, hw, hf, hu⟩

theorem witness_ConversionSetMeasures :
    ((⟨0, 0, false⟩ : Trim).gain = 0 ∧ awake.asleep = false ∧ loadingUp.asleep = true
      ∧ ((rawTab rawClip).get 0).toInt = 32767 ∧ (rawTab ⟨0, 0, 0, 0, 0, 0, 0, 0⟩).list.any isClip = false)
    ∧ (awake.ListSettled ∧ ¬ Running3 awake) ∧ (inRun.ListSettled ∧ inRun.TrackerInRange)
    ∧ (inRun.asleep = false ∧ inRun.order = .usual ∧ Measures (settle (tripCheck (completeSet rawClip inRun)))) :=
  ⟨by decide +kernel, ⟨free_awake.2.2, idleOf _ rfl⟩, ⟨free_inRun.2.2, trackerOf _ (by decide +kernel)⟩, rfl, rfl,
    measures _ (by decide +kernel)⟩

/-- A filter bank of the stage whose output saturates, at the inputs that show it on channel VAB alone. -/
def saturating : State :=
  let c : Coeffs := ⟨8192, 8192, 8192, BitVec.ofInt 16 (-16384), 8192⟩
  { awake with ffb := { awake.ffb with
      enabled := true, coeffs := awake.ffb.coeffs.set 0 c
      stages := awake.ffb.stages.set 0 ((awake.ffb.stages.get 0).set 0 ⟨30000, 30000, 30000, 30000⟩) } }

theorem witness_FilterBankFollowsFormula : awake.ffb.enabled = false ∧ saturating.ffb.enabled = true
    ∧ (runCascade saturating.ffb.coeffs (saturating.ffb.stages.get 0) 30000).2.2 = true
    ∧ (runCascade saturating.ffb.coeffs (saturating.ffb.stages.get 1) 0).2.2 = false := by decide +kernel

/-- An update across the wrap, one that stands still, one that reseats. -/
def uWrap : AngleUpdate := { u0 with thetaPrev := 23000, thetaNew := 40 }
def uStill : AngleUpdate := { u0 with thetaPrev := 116 }
def uReseat : AngleUpdate := { u0 with thetaPrev := 13410, thetaNew := 5000, reseat := true }

theorem witness_CrossingFollowsArc : uWrap.thetaPrev < 23040 ∧ uWrap.thetaNew < 23040 ∧ uWrap.crosses 40 = true
    ∧ uWrap.crosses 41 = false ∧ uStill.thetaNew = uStill.thetaPrev ∧ uStill.thetaNew < 23040 ∧ uReseat.reseat = true
    ∧ uReseat.thetaPrev < 23040 ∧ uReseat.thetaNew < 23040 := by decide +kernel

/-- The tracker coasting in HOLD. -/
def coasting : State := { inRun with atr := { inRun.atr with state := .hold } }

theorem witness_TrackerStepsOrReseats :
    (inRun.TrackerInRange ∧ (verdictOf (voltages 10000 10000) inRun).reseat = false
      ∧ (trackerUpdate (voltages 10000 10000) inRun).atr.state = .locked)
    ∧ (coasting.TrackerInRange ∧ (verdictOf set0 coasting).reseat = false ∧ (trackerUpdate set0 coasting).atr.state = .hold)
    ∧ (verdictOf (voltages 10000 10000) awake).reseat = true
    ∧ (isZeroVector set0 = true ∧ isZeroVector (voltages 10000 10000) = false ∧ 0 < inRun.lNom)
    ∧ (arc 0 ((trackerUpdate (voltages 10000 10000) inRun).atr.p / 256) < 11520
      ∧ let s : State := { inRun with atr := { inRun.atr with p := 11500 * 256 } }
        (verdictOf (voltages (-10000) (-10000)) s).reseat = false
        ∧ arc 11500 11520 ≤ arc 11500 ((trackerUpdate (voltages (-10000) (-10000)) s).atr.p / 256)) :=
  ⟨⟨trackerOf _ (by decide +kernel), by decide +kernel⟩, ⟨trackerOf _ (by decide +kernel), by decide +kernel⟩,
    by decide +kernel⟩

/-- SEARCH, seated, with the lock count reached; HOLD with the hold count reached. -/
def aboutToLock : State := { awake with atr := { awake.atr with seated := true, lockCount := 4000 } }
def aboutToLose : State := { coasting with atr := { coasting.atr with holdCount := 40000 } }

/-- What the judgement asks of a tracker and a filtered set: state; request, seat, freeze, strong, weak, zero vector. -/
def judged (f : FilteredSet) (s : State) : TrackerState × List Bool :=
  (s.atr.state, [s.atr.reseatRequest, s.atr.seated, s.dgv.freeze, isStrong f s, isWeak f s, isZeroVector f])

/-- A seated SEARCH whose estimate stands on the measured angle; one with a reseat request; LOST; a freeze requested. -/
def seated : State :=
  { awake with atr := { awake.atr with seated := true, p := measuredAngle (voltages 10000 10000) awake * 256 } }
def asked : State := { seated with atr := { seated.atr with reseatRequest := true } }
def lost : State := { awake with atr := { awake.atr with state := .lost } }
def frozen (s : State) : State := { s with dgv := { s.dgv with freeze := true } }

theorem witness_TrackerEventsTaken_judgement :
    [asked, awake, seated, inRun, frozen inRun, coasting, frozen coasting, lost].map (judged (voltages 10000 10000)) =
      [(.search, [true, true, false, true, false, false]), (.search, [false, false, false, true, false, false]),
        (.search, [false, true, false, true, false, false]), (.locked, [false, true, false, true, false, false]),
        (.locked, [false, true, true, true, false, false]), (.hold, [false, true, false, true, false, false]),
        (.hold, [false, true, true, true, false, false]), (.lost, [false, false, false, true, false, false])]
    ∧ [asked, awake, seated, inRun, coasting, lost].map (judged set0) =
      [(.search, [true, true, false, false, true, true]), (.search, [false, false, false, false, true, true]),
        (.search, [false, true, false, false, true, true]), (.locked, [false, true, false, false, true, true]),
        (.hold, [false, true, false, false, true, true]), (.lost, [false, false, false, false, true, true])]
    ∧ trackingError (voltages 10000 10000) seated = 0 ∧ seated.atr.lockCount + 1 < seated.parN .lockCount
    ∧ ¬ aboutToLock.atr.lockCount + 1 < aboutToLock.parN .lockCount := by decide +kernel

/-- R26 with M_LOSS 0: a zero vector's magnitude 0 is not below it, so a seated SEARCH stays seated; LOCKED goes to HOLD. -/
theorem test_zero_vector_with_no_loss_threshold :
    let s := (State.withPar { awake with atr := { awake.atr with seated := true, lockCount := 9 } } .mLoss 0)
    let t := inRun.withPar .mLoss 0
    verdictOf set0 s = ⟨.search, true, 0, 0, false, none⟩ ∧ (verdictOf set0 t).state = .hold := by decide +kernel

theorem witness_TrackerEventsTaken :
    (aboutToLock.asleep = false ∧ aboutToLock.atr.reseatRequest = false ∧ aboutToLock.ListSettled
      ∧ aboutToLock.atr.state = .search ∧ aboutToLock.atr.seated = true
      ∧ aboutToLock.parN .lockCount ≤ aboutToLock.atr.lockCount)
    ∧ (aboutToLose.asleep = false ∧ aboutToLose.atr.reseatRequest = false ∧ aboutToLose.ListSettled
      ∧ aboutToLose.atr.state = .hold ∧ aboutToLose.parMs .holdLimit ≤ aboutToLose.atr.holdCount) :=
  ⟨⟨rfl, rfl, settledOf _ (by decide +kernel), by decide +kernel⟩,
    ⟨rfl, rfl, settledOf _ (by decide +kernel), by decide +kernel⟩⟩

theorem witness_GeometryRunsOnceRound : 1 ≤ awake.parN .bridges ∧ awake.parN .bridges ≤ 4 ∧ shiftFault awake = none
    ∧ awake.ParamsInRange ∧ (0 : Nat) < 23 ∧ 23 < 6 * awake.parN .bridges :=
  ⟨by decide +kernel, by decide +kernel, by decide +kernel, paramsOf _ rfl, by decide +kernel⟩

/-- The pointer at its last slot. -/
def lastSlot : State := { inRun with ssq := { inRun.ssq with pointer := 23 } }

/-- A halt taken on the path after the sequencer took the update: blocked, the list closed, the pointer still running. -/
def haltedOnPath : State := settle (takeHalt .episodeLong lastSlot)

/-- An update taken with no block reason present, none seen since; one taken while the pointer does not run. -/
def unseenView : View := ⟨true, true, 0⟩
def idleView : View := ⟨false, false, 0⟩

theorem witness_PointerDispatchesOrPasses :
    (idleView.live = false ∧ lastSlot.view.live = true ∧ unseenView.live = true)
    ∧ (lastSlot.ssq.pendingSync = false ∧ lastSlot.ssq.pointer < 6 * lastSlot.parN .bridges
      ∧ lastSlot.parN .bridges ≤ 4 ∧ lastSlot.fls.blocked = false ∧ dispatchEnabled lastSlot.view u0 lastSlot = true
      ∧ dispatchEnabled lastSlot.view { u0 with state := .search } lastSlot = false)
    ∧ (haltedOnPath.ssq.pendingSync = false ∧ haltedOnPath.ssq.pointer = 23 ∧ haltedOnPath.parN .bridges = 4
      ∧ haltedOnPath.fls.blocked = true ∧ haltedOnPath.fls.list = [] ∧ dispatchEnabled unseenView u0 haltedOnPath = true
      ∧ dispatchEnabled lastSlot.view u0 haltedOnPath = false) := by decide +kernel

/-- A halt on the path before a crossing of the same update: the pointer still advances, past the slot when the sequencer has
seen the halt (R44, R46), and else with a hand-off that is retired at once as CANCELLED (R72, R90). -/
theorem test_halt_before_a_crossing :
    let x := haltedOnPath.dispatchAngle 23
    let passed := sequencerPoint lastSlot.view u0 x haltedOnPath
    let handed := sequencerPoint unseenView u0 x haltedOnPath
    (passed.ssq.pointer, passed.fls.seq, passed.fls.list.length) = (0, 0, 0)
    ∧ (handed.ssq.pointer, handed.fls.seq, handed.fls.list.length) = (0, 1, 0)
    ∧ (handed.fls.status.get 23).last.map (·.outcome) = some .cancelled := by decide +kernel

theorem witness_PendingSyncResolves : inSync.view.live = true ∧ inSync.ssq.pendingSync = true
    ∧ (∀ k, k < 6 * inSync.parN .bridges → inSync.dispatchAngle k ≠ 1)
    ∧ 23 < 6 * inSync.parN .bridges ∧ (∀ j, j < 23 → inSync.dispatchAngle j ≠ 22080) ∧ inSync.dispatchAngle 23 = 22080 := by
  refine ⟨rfl, rfl, ?_, by decide +kernel, ?_, by decide +kernel⟩
  · have h : 6 * inSync.parN .bridges = 24 := by decide +kernel
    rw [h]; decide +kernel
  · decide +kernel

theorem witness_DelayStaysInBounds : (0 : Int) ≤ awake.par .alphaMin ∧ awake.par .alphaMin ≤ awake.par .alphaMax
    ∧ (7680 : Int) ≤ awake.par .alphaMax ∧ (0 : Int) ≤ awake.par .alphaSlewDn ∧ inEpisode.floorEp ≤ inEpisode.par .alphaMax
    ∧ inEpisode.floorEp = 6000 := by decide +kernel

/-- A recovery whose copy has no ramp. -/
def noRamp : State :=
  { inRecovery with dgv := { inRecovery.dgv with recovery := 0, copy := some ⟨{ resp17 with rampMs := 0 }, .entry 17⟩ } }

theorem witness_RampFollowsLimit : awake.rct.state = .standby ∧ inRun.rct.state = .run ∧ inRun.parN .bridges ≤ 4
    ∧ ({ inRun.withPar .bridges 2 with pending := [] } : State).parN .bridges ≤ 3
    ∧ inEpisode.dgv.copy = some ⟨resp17, .entry 17⟩ ∧ inEpisode.dgv.state = .episode
    ∧ inRecovery.dgv.copy = some ⟨resp17, .entry 17⟩ ∧ inRecovery.dgv.state = .recovery ∧ 0 < resp17.rampMs
    ∧ noRamp.dgv.copy = some ⟨{ resp17 with rampMs := 0 }, .entry 17⟩ ∧ noRamp.dgv.state = .recovery
    ∧ inRun.dgv.state = .steady ∧ resp17.iLimit ≤ 4096
    ∧ inRecovery.dgv.recovery ≤ resp17.rampMs * 20 := by decide +kernel

/-- A reason has risen that the list has not yet taken; one has lifted. -/
def risen : State :=
  { withList [doneEntry .confirmed, { entry0 with slot := 5 }, { entry0 with slot := 6, state := .waiting }] with
    rct := { inRun.rct with tripIn := true } }
def lifted : State := { inRun with fls := { inRun.fls with blocked := true } }

theorem witness_BlockClosesUnblockPresets :
    (risen.asleep = false ∧ risen.union = true ∧ risen.fls.blocked = false
      ∧ risen.fls.list.map (fun e => (e.slot, e.state)) = [(0, .done), (5, .conducting), (6, .waiting)])
    ∧ (lifted.asleep = false ∧ lifted.union = false ∧ lifted.fls.blocked = true) := by decide +kernel

/-- The entry in another state of its life. -/
def entryIn (st : EntryState) : Entry := { entry0 with state := st }

theorem witness_NotchIsJudged_life :
    let off (x : Nat) (e : Entry) : Prop := e.drive = true ∧ e.gateOff = x
    let driven : Entry := { entry0 with drive := true }
    (entryIn .waiting).state = .waiting ∧ entry0.refClose ≠ entry0.refOpen ∧ ¬ off entry0.refOpen (entryIn .waiting)
    ∧ (entryIn .reference).state = .reference ∧ entry0.fire ≠ entry0.refClose ∧ ¬ off entry0.refClose (entryIn .reference)
    ∧ (entryIn .armed).state = .armed ∧ entry0.gateOff ≠ entry0.fire ∧ entry0.notchClose ≠ entry0.fire
    ∧ { entryIn .reference with refClose := entry0.fire }.fire = entry0.fire
    ∧ off entry0.gateOff driven ∧ entry0.notchClose ≠ entry0.gateOff
    ∧ off entry0.notchClose { driven with gateOff := entry0.notchClose } ∧ ¬ off entry0.notchClose driven
    ∧ ¬ off 5 driven ∧ (withList [driven]).fls.list = driven :: [] := by
  decide +kernel

theorem witness_NotchIsJudged : entry0.state = .conducting ∧ entry0.notchClose = 116
    ∧ judgeNotch awake u0 entry0 40000 = .confirmed
    ∧ judgeNotch inEpisode u0 entry0 40000 ≠ .confirmed ∧ judgeNotch awake u0 { entry0 with notchArea := 0 } 40000 = .misfire
    ∧ (doneEntry .misfire).state ≠ .conducting ∧ entry0.notchClose ≠ 117 ∧ (1 : Fin 4) ≠ entry0.bridge := by decide +kernel

/-- A list whose head is DONE, with the trace in a state. -/
def retiring (o : RetireOutcome) (t : TraceState) : State :=
  { withList [doneEntry o, entry0] with trc := { inRun.trc with state := t } }

theorem witness_RetirementRecordsHead :
    (retiring .confirmed .recording).fls.list = [doneEntry .confirmed, entry0]
    ∧ (retiring .misfire .triggered).fls.list = [doneEntry .misfire, entry0]
    ∧ (retiring .indeterminate .frozen).fls.list = [doneEntry .indeterminate, entry0]
    ∧ (retiring .cancelled .idle).fls.list = [doneEntry .cancelled, entry0]
    ∧ (doneEntry .confirmed).outcome.getD .cancelled = .confirmed ∧ (doneEntry .misfire).outcome.getD .cancelled = .misfire
    ∧ (retiring .confirmed .recording).trc.state = .recording ∧ (retiring .misfire .triggered).trc.state = .triggered
    ∧ (retiring .indeterminate .frozen).trc.state = .frozen ∧ (retiring .cancelled .idle).trc.state = .idle := by
  decide +kernel

/-- An entry that a search hits, with what the statement asks of it. -/
def hits (s : State) (fb : Bool) (k : Kind) (n : Nat) (i : Fin 32) : Bool :=
  let e := s.rtb.entries.get i
  e.valid && (e.fallback == fb) && (e.kind == k) && decide (e.bandLo ≤ n) && decide (n ≤ e.bandHi)

theorem witness_SearchVisitsTwoGroups :
    (hits workedTable false .sagAsym 2 9 = true ∧ ∀ j : Fin 32, j.1 / 8 = 1 → j < 9 → hits workedTable false .sagAsym 2 j = false)
    ∧ ((∀ j : Fin 32, j.1 / 8 = 1 → hits workedTable false .sagAsym 3 j = false) ∧ hits workedTable true .sagAsym 3 17 = true
      ∧ ∀ j : Fin 32, j.1 / 8 = 2 → j < 17 → hits workedTable true .sagAsym 3 j = false)
    ∧ ((∀ j : Fin 32, j.1 / 8 = 3 → hits workedTable false .loss 7 j = false)
      ∧ ∀ j : Fin 32, j.1 / 8 = 0 → hits workedTable true .loss 7 j = false) := by decide +kernel

/-- RUN with the count of disturbed updates reached, and with three records in the window. -/
def atOnset : State := { inRun with dgv := { inRun.dgv with dCount := 4 } }
def pastRecord (n : Nat) : HistoryRecord :=
  { record41 with number := BitVec.ofNat 16 n, start := BitVec.ofNat 32 n, outcome := .rode, duration := some 9 }
def atRepeat : State := { atOnset with dgv := { atOnset.dgv with history := [pastRecord 3, pastRecord 2, pastRecord 1] } }

/-- A deep sag; the worst extremes; a recovery short of its ramp's end and one at it. -/
def uSag : AngleUpdate := { u0 with m := 1000, uLast := 600 }
def lastStep : State := { inRecovery with dgv := { inRecovery.dgv with recovery := 9999 } }

theorem witness_OnsetOpensEpisode_update :
    ((uSag.m < awake.parN .mLoss ∨ awake.parN .mLoss ≤ uSag.m) ∧ uSag.m < awake.parN .mSag)
    ∧ (awake.parN .mLoss ≤ u0.m ∧ awake.parN .mSag ≤ u0.m ∧ u0.m ≤ awake.parN .mSwell ∧ u0.e.natAbs < awake.parN .eJump)
    ∧ awake.parN .mSwell < { u0 with m := 6000 }.m ∧ awake.parN .eJump ≤ { u0 with e := 2000 }.e.natAbs
    ∧ ((⟨4096, 4096, 0, 0⟩ : Extremes).mMin ≤ 4096 ∧ 4096 ≤ (⟨4096, 4096, 0, 0⟩ : Extremes).mMax)
    ∧ (inRun.running = true ∧ inRun.dgv.state = .steady ∧ disturbanceD inRun u0 = false ∧ 0 < inRun.parN .onsetCount)
    ∧ (atOnset.running = true ∧ disturbanceD atOnset uSag = true ∧ ¬ atOnset.dgv.dCount + 1 < atOnset.parN .onsetCount)
    ∧ (inRecovery.running = true ∧ inRecovery.dgv.state = .recovery ∧ inRecovery.dgv.copy = some ⟨resp17, .entry 17⟩
      ∧ disturbanceD inRecovery u0 = false ∧ inRecovery.dgv.recovery + 1 < resp17.rampMs * 20)
    ∧ (lastStep.dgv.state = .recovery ∧ resp17.rampMs * 20 ≤ lastStep.dgv.recovery + 1)
    ∧ awake.running = false := by decide +kernel

theorem witness_OnsetOpensEpisode : atOnset.asleep = false ∧ atOnset.ListSettled ∧ atOnset.atr.last = some u0
    ∧ atOnset.running = true ∧ atOnset.dgv.state ≠ .episode ∧ atOnset.parN .onsetCount ≤ atOnset.dgv.dCount
    ∧ ((atOnset.dgv.history.take 15).countP fun r => decide ((u0.set.count - r.start).toNat < atOnset.parN .repeatWindow * 20)) + 1
      ≤ atOnset.parN .repeatMax
    ∧ (searchResult (classify atOnset u0)
        (bandOf (classify atOnset u0) (atOnset.dgv.runExtremes.getD (extremesOf atOnset u0))) atOnset).resp.action ≠ .trip :=
  ⟨rfl, settledOf _ (by decide +kernel), rfl, by decide +kernel⟩

/-- The group at an onset with a full history of sixteen records in the window. -/
def fullHistory : State :=
  { atOnset with dgv := { atOnset.dgv with history := (List.range 16).map fun n => pastRecord (16 - n) } }

/-- The governor's promises, as a check. -/
theorem steadySound (s : State) (h : (s.dgv.state == .steady && !s.dgv.rideOut && s.dgv.copy.isNone && s.dgv.kind.isNone
    && !s.dgv.block && !s.dgv.freeze) = true) : s.GovernorSound := by
  simp only [Bool.and_eq_true, beq_iff_eq, Bool.not_eq_true', Option.isNone_iff_eq_none] at h
  obtain ⟨⟨⟨⟨⟨h1, h2⟩, h3⟩, h4⟩, h5⟩, h6⟩ := h
  simp [State.GovernorSound, h1, h2, h3, h4, h5, h6]

/-- What the statement asks of a state at an onset that the repeat test trips, but for its propositions. -/
def tripsRepeat (s : State) : Bool :=
  !s.asleep && s.running && !(s.dgv.state == .episode) && decide (s.parN .onsetCount ≤ s.dgv.dCount)
    && decide (0 < s.parN .repeatWindow) && decide (s.parN .repeatMax <
      ((s.dgv.history.take 15).countP fun r => decide ((u0.set.count - r.start).toNat < s.parN .repeatWindow * 20)) + 1)

theorem witness_RepeatTestHalts :
    (atRepeat.ListSettled ∧ atRepeat.GovernorSound ∧ atRepeat.atr.last = some u0 ∧ tripsRepeat atRepeat = true)
    ∧ (fullHistory.ListSettled ∧ fullHistory.GovernorSound ∧ fullHistory.atr.last = some u0
      ∧ tripsRepeat fullHistory = true ∧ fullHistory.dgv.history.length = 16) :=
  ⟨⟨settledOf _ (by decide +kernel), steadySound _ (by decide +kernel), rfl, by decide +kernel⟩,
    settledOf _ (by decide +kernel), steadySound _ (by decide +kernel), rfl, by decide +kernel⟩

/-- An episode at an update `n` updates after its onset, with what a hold expiry does. -/
def episodeAt (n : Nat) (x : OnExpiry) : State :=
  { inEpisode with
    atr := { inEpisode.atr with last := some { u0 with set := { set0 with count := BitVec.ofNat 32 (1000 + n) } } }
    dgv := { inEpisode.dgv with copy := some ⟨{ resp17 with onExpiry := x }, .entry 17⟩ } }

theorem witness_EpisodeLimitsAct_update :
    let x : Extremes := ⟨2900, 3300, 90, 12⟩
    let s : State := { inEpisode with dgv := { inEpisode.dgv with extremes := some x } }
    let u (n : Nat) : AngleUpdate := { u0 with set := { set0 with count := BitVec.ofNat 32 (1000 + n) } }
    (s.running = true ∧ s.dgv.state = .episode ∧ s.dgv.kind = some .sagAsym ∧ s.dgv.extremes = some x
      ∧ classify s u0 = .freqDev ∧ max s.dgv.band (bandOf .sagAsym x) = s.dgv.band)
    ∧ (classify s { u0 with m := 100 } = .loss ∧ disturbanceD s { u0 with m := 100 } = true ∧ Kind.loss ≠ .sagAsym)
    ∧ s.dgv.band < max s.dgv.band (bandOf .sagAsym ⟨2500, 3300, 90, 12⟩)
    ∧ (s.dgv.history = record41 :: [] ∧ record41.outcome = .ongoing ∧ s.dgv.copy = some ⟨resp17, .entry 17⟩)
    ∧ (s.dgv.expired = false ∧ resp17.holdMs * 20 ≤ ((u 20000).set.count - s.dgv.start).toNat ∧ resp17.onExpiry = .trip)
    ∧ ¬ resp17.holdMs * 20 ≤ ((u 19999).set.count - s.dgv.start).toNat
    ∧ ((episodeAt 0 .block).dgv.copy.map (·.resp.onExpiry) = some .block)
    ∧ (((u 19999).set.count - s.dgv.start).toNat < s.parN .episodeMax * 20 ∧ 0 < s.parN .clearCount)
    ∧ (let long : State := { s with dgv := { s.dgv with expired := true } }
       long.parN .episodeMax * 20 ≤ ((u 1200000).set.count - long.dgv.start).toNat ∧ long.dgv.expired = true)
    ∧ (let due : State := { s with dgv := { s.dgv with cCount := 399 } }
       clearC due { u 19999 with state := .hold } = true ∧ due.parN .clearCount ≤ due.dgv.cCount + 1) := by
  decide +kernel

theorem witness_EpisodeLimitsAct :
    ((episodeAt 20000 .trip).asleep = false ∧ (episodeAt 20000 .trip).ListSettled ∧ (episodeAt 20000 .trip).running = true
      ∧ (episodeAt 20000 .trip).dgv.state = .episode ∧ (episodeAt 20000 .trip).dgv.expired = false
      ∧ resp17.holdMs * 20 ≤ ((BitVec.ofNat 32 21000) - (episodeAt 20000 .trip).dgv.start).toNat)
    ∧ ((episodeAt 20000 .block).ListSettled
      ∧ (episodeAt 20000 .block).dgv.copy = some ⟨{ resp17 with onExpiry := .block }, .entry 17⟩)
    ∧ ((episodeAt 1200000 .trip).ListSettled
      ∧ (episodeAt 1200000 .trip).parN .episodeMax * 20 ≤
        ((BitVec.ofNat 32 1201000) - (episodeAt 1200000 .trip).dgv.start).toNat
      ∧ (episodeAt 1200000 .trip).dgv.history = [record41] ∧ record41.outcome = .ongoing) :=
  ⟨⟨rfl, settledOf _ (by decide +kernel), by decide +kernel⟩, ⟨settledOf _ (by decide +kernel), rfl⟩,
    ⟨settledOf _ (by decide +kernel), by decide +kernel, rfl, rfl⟩⟩

/-- An episode with its clear count reached; a recovery at its ramp's end; an episode and a recovery left in HALT. -/
def atClear : State := { inEpisode with dgv := { inEpisode.dgv with cCount := 400 } }
def atRampEnd : State := { inRecovery with dgv := { inRecovery.dgv with recovery := 10000 } }
def leftInHalt (g : GovernorState) (c : HaltCause) : State :=
  { inHalt with
    dgv := { inEpisode.dgv with state := g, freeze := false }
    rct := { inHalt.rct with trip := some ⟨c, 0, .run, 0, 0, Tab.fill 4 0, none⟩ } }

/-- The episode block raised by an update that the firing list has not yet taken. -/
def raisedAtClear : State :=
  { withList [entry0] with dgv := { atClear.dgv with block := true } }

theorem witness_ClearEntersRecovery_close : atClear.union = false ∧ raisedAtClear.union = true
    ∧ raisedAtClear.fls.blocked = false ∧ raisedAtClear.dgv.copy = some ⟨resp17, .entry 17⟩
    ∧ (takeClear u0 raisedAtClear).1.union = false
    ∧ { raisedAtClear with fls := { raisedAtClear.fls with blocked := true } }.fls.blocked = true := by decide +kernel

/-- A block that an update raises and clears again: the list is closed in between, and the clear is an unblock (R88, R89,
R101). -/
theorem test_block_raised_and_cleared :
    let t := governorDeed u0 { raisedAtClear with dgv := { raisedAtClear.dgv with cCount := 400 } }
    let v := settle t
    (v.dgv.state, v.fls.blocked, v.fls.list.length, v.fls.seq, (v.crg.bridges.get 0).startValue)
      = (.recovery, false, 0, 1, some 7000) := by decide +kernel

theorem witness_ClearEntersRecovery : atClear.asleep = false ∧ atClear.ListSettled ∧ atClear.atr.last = some u0
    ∧ atClear.running = true ∧ atClear.dgv.state = .episode ∧ atClear.parN .clearCount ≤ atClear.dgv.cCount
    ∧ atClear.dgv.copy.map (·.ix) = some (.entry 17) ∧ atClear.dgv.history = [record41] ∧ record41.outcome = .ongoing :=
  ⟨rfl, settledOf _ (by decide +kernel), rfl, by decide +kernel⟩

theorem witness_EpisodeReturnsSteady :
    (atRampEnd.asleep = false ∧ atRampEnd.ListSettled ∧ atRampEnd.atr.last = some u0 ∧ atRampEnd.running = true
      ∧ atRampEnd.dgv.state = .recovery ∧ atRampEnd.dgv.copy = some ⟨resp17, .entry 17⟩
      ∧ resp17.rampMs * 20 ≤ atRampEnd.dgv.recovery)
    ∧ ((leftInHalt .episode .repeated).asleep = false ∧ (leftInHalt .episode .repeated).ListSettled
      ∧ (leftInHalt .episode .repeated).rct.state = .halt ∧ (leftInHalt .episode .repeated).dgv.state ≠ .steady
      ∧ (leftInHalt .episode .repeated).dgv.history = [record41])
    ∧ ((leftInHalt .recovery .tripInput).ListSettled ∧ (leftInHalt .recovery .tripInput).dgv.state = .recovery) :=
  ⟨⟨rfl, settledOf _ (by decide +kernel), rfl, by decide +kernel⟩,
    ⟨rfl, settledOf _ (by decide +kernel), by decide +kernel⟩, ⟨settledOf _ (by decide +kernel), by decide +kernel⟩⟩

/-- A group in a state with slot 7 at the limit. -/
def misfired (s : State) : State :=
  { s with fls :=
      { s.fls with status := s.fls.status.set 7 ⟨3, 3, 0, some ⟨1256, .misfire, 6000, 0, 0, none⟩⟩ } }

theorem witness_HaltCauseEntersHalt :
    (inSync.asleep = false ∧ inSync.ListSettled ∧ Running3 inSync) ∧ (inEpisode.ListSettled ∧ inEpisode.dgv.state ≠ .steady
      ∧ Running3 inEpisode) ∧ (inHalt.ListSettled ∧ ¬ Running3 inHalt)
    ∧ ((misfired inRun).asleep = false ∧ (misfired inRun).ListSettled ∧ Running3 (misfired inRun)
      ∧ ((misfired inRun).fls.status.get 7).last = some ⟨1256, .misfire, 6000, 0, 0, none⟩
      ∧ (misfired inRun).parN .misfireLimit ≤ ((misfired inRun).fls.status.get 7).consecutive)
    ∧ ((misfired inHalt).ListSettled ∧ ¬ Running3 (misfired inHalt)
      ∧ (misfired inHalt).parN .misfireLimit ≤ ((misfired inHalt).fls.status.get 7).consecutive) :=
  ⟨⟨rfl, free_inSync.2.2, activeOf _ rfl⟩, ⟨settled_inEpisode, by decide +kernel, activeOf _ rfl⟩,
    ⟨free_inHalt.2.2, idleOf _ rfl⟩, ⟨rfl, settledOf _ (by decide +kernel), activeOf _ rfl, by decide +kernel⟩,
    ⟨settledOf _ (by decide +kernel), idleOf _ rfl, by decide +kernel⟩⟩

/-- A set with a high current on bridges 1 and 2, and one with a high bus voltage alone. -/
def rawOver : RawSet := ⟨0, 0, 0, 0, 32767, 32767, 0, 0⟩
def rawBus : RawSet := ⟨0, 0, 0, 0, 0, 0, 0, 32767⟩

theorem witness_TrimmedSetTrips : inRun.asleep = false ∧ Running3 inRun ∧ inRun.order.tripFirst = true
    ∧ (1 : Nat) < inRun.parN .bridges ∧ inRun.par .iTrip < (trimValue (inRun.mfe.trims.get 4) ((rawTab rawOver).get 4)).toInt
    ∧ (trimValue (inRun.mfe.trims.get 3) ((rawTab rawOver).get 3)).toInt ≤ inRun.par .iTrip
    ∧ inRun.par .vTrip < (trimValue (inRun.mfe.trims.get 7) ((rawTab rawBus).get 7)).toInt
    ∧ (∀ b : Fin 4, (trimValue (inRun.mfe.trims.get (currentChannel b)) ((rawTab rawBus).get (currentChannel b))).toInt
        ≤ inRun.par .iTrip) :=
  ⟨rfl, activeOf _ rfl, rfl, by decide +kernel⟩

theorem witness_TripInActs : (inSync.ListSettled ∧ inSync.asleep = false ∧ Running3 inSync)
    ∧ (awake.ListSettled ∧ ¬ Running3 awake) ∧ (inHalt.ListSettled ∧ ¬ Running3 inHalt) ∧ risen.rct.tripIn = true :=
  ⟨⟨free_inSync.2.2, rfl, activeOf _ rfl⟩, ⟨free_awake.2.2, idleOf _ rfl⟩, ⟨free_inHalt.2.2, idleOf _ rfl⟩, rfl⟩

/-- SYNC with the settling done, and with the timer run out; STOPPING with its count reached; a silent host. -/
def settledSync : State :=
  { inSync with rct := { inSync.rct with settleCount := 800 }, ssq := { inSync.ssq with pendingSync := false } }
def timedOut : State := { inSync with rct := { inSync.rct with syncTimer := 40000 } }
def stopCounted : State := { inStopping with rct := { inStopping.rct with stopCount := 20 } }
def silent : State := { inRun.withPar .supervision 1000 with rct := { inRun.rct with supervision := 20000 } }

theorem witness_SyncAndStopEnd_update :
    let good : State := { inSync with ssq := { inSync.ssq with pendingSync := false } }
    let last : State := { good with rct := { good.rct with settleCount := 799 } }
    let late : State := { good with rct := { good.rct with syncTimer := 39999 } }
    syncQualifies u0 good = true ∧ syncQualifies u0 inSync = false
    ∧ last.parN .syncSettle ≤ last.rct.settleCount + 1
    ∧ (late.rct.settleCount + 1 < late.parN .syncSettle ∧ late.parN .syncTimeout * 20 ≤ late.rct.syncTimer + 1)
    ∧ good.rct.syncTimer + 1 < good.parN .syncTimeout * 20
    ∧ (inStopping.rct.state = .stopping ∧ stopQualifies u0 inStopping = true
      ∧ stopQualifies { u0 with set := { set0 with idc := Tab.fill 4 5000 } } inStopping = false
      ∧ 20 ≤ stopCounted.rct.stopCount + 1 ∧ inStopping.rct.stopCount + 1 < 20)
    ∧ (silent.rct.state = .run ∧ lapseDue silent = true ∧ inRun.rct.state = .run ∧ lapseDue inRun = false)
    ∧ awake.rct.state = .standby ∧ inHalt.rct.state = .halt := by decide +kernel

theorem witness_SyncAndStopEnd :
    (settledSync.asleep = false ∧ settledSync.ListSettled ∧ settledSync.rct.state = .sync
      ∧ settledSync.parN .syncSettle ≤ settledSync.rct.settleCount)
    ∧ (timedOut.asleep = false ∧ timedOut.ListSettled ∧ timedOut.rct.settleCount < timedOut.parN .syncSettle
      ∧ timedOut.parN .syncTimeout * 20 ≤ timedOut.rct.syncTimer ∧ timedOut.dgv.state = .steady)
    ∧ (stopCounted.asleep = false ∧ stopCounted.ListSettled ∧ stopCounted.rct.state = .stopping
      ∧ 20 ≤ stopCounted.rct.stopCount) :=
  ⟨⟨rfl, settledOf _ (by decide +kernel), by decide +kernel⟩, ⟨rfl, settledOf _ (by decide +kernel), by decide +kernel⟩,
    ⟨rfl, settledOf _ (by decide +kernel), by decide +kernel⟩⟩

theorem witness_SupervisionLapseZeroesTargets : silent.asleep = false ∧ silent.ListSettled ∧ silent.rct.state = .run
    ∧ silent.par .supervision ≠ 0 ∧ silent.rct.lapsed = false ∧ silent.parN .supervision * 20 ≤ silent.rct.supervision :=
  ⟨rfl, settledOf _ (by decide +kernel), by decide +kernel⟩

/-- STANDBY with the fault latch, with TRIP_IN asserted, with a configuration that fails its check. -/
def latched : State := { awake with sst := { awake.sst with latch := true } }
def interlocked : State := { awake with rct := { awake.rct with tripIn := true } }
def misconfigured : State := awake.withPar .shift1 0

theorem witness_StartRefusedInOrder : (Free inHalt ∧ inHalt.rct.state ≠ .standby)
    ∧ (Free saving ∧ saving.rct.state = .standby ∧ SaveRunning saving)
    ∧ (Free latched ∧ latched.rct.state = .standby ∧ ¬ SaveRunning latched ∧ latched.sst.latch = true)
    ∧ (Free interlocked ∧ ¬ SaveRunning interlocked ∧ interlocked.sst.latch = false ∧ interlocked.rct.tripIn = true)
    ∧ (Free misconfigured ∧ ¬ SaveRunning misconfigured ∧ misconfigured.sst.latch = false
      ∧ misconfigured.rct.tripIn = false ∧ configFault misconfigured = some .shift1) :=
  ⟨⟨free_inHalt, by decide +kernel⟩, ⟨free_saving, rfl, saving_saving⟩,
    ⟨freeOf _ (by decide +kernel), rfl, notSaving _ rfl, rfl⟩, ⟨freeOf _ (by decide +kernel), notSaving _ rfl, rfl, rfl⟩,
    ⟨freeOf _ (by decide +kernel), notSaving _ rfl, rfl, rfl, by decide +kernel⟩⟩

theorem witness_StartEntersSync : Free awake ∧ awake.rct.state = .standby ∧ ¬ SaveRunning awake ∧ awake.sst.latch = false
    ∧ awake.rct.tripIn = false ∧ configFault awake = none :=
  ⟨free_awake, rfl, not_saving_awake, rfl, rfl, by decide +kernel⟩

theorem witness_StopTakesModes : (Free awake ∧ awake.rct.state = .standby) ∧ (Free inHalt ∧ inHalt.rct.state = .halt)
    ∧ (Free inRun ∧ inRun.rct.state = .run) ∧ (Free inStopping ∧ inStopping.rct.state = .stopping)
    ∧ 1 < (2 : Byte).toNat ∧ (Free inRun ∧ Running3 inRun) ∧ (Free inSync ∧ inSync.rct.state = .sync)
    ∧ (Free inEpisode ∧ Running3 inEpisode ∧ inEpisode.dgv.state ≠ .steady) :=
  ⟨⟨free_awake, rfl⟩, ⟨free_inHalt, rfl⟩, ⟨free_inRun, rfl⟩, ⟨free_inStopping, rfl⟩, by decide +kernel,
    ⟨free_inRun, activeOf _ rfl⟩, ⟨free_inSync, rfl⟩, ⟨freeOf _ (by decide +kernel), activeOf _ rfl, by decide +kernel⟩⟩

/-- HALT with TRIP_IN asserted. -/
def haltedByTrip : State := { inHalt with rct := { inHalt.rct with tripIn := true } }

theorem witness_ClearHaltReturnsStandby : (Free awake ∧ awake.rct.state ≠ .halt)
    ∧ (Free haltedByTrip ∧ haltedByTrip.rct.state = .halt ∧ haltedByTrip.rct.tripIn = true)
    ∧ (Free inHalt ∧ inHalt.rct.state = .halt ∧ inHalt.rct.tripIn = false ∧ inHalt.dgv.state = .steady) :=
  ⟨⟨free_awake, by decide +kernel⟩, ⟨freeOf _ (by decide +kernel), rfl, rfl⟩, ⟨free_inHalt, rfl, rfl, rfl⟩⟩

/-- A trace triggered, its post count reached and not reached. -/
def triggered (n : Nat) : State := { awake with trc := { awake.trc with state := .triggered, post := n } }

theorem witness_OccurrenceLatchesAndTriggers_mask :
    awake.trc.mask.getLsbD Source.haltEntered.num.1 = true ∧ awake.trc.state = .recording
    ∧ awake.trc.mask.getLsbD Source.trackLocked.num.1 = false ∧ awake.parN .tracePost ≠ 0
    ∧ (awake.withPar .tracePost 0).parN .tracePost = 0 ∧ (triggered 0).trc.state ≠ .recording := by decide +kernel

theorem witness_OccurrenceLatchesAndTriggers : Source.haltEntered ≠ .traceFrozen ∧ (triggered 0).trc.state ≠ .recording
    ∧ awake.trc.state = .recording ∧ (triggered 64).asleep = false ∧ (triggered 64).parN .tracePost ≤ (triggered 64).trc.post
    ∧ (triggered 63).trc.post < (triggered 63).parN .tracePost ∧ awake.trc.state ≠ .triggered := by decide +kernel

/-- Unit 2 set to the bus voltage above a threshold that an update meets. -/
def watching : State :=
  { awake with wcu := ⟨awake.wcu.units.set 2 ⟨⟨.vdc, -1, true, true⟩, true, false⟩⟩ }

theorem witness_WatchesRaiseOnTurn :
    (decide (-1 < signalValue u0 watching .vdc) = true ∧ (watching.wcu.units.get 2).condition = false
      ∧ (watching.wcu.units.get 2).armed = true) ∧ (awake.wcu.units.get 2).config.above = false
    ∧ (3 : Byte).toNat ≤ 3 ∧ (12 : Byte).toNat ≤ 12 ∧ ¬ (4 : Byte).toNat ≤ 3 ∧ ¬ (13 : Byte).toNat ≤ 12
    ∧ (Free saving ∧ SaveRunning saving) ∧ (Free awake ∧ ¬ SaveRunning awake) :=
  ⟨by decide +kernel, by decide +kernel, by decide +kernel, by decide +kernel, by decide +kernel, by decide +kernel,
    ⟨free_saving, saving_saving⟩, ⟨free_awake, not_saving_awake⟩⟩

theorem witness_FetchOrdersByLevel : (∀ n, (workedFetch.ntu.sources.get n).level ≤ 7) ∧ Free workedFetch :=
  ⟨by decide +kernel, freeOf _ (by decide +kernel)⟩

theorem witness_NoticeSettingsTaken : Free awake ∧ ¬ SaveRunning awake ∧ Free saving ∧ SaveRunning saving
    ∧ 23 < (24 : Byte).toNat
    ∧ ([23, 0, 23] : List Byte) ≠ [] ∧ (∀ b ∈ ([23, 0, 23] : List Byte), b.toNat ≤ 23)
    ∧ 7 < (8 : Byte).toNat
    ∧ 2 < (3 : Byte).toNat ∧ (∀ p ∈ ([(23, 7), (0, 0)] : List (Byte × Byte)), p.1.toNat ≤ 23 ∧ p.2.toNat ≤ 7)
    ∧ ((Instr.setNoticeEnableSet 1 5, (1 : Byte)) ∈ [(Instr.setNoticeEnableAssign 1 5, (0 : Byte)),
        (.setNoticeEnableSet 1 5, 1), (.setNoticeEnableClear 1 5, 2)]) :=
  ⟨free_awake, not_saving_awake, free_saving, saving_saving, by decide +kernel, by decide +kernel, by decide +kernel,
    by decide +kernel, by decide +kernel, by simp, by simp⟩

theorem witness_TraceControlActs : (Free awake ∧ awake.trc.state = .recording ∧ ¬ SaveRunning awake)
    ∧ (Free (triggered 0) ∧ (triggered 0).trc.state ≠ .recording) ∧ (Free saving ∧ SaveRunning saving)
    ∧ 3 < (4 : Byte).toNat :=
  ⟨⟨free_awake, rfl, not_saving_awake⟩, ⟨freeOf _ (by decide +kernel), by decide +kernel⟩, ⟨free_saving, saving_saving⟩,
    by decide +kernel⟩

theorem witness_ReadsChangeNothing : Free awake ∧ ((0x7F : Byte) ∉ requestKinds ∧ (0xFF : Byte) ∉ requestKinds) :=
  ⟨free_awake, by decide +kernel⟩

theorem witness_RangedReadsChangeNothing : Free awake
    ∧ ((20 : Byte).toNat + (4 : Byte).toNat ≤ 24 ∧ ¬ (21 : Byte).toNat + (4 : Byte).toNat ≤ 24
      ∧ (28 : Byte).toNat + (4 : Byte).toNat ≤ 32 ∧ ¬ (29 : Byte).toNat + (4 : Byte).toNat ≤ 32
      ∧ (7 : Byte).toNat + (1 : Byte).toNat ≤ 8 ∧ ¬ (7 : Byte).toNat + (2 : Byte).toNat ≤ 8
      ∧ (15 : Byte).toNat ≤ 15 ∧ ¬ (16 : Byte).toNat ≤ 15 ∧ (8 : Byte).toNat ≤ 8 ∧ ¬ (9 : Byte).toNat ≤ 8
      ∧ ParamId.iMax.info.code = (0x37 : Byte).toNat ∧ ([] : List Byte).length = 0) :=
  ⟨free_awake, by decide +kernel⟩

/-- A trace that holds the worked ring. -/
def workedTrc : Trc := { awake.trc with ring := workedRing }

theorem witness_ReadLayouts : (workedTrc.ring.length ≤ 256 ∧ workedTrc.ring ≠ [])
    ∧ (∀ i (h : i < workedTrc.ring.length), workedTrc.ring[i].seq = (1005 : BitVec 16) + BitVec.ofNat 16 i)
    ∧ (traceStart workedTrc.ring 1260 = some 255 ∧ traceStart workedTrc.ring 1261 = none)
    ∧ ((∀ r ∈ workedTrc.ring, r.seq ≠ 1261) ∧ awake.trc.ring = [])
    ∧ ((workedTable.rtb.entries.get 17).bandLo ≤ 7 ∧ (workedTable.rtb.entries.get 17).bandHi ≤ 7 ∧ record41.band ≤ 7)
    ∧ (23 < 6 * awake.parN .bridges ∧ (awake.fls.status.get 7).last = none
      ∧ ((misfired inRun).fls.status.get 7).last = some ⟨1256, .misfire, 6000, 0, 0, none⟩) := by
  refine ⟨by decide +kernel, ?_, by decide +kernel⟩
  intro i h
  simp [workedTrc, workedRing, BitVec.ofNat_add]

theorem witness_TargetsTakeLastPair : (Free awake ∧ awake.rct.state ≠ .stopping ∧ awake.rct.state ≠ .halt)
    ∧ (Free inStopping ∧ inStopping.rct.state = .stopping) ∧ (Free inHalt ∧ inHalt.rct.state = .halt)
    ∧ (∀ p ∈ ([(3, 0xFFFF), (0, 5)] : List (Byte × BitVec 16)), p.1.toNat ≤ 3) ∧ (∃ p ∈ ([(3, 0xFFFF), (0, 5)] : List (Byte × BitVec 16)), awake.parN .iMax < p.2.toNat)
    ∧ ¬ (4 : Byte).toNat ≤ 3 :=
  ⟨⟨free_awake, by decide +kernel⟩, ⟨free_inStopping, rfl⟩, ⟨free_inHalt, rfl⟩, by simp, by decide +kernel⟩

theorem witness_SetParamWritesOne : (Free saving ∧ SaveRunning saving) ∧ (Free awake ∧ ¬ SaveRunning awake)
    ∧ (∀ p : ParamId, p.info.code ≠ (0xFF : Byte).toNat)
    ∧ ParamId.iMax.info.code = (0x37 : Byte).toNat ∧ ParamId.iMax.inRange (BitVec.ofInt 32 (-1)).toInt = false
    ∧ (ParamId.bridges.inRange (1 : BitVec 32).toInt = true ∧ ParamId.bridges.info.standbyOnly = true
      ∧ inRun.rct.state ≠ .standby)
    ∧ (ParamId.iMax.inRange (20000 : BitVec 32).toInt = true ∧ crossCheck awake .iMax (20000 : BitVec 32).toInt = true)
    ∧ (ParamId.iMax.inRange (awake.par .iTrip) = true ∧ crossCheck awake .iMax (awake.par .iTrip) = false)
    ∧ Running3 inRun ∧ ¬ Running3 awake := by
  refine ⟨⟨free_saving, saving_saving⟩, ⟨free_awake, not_saving_awake⟩, ?_, by decide +kernel, by decide +kernel,
    by decide +kernel, by decide +kernel, by decide +kernel, activeOf _ rfl, idleOf _ rfl⟩
  intro p
  cases p <;> decide +kernel

theorem witness_SetParamStopsAtFailure : 32 < (List.replicate 33 ((0, 0) : Byte × BitVec 32)).length
    ∧ (Free saving ∧ SaveRunning saving) ∧ (Free awake ∧ ¬ SaveRunning awake)
    ∧ (match putParam (0x37, 20000) awake with
       | .ok t => putParam (0xFF, 0) t = .error .range
       | .error _ => False) :=
  ⟨by decide +kernel, ⟨free_saving, saving_saving⟩, ⟨free_awake, not_saving_awake⟩, by rfl⟩

/-- A response record of entry 17, and slot records of which the second has no such channel. -/
def rec17 : ResponseRec := recOfResponse ⟨true, .sagAsym, true, 3, 7, resp17⟩
def slotRecs : List SlotRec := [⟨2, 5000, 100⟩, ⟨3, 0, 0⟩]

theorem witness_RecordWritesStopAtFailure : (Free saving ∧ SaveRunning saving) ∧ (Free awake ∧ ¬ SaveRunning awake)
    ∧ (slotRecs ≠ [] ∧ slotRecs.length ≤ 8 ∧ (22 : Byte).toNat + slotRecs.length ≤ 24)
    ∧ ¬ (23 : Byte).toNat + slotRecs.length ≤ 24
    ∧ (slotRecs.takeWhile fun r => decide (r.channel.toNat ≤ 2)).length = 1
    ∧ (responseOfRec rec17).isSome = true ∧ (31 : Byte).toNat + [rec17].length ≤ 32
    ∧ (responseOfRec { rec17 with kind := 6 }).isSome = false :=
  ⟨⟨free_saving, saving_saving⟩, ⟨free_awake, not_saving_awake⟩, by decide +kernel⟩

/-- STANDBY with the filter bank enabled. -/
def filtering (s : State) : State := { s with ffb := { s.ffb with enabled := true } }

theorem witness_TrimFilterMarksWritten : (Free awake ∧ ¬ SaveRunning awake ∧ awake.ffb.enabled = false ∧ ¬ Running3 awake)
    ∧ (Free saving ∧ SaveRunning saving) ∧ (Free (filtering inRun) ∧ ¬ SaveRunning (filtering inRun)
      ∧ (filtering inRun).ffb.enabled = true ∧ Running3 (filtering inRun))
    ∧ (∀ r ∈ ([⟨7, 0, 8192, 1⟩] : List TrimRec), r.channel.toNat ≤ 7 ∧ r.invert.toNat ≤ 1)
    ∧ (∀ r ∈ ([⟨2, 16384, 0, 0, 0, 0⟩] : List FilterRec), r.stage.toNat ≤ 2)
    ∧ ¬ (8 : Byte).toNat ≤ 7 ∧ ¬ (3 : Byte).toNat ≤ 2 ∧ 1 < (2 : Byte).toNat :=
  ⟨⟨free_awake, not_saving_awake, rfl, idleOf _ rfl⟩, ⟨free_saving, saving_saving⟩,
    ⟨freeOf _ (by decide +kernel), notSaving _ rfl, rfl, activeOf _ rfl⟩, by decide +kernel⟩

theorem witness_StoreRequestsTaken : (Free inRun ∧ inRun.rct.state ≠ .standby)
    ∧ (Free saving ∧ saving.rct.state = .standby ∧ SaveRunning saving)
    ∧ (Free awake ∧ awake.rct.state = .standby ∧ ¬ SaveRunning awake) :=
  ⟨⟨free_inRun, by decide +kernel⟩, ⟨free_saving, rfl, saving_saving⟩, ⟨free_awake, rfl, not_saving_awake⟩⟩

/-- The receiver in a state with the bytes held. -/
def receiving (r : RxState) (l : List Byte) : State := { awake with lnk := { awake.lnk with rx := r, partialFrame := l } }

theorem witness_ReceiverTakesBytes :
    (receiving .hunt []).asleep = false ∧ loadingUp.asleep = true
    ∧ (receiving .length []).lnk.rx = .length ∧ (2 ≤ (240 : Byte).toNat ∧ (240 : Byte).toNat ≤ 240)
    ∧ ¬ (241 : Byte).toNat ≤ 240 ∧ ¬ 2 ≤ (1 : Byte).toNat
    ∧ ((receiving .body [2, 2]).lnk.rx = .body ∧ (receiving .body [2, 2]).lnk.partialFrame ≠ [])
    ∧ ((receiving .crc [2, 2, 0x17]).lnk.rx = .crc ∧ [2, 2, (0x17 : Byte)].length = (2 : Byte).toNat + 1)
    ∧ ((receiving .crc [2, 2, 0x17, 0x48]).lnk.rx = .crc ∧ [2, 2, (0x17 : Byte), 0x48].length = (2 : Byte).toNat + 2
      ∧ (crc [2, 2, 0x17]).toNat = (0x48 : Byte).toNat + 256 * (0xA6 : Byte).toNat
      ∧ (crc [2, 2, 0x17]).toNat ≠ (0x48 : Byte).toNat + 256 * (0xA7 : Byte).toNat)
    ∧ (receiving .body [2]).lnk.rx ≠ .hunt := by decide +kernel

/-- The inbox with one frame under reply, with a second one waiting, and with RESET under reply. -/
def replying (fs : List Frame) (k : Byte) : State :=
  { awake with lnk := { awake.lnk with inbox := fs, reply := some ⟨k, 1, .ok, 0, []⟩ } }

theorem witness_InboxServesInOrder :
    (replying [⟨2, 1, []⟩] 0x82).lnk.inbox.length = 1 ∧ 2 ≤ (replying [⟨2, 1, []⟩, ⟨3, 2, []⟩] 0x82).lnk.inbox.length
    ∧ awake.lnk.reply = none ∧ awake.asleep = false
    ∧ ((replying [⟨2, 1, []⟩] 0x82).asleep = false ∧ (replying [⟨2, 1, []⟩] 0x82).lnk.reply = some ⟨0x82, 1, .ok, 0, []⟩
      ∧ ¬ ((0x82 : Byte) = 0xBF ∧ ResultCode.ok = .ok))
    ∧ (replying [⟨2, 1, []⟩, ⟨3, 2, []⟩] 0x82).lnk.inbox = [⟨2, 1, []⟩, ⟨3, 2, []⟩]
    ∧ (replying [⟨0x3F, 1, []⟩] 0xBF).lnk.reply = some ⟨0xBF, 1, .ok, 0, []⟩ := by decide +kernel

theorem witness_RequestFramesRoundTrip : (Instr.setTargets 1 [(3, 0xFFFF)]).wellFormed = true
    ∧ frameOf (.setTargets 1 [(3, 0xFFFF)]) = some ⟨0x10, 1, [3, 0xFF, 0xFF]⟩ ∧ (0x7F : Byte) ∉ requestKinds
    ∧ (Instr.unknownKind 0x7F 1 (List.replicate 238 0)).wellFormed = true
    ∧ ([1] : List Byte).length ≠ 0 ∧ ¬ (1 ≤ ([] : List Byte).length) ∧ ¬ (([1, 2] : List Byte).length - 1) % 7 = 0
    ∧ (2 : Byte).toNat ≤ 2 ∧ ([0] : List Byte) ≠ [] ∧ (3 : Byte).toNat = 3 ∧ ([0, 0] : List Byte).length ≠ 3
    ∧ 3 < (4 : Byte).toNat ∧ ([0, 0, 0] : List Byte).length = 3 ∧ decodeRequest ⟨0x7F, 1, []⟩ = .error .kind := by
  decide +kernel

theorem witness_FrameBytesDoTheRequest : (Instr.getStatus 0x17).wellFormed = true
    ∧ frameOf (.getStatus 0x17) = some ⟨0x02, 0x17, []⟩ ∧ Free awake ∧ awake.lnk.rx = .hunt ∧ awake.lnk.partialFrame = [] :=
  ⟨by decide +kernel, by decide +kernel, free_awake, rfl, rfl⟩

theorem witness_RowCodeCorrectsOneDetectsTwo : (38 : Nat) < 39 ∧ (0 : Nat) < 38 := by decide

theorem witness_SaveWritesRowByRow : ¬ SaveRunning awake ∧ saving.sst.activity = .saving 0
    ∧ savingLast.sst.activity = .saving 511 ∧ (0 : BitVec 39) = 0 ∧ (1 : BitVec 39) ≠ 0 :=
  ⟨not_saving_awake, rfl, rfl, rfl, by decide⟩

theorem witness_SavedSettingsLoadBack :
    (∀ p : ParamId, p.inRange (Settings.defaults.params.get p.place) = true) ∧ (∀ n, Settings.defaults.levels.get n ≤ 7)
    ∧ (∀ i, responseOfRec (recOfResponse (Settings.defaults.responses.get i)) = some (Settings.defaults.responses.get i))
    ∧ (∀ u, -2147483648 ≤ (Settings.defaults.watches.get u).threshold
        ∧ (Settings.defaults.watches.get u).threshold ≤ 2147483647) := by
  refine ⟨fun p => by cases p <;> decide +kernel, by decide +kernel, by decide +kernel, by decide +kernel⟩

/-- RUN with a command waiting. -/
def waiting : State := inRun.withPending [.tripInAssert]

theorem witness_AlertAlwaysTrue : waiting.AlertTrue ∧ ∃ t, step waiting = .next t := ⟨by unfold State.AlertTrue; decide +kernel, _, rfl⟩

theorem witness_GatesOnlyWhileUnblocked : waiting.ListSettled ∧ ∃ t, step waiting = .next t :=
  ⟨settledOf _ (by decide +kernel), _, rfl⟩

theorem witness_GovernorStaysSound : waiting.GovernorSound ∧ ∃ t, step waiting = .next t :=
  ⟨steadySound _ (by decide +kernel), _, rfl⟩

theorem witness_CurrentsStayWithinIMax : waiting.Limited ∧ interlocked.SetpointsOff ∧ (∃ t, step waiting = .next t)
    ∧ ∃ t, step (interlocked.withPending [.tripInRelease]) = .next t := by
  refine ⟨⟨by decide +kernel, by decide +kernel, ?_⟩, fun _ => by decide +kernel, ⟨_, rfl⟩, _, rfl⟩
  intro c h
  exact absurd (show waiting.dgv.copy = none from rfl) (by rw [h]; simp)

theorem witness_ValuesStayInRange : waiting.TrackerInRange ∧ waiting.ParamsInRange ∧ waiting.BuffersInRange
    ∧ ∃ t, step waiting = .next t :=
  ⟨trackerOf _ (by decide +kernel), paramsOf _ rfl, ⟨by decide +kernel, by decide +kernel, by decide +kernel⟩, _, rfl⟩

end Sys2Proof.Tests
end

section
/-!
The filter bank (chapter 1, R7 to R10): what one stage computes and when it saturates, the cascade of a default bank, and
what the bank does with a trimmed set, disabled and enabled. The file settles O7.
-/

namespace Sys2Proof.FilterBank

open Sys2Proof.Machine Sys2Proof.Claims

/-! Saturated codes. -/

/-- A code holds its integer limited to the signed 16-bit range (1.4.5). -/
theorem toInt_toCode (x : Int) : (toCode x).toInt = min 32767 (max (-32768) x) := by
  have hlo : -32768 ≤ sat16 x := by unfold sat16 clamp; omega
  have hhi : sat16 x ≤ 32767 := by unfold sat16 clamp; omega
  calc (toCode x).toInt = (sat16 x).bmod (2 ^ 16) := BitVec.toInt_ofInt _
    _ = sat16 x := Int.bmod_eq_of_le (by omega) (by omega)
    _ = min 32767 (max (-32768) x) := rfl

/-- A code is the code of its own integer. -/
@[simp] theorem toCode_toInt (x : Code) : toCode x.toInt = x := by
  apply BitVec.eq_of_toInt_eq
  have hlo : -2 ^ 15 ≤ x.toInt := BitVec.le_toInt x
  have hhi : x.toInt < 2 ^ 15 := BitVec.toInt_lt
  rw [toInt_toCode]
  omega

/-! One stage (R8, R9). -/

/-- A stage's output in the words of R8. -/
theorem stageOut_toInt (c : Coeffs) (st : StageState) (x0 : Code) :
    (stageOut c st x0).toInt = min 32767 (max (-32768) (stageQuotient c st x0)) :=
  toInt_toCode _

/-- A stage saturates when its quotient leaves the signed 16-bit range (R9). -/
theorem stageSaturates_iff (c : Coeffs) (st : StageState) (x0 : Code) :
    stageSaturates c st x0 = true ↔ stageQuotient c st x0 < -32768 ∨ 32767 < stageQuotient c st x0 := by
  simp [stageSaturates]

/-- The coefficients of a default stage: b0 is 1, all others 0. -/
def unitCoeffs : Coeffs := ⟨16384, 0, 0, 0, 0⟩

/-- A default stage's quotient is its input, whatever its state holds: the rounding 8,192 of R8 is lost in the floor. -/
theorem stageQuotient_unit (st : StageState) (x : Code) : stageQuotient unitCoeffs st x = x.toInt := by
  have hsum : stageSum unitCoeffs st x = 16384 * x.toInt := by
    simp [stageSum, unitCoeffs, show (16384#16).toInt = 16384 by decide]
  rw [stageQuotient, hsum]
  omega

@[simp] theorem stageOut_unit (st : StageState) (x : Code) : stageOut unitCoeffs st x = x := by
  rw [stageOut, stageQuotient_unit, toCode_toInt]

@[simp] theorem stageSaturates_unit (st : StageState) (x : Code) : stageSaturates unitCoeffs st x = false := by
  have hlo : -2 ^ 15 ≤ x.toInt := BitVec.le_toInt x
  have hhi : x.toInt < 2 ^ 15 := BitVec.toInt_lt
  rw [← Bool.not_eq_true, stageSaturates_iff, stageQuotient_unit]
  omega

/-! The cascade (R7, R9). -/

/-- A cascade saturates when one of its stages does, each at the output of the stage before (R9). -/
theorem runCascade_saturates_iff (cs : Tab Coeffs 3) (st : Tab StageState 3) (x : Code) :
    (runCascade cs st x).2.2 = true ↔
      stageSaturates (cs.get 0) (st.get 0) x = true
      ∨ stageSaturates (cs.get 1) (st.get 1) (stageOut (cs.get 0) (st.get 0) x) = true
      ∨ stageSaturates (cs.get 2) (st.get 2)
          (stageOut (cs.get 1) (st.get 1) (stageOut (cs.get 0) (st.get 0) x)) = true := by
  simp [runCascade, or_assoc]

/-- A default cascade passes its input and never saturates. -/
theorem runCascade_unit (st : Tab StageState 3) (x : Code) :
    (runCascade (Tab.fill 3 unitCoeffs) st x).2 = (x, false) := by
  simp [runCascade]

/-! A trimmed set taken (R9, R10). -/

/-- What the cascade of one filtered voltage makes of a trimmed set. -/
def channelRun (t : TrimmedSet) (s : State) (i : Fin 3) : Tab StageState 3 × Code × Bool :=
  runCascade s.ffb.coeffs (s.ffb.stages.get i) (t.values.get (voltageChannel i))

/-- The enabled bank after a trimmed set (R7, R9, R10). -/
def bankAfter (t : TrimmedSet) (s : State) : Ffb :=
  { s.ffb with
    stages := Tab.ofFn fun i => (channelRun t s i).1
    saturations := Tab.ofFn fun i =>
      if (channelRun t s i).2.2 then satInc 65535 (s.ffb.saturations.get i) else s.ffb.saturations.get i
    filtered := some (filteredSet t (Tab.ofFn fun i => (channelRun t s i).2.1)
      (Tab.ofFn fun i => residualOf (t.values.get (voltageChannel i)) (channelRun t s i).2.1)) }

theorem tab_map_ofFn {α β : Type} {n : Nat} (f : Fin n → α) (g : α → β) :
    (Tab.ofFn f).map g = Tab.ofFn fun i => g (f i) :=
  Tab.ext_get fun i => by simp

theorem tab_any_ofFn {α : Type} {n : Nat} (f : Fin n → α) (p : α → Bool) :
    (Tab.ofFn f).list.any p = true ↔ ∃ i, p (f i) = true := by
  simp [Tab.ofFn, List.any_eq_true, List.mem_ofFn]

/-- The disabled bank publishes the trimmed voltages with residuals of 0 (R10). -/
theorem filterSet_disabled (t : TrimmedSet) (s : State) (h : s.ffb.enabled = false) :
    filterSet t s = s.withFfb { s.ffb with
      filtered := some (filteredSet t (Tab.ofFn fun i => t.values.get (voltageChannel i)) (Tab.fill 3 0)) } := by
  simp [filterSet, h]

/-- The enabled bank runs its cascades, and raises FILTER_SAT when one of them saturates (R9, R10). -/
theorem filterSet_enabled (t : TrimmedSet) (s : State) (h : s.ffb.enabled = true) :
    filterSet t s =
      if ∃ i, (channelRun t s i).2.2 = true then occur .filterSat (s.withFfb (bankAfter t s))
      else s.withFfb (bankAfter t s) := by
  have houts : (Tab.ofFn fun i : Fin 3 => runCascade s.ffb.coeffs (s.ffb.stages.get i)
      (t.values.get (voltageChannel i))) = Tab.ofFn (channelRun t s) := rfl
  simp only [filterSet, h, if_true, Tab.get_ofFn, houts, tab_map_ofFn, tab_any_ofFn, bankAfter]

theorem filterSet_saturated (t : TrimmedSet) (s : State) (h : s.ffb.enabled = true)
    (hsat : ∃ i, (channelRun t s i).2.2 = true) :
    filterSet t s = occur .filterSat (s.withFfb (bankAfter t s)) := by
  rw [filterSet_enabled t s h, if_pos hsat]

theorem filterSet_unsaturated (t : TrimmedSet) (s : State) (h : s.ffb.enabled = true)
    (hsat : ∀ i, ¬ (channelRun t s i).2.2 = true) : filterSet t s = s.withFfb (bankAfter t s) := by
  rw [filterSet_enabled t s h, if_neg (not_exists.mpr hsat)]

/-- FILTER_SAT leaves the bank as the cascades made it. -/
theorem filterSet_ffb_enabled (t : TrimmedSet) (s : State) (h : s.ffb.enabled = true) :
    (filterSet t s).ffb = bankAfter t s := by
  by_cases hsat : ∃ i, (channelRun t s i).2.2 = true
  · rw [filterSet_saturated t s h hsat, occur_ffb, State.withFfb_ffb]
  · rw [filterSet_unsaturated t s h (not_exists.mp hsat), State.withFfb_ffb]

/-- Coefficients and the enable are settings: a trimmed set leaves them. -/
theorem filterSet_settings (t : TrimmedSet) (s : State) :
    (filterSet t s).ffb.coeffs = s.ffb.coeffs ∧ (filterSet t s).ffb.enabled = s.ffb.enabled := by
  cases h : s.ffb.enabled
  · rw [filterSet_disabled t s h]
    exact ⟨rfl, h⟩
  · rw [filterSet_ffb_enabled t s h]
    exact ⟨rfl, h⟩

/-- FILTER_SAT occurs once when a cascade saturates, and no source but it and TRACE_FROZEN changes (R9, R155, R168). -/
theorem filterSet_raises (t : TrimmedSet) (s : State) (h : s.ffb.enabled = true)
    (hsat : ∃ i, (channelRun t s i).2.2 = true) :
    Raised .filterSat s (filterSet t s) ∧ QuietBut [.filterSat, .traceFrozen] s (filterSet t s) := by
  rw [filterSet_saturated t s h hsat]
  refine ⟨occur_source_same .filterSat _ (by decide), fun src hsrc => ?_⟩
  obtain ⟨hsat', hfrozen⟩ : src ≠ .filterSat ∧ src ≠ .traceFrozen := by simpa using hsrc
  exact occur_source_other .filterSat _ _ (mt Source.num_injective hsat') (mt Source.num_injective hfrozen)

/-- The frame: outside the bank, only the notice unit and the trace recorder can change. -/
theorem filterSet_frame (t : TrimmedSet) (s : State) :
    filterSet t s =
      { s with ffb := (filterSet t s).ffb, ntu := (filterSet t s).ntu, trc := (filterSet t s).trc } := by
  refine State.ext_fields fun f => ?_
  cases f <;> simp [Field.same]

/-- Settles O7: the stage by its quotient, the cascade stage by stage, and the bank by its two cases, disabled and
enabled, the latter with and without a saturation. -/
theorem filterBankFollowsFormula : Obligations.FilterBankFollowsFormula := by
  refine ⟨⟨fun c st x0 => ⟨stageOut_toInt c st x0, rfl⟩, ?cascade, runCascade_unit⟩, fun t s =>
    ⟨?disabled, ?enabled, ?saturation, ?quiet, (filterSet_settings t s).1, (filterSet_settings t s).2, _, _,
      filterSet_frame t s⟩⟩
  case cascade =>
    intro cs st x
    refine ⟨rfl, rfl, rfl, rfl, ?_⟩
    simp only [runCascade_saturates_iff, stageSaturates_iff]
    rfl
  case disabled =>
    intro h
    rw [filterSet_disabled t s h]
    rfl
  case enabled =>
    intro h
    rw [filterSet_ffb_enabled t s h]
    refine ⟨_, rfl, rfl, fun i => ⟨Tab.get_ofFn _ i, ?_, Tab.get_ofFn _ i⟩, Tab.get_ofFn _, rfl⟩
    simp only [filteredSet, Tab.get_ofFn]
    exact toInt_toCode _
  case saturation =>
    intro h
    refine ⟨fun i => ?_, filterSet_raises t s h, fun hsat => ?_⟩
    · have hcount : (filterSet t s).ffb.saturations.get i =
          if (channelRun t s i).2.2 then satInc 65535 (s.ffb.saturations.get i) else s.ffb.saturations.get i := by
        rw [filterSet_ffb_enabled t s h]
        exact Tab.get_ofFn _ i
      exact ⟨fun hsat => hcount.trans (if_pos hsat), fun hsat => hcount.trans (if_neg hsat)⟩
    · rw [filterSet_unsaturated t s h hsat]
      exact ⟨rfl, rfl⟩
  case quiet =>
    intro h
    rw [filterSet_disabled t s h]
    exact ⟨rfl, rfl⟩

end Sys2Proof.FilterBank
end

section
/-!
Crossings (3.3, R42): the forward arc as a difference mod 23,040, when an angle update crosses an angle, and which path
points its agenda holds. The file settles O8.
-/

namespace Sys2Proof.Crossing

open Sys2Proof.Machine

/-! The forward arc. -/

/-- The arc is the difference of two angles mod 23,040, whatever numbers name them. -/
theorem arc_eq_emod (start x : Nat) : (arc start x : Int) = ((x : Int) - start) % 23040 := by
  unfold arc
  omega

@[simp] theorem arc_self (x : Nat) : arc x x = 0 := by
  have hdiff : (arc x x : Int) = ((x : Int) - x) % 23040 := arc_eq_emod x x
  omega

/-! The crossing test. -/

theorem crosses_iff (u : AngleUpdate) (x : Nat) :
    u.crosses x = true ↔
      u.reseat = false ∧ 1 ≤ arc u.thetaPrev x ∧ arc u.thetaPrev x ≤ arc u.thetaPrev u.thetaNew := by
  simp [AngleUpdate.crosses, crosses, and_assoc]

/-- The crossing test in the words of R42. -/
theorem crosses_iff_emod (u : AngleUpdate) (x : Nat) :
    u.crosses x = true ↔
      u.reseat = false ∧ 1 ≤ ((x : Int) - u.thetaPrev) % 23040
      ∧ ((x : Int) - u.thetaPrev) % 23040 ≤ ((u.thetaNew : Int) - u.thetaPrev) % 23040 := by
  rw [crosses_iff, ← arc_eq_emod, ← arc_eq_emod]
  norm_cast

/-- The arc behind an update begins after its start. -/
theorem not_crosses_thetaPrev (u : AngleUpdate) : u.crosses u.thetaPrev = false := by
  rw [← Bool.not_eq_true, crosses_iff, arc_self]
  omega

theorem not_crosses_of_still (u : AngleUpdate) (h : u.thetaNew = u.thetaPrev) (x : Nat) : u.crosses x = false := by
  rw [← Bool.not_eq_true, crosses_iff, h, arc_self]
  omega

theorem not_crosses_of_reseat (u : AngleUpdate) (h : u.reseat = true) (x : Nat) : u.crosses x = false := by
  rw [← Bool.not_eq_true, crosses_iff, h]
  rintro ⟨hreseat, -⟩
  contradiction

/-! The path of an update. -/

/-- The path points of an update: one for each distance 1 to Δ, in that order by key, and none at a reseat. -/
theorem path_mem_pathDeeds_iff (u : AngleUpdate) (k d : Nat) :
    (k, Deed.path d) ∈ pathDeeds u ↔
      k = 16 * d ∧ u.reseat = false ∧ 1 ≤ d ∧ d ≤ arc u.thetaPrev u.thetaNew := by
  cases hreseat : u.reseat with
  | true => simp [pathDeeds, hreseat]
  | false =>
    have hmem : (k, Deed.path d) ∈ pathDeeds u ↔
        ∃ i < arc u.thetaPrev u.thetaNew, 16 * (i + 1) = k ∧ i + 1 = d := by
      simp [pathDeeds, hreseat]
    rw [hmem]
    constructor
    · rintro ⟨i, hi, rfl, rfl⟩
      exact ⟨rfl, rfl, by omega, hi⟩
    · rintro ⟨rfl, -, hpos, hle⟩
      exact ⟨d - 1, by omega, by omega, by omega⟩

/-- Settles O8: the test by the arc, which is the difference mod 23,040 and 0 from an angle to itself, and the path by the
distances that it holds. -/
theorem crossingFollowsArc : Obligations.CrossingFollowsArc := by
  refine fun u _ _ => ⟨fun x _ => crosses_iff_emod u x, not_crosses_thetaPrev u, not_crosses_of_still u,
    fun hreseat => ⟨not_crosses_of_reseat u hreseat, fun k d hmem => ?noPath⟩, fun d => ?path⟩
  case noPath =>
    obtain ⟨-, hnot, -⟩ := (path_mem_pathDeeds_iff u k d).mp hmem
    rw [hreseat] at hnot
    contradiction
  case path =>
    rw [path_mem_pathDeeds_iff]
    exact and_iff_right rfl

end Sys2Proof.Crossing
end

section
/-!
The firing delay of a dispatch (4.3 and 4.4, R62 to R65 and R67): the previous delay after a pending preset, the bounds of
the commanded delay, and the delay within them. The file settles O14.
-/

namespace Sys2Proof.FiringDelay

open Sys2Proof.Machine

/-! Clamping (1.4.5). The lower end may stand above the upper one, which then wins. -/

theorem clamp_le (x lo hi : Int) : clamp x lo hi ≤ hi := min_le_left _ _

theorem le_clamp {y lo hi : Int} (x : Int) (hlo : y ≤ lo) (hhi : y ≤ hi) : y ≤ clamp x lo hi :=
  le_min hhi (hlo.trans (le_max_left _ _))

/-! A preset applied (R67). -/

theorem applyPreset_pending (s : State) (b : Bridge) (h : b.presetPending = true) :
    applyPreset s b =
      { b with
        alphaPrev := (clamp (b.startValue.getD 0) (s.par .alphaMin) (s.par .alphaMax)).toNat
        integ := (s.par .alphaCenter - clamp (b.startValue.getD 0) (s.par .alphaMin) (s.par .alphaMax)) * 256
        presetPending := false } := by
  simp [applyPreset, h]

theorem applyPreset_settled (s : State) (b : Bridge) (h : b.presetPending = false) : applyPreset s b = b := by
  simp [applyPreset, h]

/-- A preset does not reach the working setpoint, so the error of R62 is that of the bridge before it. -/
@[simp] theorem applyPreset_setpoint (s : State) (b : Bridge) : (applyPreset s b).setpoint = b.setpoint := by
  cases h : b.presetPending with
  | true => rw [applyPreset_pending s b h]
  | false => rw [applyPreset_settled s b h]

/-- The previous delay that a dispatch starts from: the start value within [ALPHA_MIN, ALPHA_MAX] where a preset is
pending, which is no negative number and so is held as it is. -/
theorem applyPreset_alphaPrev (s : State) (b : Bridge) (hmin : 0 ≤ s.par .alphaMin)
    (hle : s.par .alphaMin ≤ s.par .alphaMax) :
    ((applyPreset s b).alphaPrev : Int) =
      if b.presetPending = true then clamp (b.startValue.getD 0) (s.par .alphaMin) (s.par .alphaMax)
      else b.alphaPrev := by
  cases h : b.presetPending with
  | true =>
    have hpos : 0 ≤ clamp (b.startValue.getD 0) (s.par .alphaMin) (s.par .alphaMax) :=
      le_clamp _ hmin (hmin.trans hle)
    simp [applyPreset_pending s b h, hpos]
  | false => simp [applyPreset_settled s b h]

/-! The lower bound of the delay (R63). -/

theorem alphaMin_le_delayLowerBound (s : State) (floor : Int) (b : Bridge) :
    s.par .alphaMin ≤ delayLowerBound s floor b :=
  (le_max_left _ _).trans (le_max_left _ _)

theorem slew_le_delayLowerBound (s : State) (floor : Int) (b : Bridge) :
    b.alphaPrev - s.par .alphaSlewDn ≤ delayLowerBound s floor b :=
  (le_max_right _ _).trans (le_max_left _ _)

theorem floor_le_delayLowerBound (s : State) (floor : Int) (b : Bridge) : floor ≤ delayLowerBound s floor b :=
  le_max_right _ _

/-! The dispatch (R62 to R65). -/

/-- The error e of R62. -/
def currentError (b : Bridge) (i : Code) : Int := b.setpoint / 256 - i.toInt

/-- The answer to a dispatch, from the bridge after its preset and the error. -/
theorem regulate_eq (s : State) (floor : Int) (b : Bridge) (i : Code) :
    regulate s floor b i =
      { applyPreset s b with
        alphaPrev := (clamp (commandedDelay s (applyPreset s b) (currentError b i))
          (delayLowerBound s floor (applyPreset s b)) (s.par .alphaMax)).toNat
        integ := integrate s floor (applyPreset s b) (currentError b i) } := by
  have herror : ((applyPreset s b).iSet : Int) - i.toInt = currentError b i := by
    simp [Bridge.iSet, currentError]
  rw [← herror]
  rfl

/-- The delay dispatched is the commanded one within its bounds: with ALPHA_MIN at 0 or above, it is no negative number. -/
theorem regulate_alphaPrev (s : State) (floor : Int) (b : Bridge) (i : Code) (hmin : 0 ≤ s.par .alphaMin)
    (hle : s.par .alphaMin ≤ s.par .alphaMax) :
    ((regulate s floor b i).alphaPrev : Int) =
      clamp (commandedDelay s (applyPreset s b) (currentError b i)) (delayLowerBound s floor (applyPreset s b))
        (s.par .alphaMax) := by
  rw [regulate_eq]
  exact Int.toNat_of_nonneg
    (le_clamp _ (hmin.trans (alphaMin_le_delayLowerBound s floor _)) (hmin.trans hle))

/-- Whatever lies below both ends of the interval of R63 lies below the delay dispatched. -/
theorem le_regulate_alphaPrev (s : State) (floor : Int) (b : Bridge) (i : Code) (hmin : 0 ≤ s.par .alphaMin)
    (hle : s.par .alphaMin ≤ s.par .alphaMax) {y : Int}
    (hlo : y ≤ delayLowerBound s floor (applyPreset s b)) (hhi : y ≤ s.par .alphaMax) :
    y ≤ (regulate s floor b i).alphaPrev := by
  rw [regulate_alphaPrev s floor b i hmin hle]
  exact le_clamp _ hlo hhi

/-- Settles O14: the answer to a dispatch is the formula of R62 to R64 on the bridge after its preset, and each bound on the
delay is one of the three under the lower bound of R63. The formula of the statement is that of `regulate_eq` with
`applyPreset`, `commandedDelay`, `delayLowerBound` and `integrate` written out. -/
theorem delayStaysInBounds : Obligations.DelayStaysInBounds := by
  refine ⟨fun s floor b i _ _ _ _ _ => regulate_eq s floor b i, fun s floor b i hmin hle => ?bounds,
    fun v s _ => ?floor⟩
  case bounds =>
    have hbefore := applyPreset_alphaPrev s b hmin hle
    refine ⟨?least, ?most, fun hprev hslew => ?advance, fun hfloor => ?episode⟩
    case least => exact le_regulate_alphaPrev s floor b i hmin hle (alphaMin_le_delayLowerBound s floor _) hle
    case most =>
      rw [regulate_alphaPrev s floor b i hmin hle]
      exact clamp_le _ _ _
    case advance =>
      refine le_regulate_alphaPrev s floor b i hmin hle ?_ ((sub_le_self _ hslew).trans hprev)
      exact hbefore ▸ slew_le_delayLowerBound s floor (applyPreset s b)
    case episode => exact le_regulate_alphaPrev s floor b i hmin hle (floor_le_delayLowerBound s floor _) hfloor
  case floor => exact congrArg View.floor (after_ramp v s)

end Sys2Proof.FiringDelay
end

section
/-!
The life of a firing-list entry (chapter 5): what each crossing does, what a point of the path makes of one entry and of the
list (R73 to R76), the gate lines (R40, R77, R78), the window samples (R79), the judgement at the notch close (R80) and the
reference averages (R82). The file settles O17.
-/

namespace Sys2Proof.EntryLife

open Sys2Proof.Machine Sys2Proof.Claims

/-! Reference averages (R82). -/

/-- An average moves towards the area and does not pass it, whatever the shifts. -/
theorem averageAfter_between (s : State) (avg a : Nat) :
    min avg a ≤ averageAfter s avg a ∧ averageAfter s avg a ≤ max avg a := by
  rcases lt_or_ge avg a with hlt | hge
  · have hup : (a - avg) / 2 ^ s.parN .refavgUpShift ≤ a - avg := Nat.div_le_self _ _
    rw [averageAfter, if_pos hlt, min_eq_left hlt.le, max_eq_right hlt.le]
    exact ⟨Nat.le_add_right _ _, Nat.add_le_of_le_sub' hlt.le hup⟩
  · have hdn : (avg - a) / 2 ^ s.parN .refavgDnShift ≤ avg - a := Nat.div_le_self _ _
    rw [averageAfter, if_neg hge.not_gt, min_eq_right hge, max_eq_left hge]
    exact ⟨(Nat.sub_sub_self hge).symm.trans_le (Nat.sub_le_sub_left hdn avg), Nat.sub_le _ _⟩

/-! The crossings of one entry (R74 to R76, R80): each is taken, or leaves the entry as it is. -/

section Crossings

variable {s : State} {u : AngleUpdate} {x : Nat} {avg : Tab Nat 4} {e : Entry}

theorem passRefOpen_taken (h : e.state = .waiting ∧ e.refOpen = x) :
    passRefOpen x e = { e with state := .reference, refArea := 0, refSamples := 0 } := if_pos h

theorem passRefOpen_not_taken (h : ¬ (e.state = .waiting ∧ e.refOpen = x)) : passRefOpen x e = e := if_neg h

theorem passRefClose_taken (h : e.state = .reference ∧ e.refClose = x) :
    passRefClose x e = { e with state := .armed, disturbed := decide (e.config.refLimit.toNat < e.refArea) } :=
  if_pos h

theorem passRefClose_not_taken (h : ¬ (e.state = .reference ∧ e.refClose = x)) : passRefClose x e = e := if_neg h

theorem passFire_taken (h : e.state = .armed ∧ e.fire = x) :
    passFire x e = { e with state := .conducting, notchArea := 0, notchSamples := 0, drive := true } := if_pos h

theorem passFire_not_taken (h : ¬ (e.state = .armed ∧ e.fire = x)) : passFire x e = e := if_neg h

theorem passGateOff_taken (h : e.drive = true ∧ e.gateOff = x) : passGateOff x e = { e with drive := false } := if_pos h

theorem passGateOff_not_taken (h : ¬ (e.drive = true ∧ e.gateOff = x)) : passGateOff x e = e := if_neg h

theorem passNotchClose_not_taken (h : ¬ (e.state = .conducting ∧ e.notchClose = x)) :
    passNotchClose s u x avg e = (e, avg) := if_neg h

/-- The entry after its notch close, judged against its bridge's average (R80). -/
theorem passNotchClose_entry (h : e.state = .conducting ∧ e.notchClose = x) :
    (passNotchClose s u x avg e).1 =
      { e with state := .done, outcome := some (judgeNotch s u e (avg.get e.bridge))
               episodeMark := decide (s.dgv.state = .episode), doneTime := u.set.count } := by
  rw [passNotchClose, if_pos h]
  rfl

/-- The reference averages after a notch close (R82). -/
theorem passNotchClose_averages (h : e.state = .conducting ∧ e.notchClose = x) :
    (passNotchClose s u x avg e).2 =
      if judgeNotch s u e (avg.get e.bridge) = .confirmed
      then avg.set e.bridge (averageAfter s (avg.get e.bridge) e.notchArea) else avg := by
  rw [passNotchClose, if_pos h]

theorem passNotchClose_average_confirmed (h : e.state = .conducting ∧ e.notchClose = x)
    (hjudged : judgeNotch s u e (avg.get e.bridge) = .confirmed) :
    (passNotchClose s u x avg e).2.get e.bridge = averageAfter s (avg.get e.bridge) e.notchArea := by
  rw [passNotchClose_averages h, if_pos hjudged, Tab.get_set_same]

theorem passNotchClose_averages_unconfirmed (h : e.state = .conducting ∧ e.notchClose = x)
    (hjudged : judgeNotch s u e (avg.get e.bridge) ≠ .confirmed) : (passNotchClose s u x avg e).2 = avg := by
  rw [passNotchClose_averages h, if_neg hjudged]

/-- A notch close reaches no average but that of the entry's own bridge. -/
theorem passNotchClose_average_other {b : Fin 4} (hb : b ≠ e.bridge) :
    (passNotchClose s u x avg e).2.get b = avg.get b := by
  by_cases h : e.state = .conducting ∧ e.notchClose = x
  · rw [passNotchClose_averages h]
    split
    · exact Tab.get_set_other avg _ _ _ hb.symm
    · rfl
  · rw [passNotchClose_not_taken h]

/-- The judgement does not read the gate drive, and keeps it. -/
theorem passNotchClose_drive (d : Bool) :
    passNotchClose s u x avg { e with drive := d } =
      ({ (passNotchClose s u x avg e).1 with drive := d }, (passNotchClose s u x avg e).2) := by
  by_cases h : e.state = .conducting ∧ e.notchClose = x
  · refine Prod.ext ?entry ?averages
    case entry =>
      rw [passNotchClose_entry h, passNotchClose_entry (e := { e with drive := d }) h]
      rfl
    case averages =>
      rw [passNotchClose_averages h, passNotchClose_averages (e := { e with drive := d }) h]
      rfl
  · rw [passNotchClose_not_taken h, passNotchClose_not_taken (e := { e with drive := d }) h]

end Crossings

/-! One entry at a point of the path (R73): the crossing of its state is taken, with those that follow at the same angle. -/

section Points

variable (s : State) (u : AngleUpdate) (x : Nat) (avg : Tab Nat 4) {e : Entry}

/-- The reference window opens (R74). -/
theorem passEntry_refOpen (hst : e.state = .waiting) (hx : e.refOpen = x) (hclose : e.refClose ≠ x)
    (hoff : ¬ (e.drive = true ∧ e.gateOff = x)) :
    passEntry s u x avg e = ({ e with state := .reference, refArea := 0, refSamples := 0 }, avg) := by
  rw [passEntry, passRefOpen_taken ⟨hst, hx⟩]
  simp [passRefClose_not_taken, passFire_not_taken, passGateOff_not_taken, passNotchClose_not_taken, hclose, hoff]

/-- The reference window closes (R75). -/
theorem passEntry_refClose (hst : e.state = .reference) (hx : e.refClose = x) (hfire : e.fire ≠ x)
    (hoff : ¬ (e.drive = true ∧ e.gateOff = x)) :
    passEntry s u x avg e =
      ({ e with state := .armed, disturbed := decide (e.config.refLimit.toNat < e.refArea) }, avg) := by
  rw [passEntry, passRefOpen_not_taken (by simp [hst]), passRefClose_taken ⟨hst, hx⟩]
  simp [passFire_not_taken, passGateOff_not_taken, passNotchClose_not_taken, hfire, hoff]

/-- The entry fires (R76). -/
theorem passEntry_fire (hst : e.state = .armed) (hx : e.fire = x) (hoff : e.gateOff ≠ x) (hnotch : e.notchClose ≠ x) :
    passEntry s u x avg e =
      ({ e with state := .conducting, notchArea := 0, notchSamples := 0, drive := true }, avg) := by
  rw [passEntry, passRefOpen_not_taken (by simp [hst]), passRefClose_not_taken (by simp [hst]),
    passFire_taken ⟨hst, hx⟩]
  simp [passGateOff_not_taken, passNotchClose_not_taken, hoff, hnotch]

/-- Where the two angles coincide, the reference window closes and then the entry fires (R73, R75, R76). -/
theorem passEntry_refClose_fire (hst : e.state = .reference) (hclose : e.refClose = x) (hfire : e.fire = x)
    (hoff : e.gateOff ≠ x) (hnotch : e.notchClose ≠ x) :
    passEntry s u x avg e =
      ({ e with state := .conducting, disturbed := decide (e.config.refLimit.toNat < e.refArea), notchArea := 0
                notchSamples := 0, drive := true }, avg) := by
  rw [passEntry, passRefOpen_not_taken (by simp [hst]), passRefClose_taken ⟨hst, hclose⟩]
  simp [passFire_taken, passGateOff_not_taken, passNotchClose_not_taken, hfire, hoff, hnotch]

/-- An entry that neither opens nor closes its reference window nor fires has its gate-off and its notch close left. -/
theorem passEntry_late (hopen : ¬ (e.state = .waiting ∧ e.refOpen = x))
    (hclose : ¬ (e.state = .reference ∧ e.refClose = x)) (hfire : ¬ (e.state = .armed ∧ e.fire = x)) :
    passEntry s u x avg e = passNotchClose s u x avg (passGateOff x e) := by
  rw [passEntry, passRefOpen_not_taken hopen, passRefClose_not_taken hclose, passFire_not_taken hfire]

theorem passEntry_conducting (hst : e.state = .conducting) :
    passEntry s u x avg e = passNotchClose s u x avg (passGateOff x e) :=
  passEntry_late s u x avg (by simp [hst]) (by simp [hst]) (by simp [hst])

/-- A conducting entry whose gate drive ends at this point (R76): what its notch close would answer, with the drive OFF. -/
theorem passEntry_conducting_off (hst : e.state = .conducting) (hoff : e.drive = true ∧ e.gateOff = x) :
    passEntry s u x avg e =
      ({ (passNotchClose s u x avg e).1 with drive := false }, (passNotchClose s u x avg e).2) := by
  rw [passEntry_conducting s u x avg hst, passGateOff_taken hoff, passNotchClose_drive]

theorem passEntry_conducting_on (hst : e.state = .conducting) (hoff : ¬ (e.drive = true ∧ e.gateOff = x)) :
    passEntry s u x avg e = passNotchClose s u x avg e := by
  rw [passEntry_conducting s u x avg hst, passGateOff_not_taken hoff]

/-- The gate drive ends before the notch close (R76). -/
theorem passEntry_gateOff (hst : e.state = .conducting) (hoff : e.drive = true ∧ e.gateOff = x)
    (hnotch : e.notchClose ≠ x) : passEntry s u x avg e = ({ e with drive := false }, avg) := by
  rw [passEntry_conducting_off s u x avg hst hoff, passNotchClose_not_taken (fun h => hnotch h.2)]

/-- A point that is none of the angles an entry waits for leaves the entry. -/
theorem passEntry_unconcerned (hopen : ¬ (e.state = .waiting ∧ e.refOpen = x))
    (hclose : ¬ (e.state = .reference ∧ e.refClose = x)) (hfire : ¬ (e.state = .armed ∧ e.fire = x))
    (hnotch : ¬ (e.state = .conducting ∧ e.notchClose = x)) (hoff : ¬ (e.drive = true ∧ e.gateOff = x)) :
    passEntry s u x avg e = (e, avg) := by
  rw [passEntry_late s u x avg hopen hclose hfire, passGateOff_not_taken hoff, passNotchClose_not_taken hnotch]

end Points

/-! The list at a point of the path (R73). -/

/-- The crossings of entries read nothing of the list's own block but what they are given. -/
theorem passEntries_withFls (s : State) (f : Fls) (u : AngleUpdate) (x : Nat) (avg : Tab Nat 4) (l : List Entry) :
    passEntries (s.withFls f) u x avg l = passEntries s u x avg l := by
  induction l generalizing avg with
  | nil => rfl
  | cons e rest ih =>
    have hhead : passEntry (s.withFls f) u x avg e = passEntry s u x avg e := rfl
    simp only [passEntries, hhead, ih]

/-- The list's block after a point of the path. -/
theorem firePoint_fls (u : AngleUpdate) (x : Nat) (s : State) :
    (firePoint u x s).fls =
      { s.fls with
        list := (passEntries s u x s.fls.refAvg s.fls.list).1
        refAvg := (passEntries s u x s.fls.refAvg s.fls.list).2 } := rfl

theorem firePoint_nil (u : AngleUpdate) (x : Nat) (s : State) (h : s.fls.list = []) : firePoint u x s = s := by
  have hfls : (firePoint u x s).fls = s.fls := by
    rw [firePoint_fls, h]
    exact congrArg (fun l => { s.fls with list := l }) h.symm
  rw [firePoint_frame, hfls]

/-- The head passes first, and the rest passes with the averages that the head leaves. -/
theorem firePoint_cons (u : AngleUpdate) (x : Nat) (s : State) (e : Entry) (rest : List Entry)
    (h : s.fls.list = e :: rest) :
    let r := passEntry s u x s.fls.refAvg e
    let t := firePoint u x (s.withFls { s.fls with list := rest, refAvg := r.2 })
    (firePoint u x s).fls.list = r.1 :: t.fls.list ∧ (firePoint u x s).fls.refAvg = t.fls.refAvg := by
  simp only [firePoint_fls, passEntries_withFls, h, passEntries, State.withFls_fls, and_self]

/-! Gate lines (R40, R76 to R78). -/

/-- An entry whose drive is ON drives the line of its primary pulse and that of its second pulse (R40, R76). -/
theorem drives_iff (e : Entry) (g : Nat) :
    e.drives g = true ↔
      e.drive = true ∧ (g = 6 * e.bridge.1 + e.pair ∨ g = 6 * e.bridge.1 + (e.pair + 5) % 6) := by
  simp [Entry.drives, Entry.primaryLine, Entry.secondLine, @eq_comm _ g]

theorem gateOn_iff (s : State) (g : Fin 24) :
    s.gateOn g = true ↔ s.rct.tripIn = false ∧ ∃ e ∈ s.fls.list, e.drives g.1 = true := by
  simp [State.gateOn]

/-! Window samples (R79). -/

/-- A sample of an entry in REFERENCE or CONDUCTING counts in the window of that state; no other entry takes one. -/
theorem sampleEntry_eq (u : AngleUpdate) (e : Entry) :
    sampleEntry u e =
      { e with
        refArea := if e.state = .reference then min 16777215 (e.refArea + windowSample u e) else e.refArea
        refSamples := if e.state = .reference then min 65535 (e.refSamples + 1) else e.refSamples
        notchArea := if e.state = .conducting then min 16777215 (e.notchArea + windowSample u e) else e.notchArea
        notchSamples := if e.state = .conducting then min 65535 (e.notchSamples + 1) else e.notchSamples } := by
  unfold sampleEntry
  split
  case h_1 href => simp [href, addSample, sampleOf, windowSample, satInc]
  case h_2 hcond => simp [hcond, addSample, sampleOf, windowSample, satInc]
  case h_3 href hcond => simp only [if_neg href, if_neg hcond]

theorem sampleWindows_getElem? (u : AngleUpdate) (s : State) (n : Nat) :
    (sampleWindows u s).fls.list[n]? = s.fls.list[n]?.map (sampleEntry u) :=
  List.getElem?_map

/-- Settles O17: an entry at a point by the crossing of its state, the list by its head, a gate line by the entries that
drive it, a sample by the window it counts in, and the notch close by its outcome. The outcome and the average of the
statement are `judgeNotch` and `averageAfter` written out. -/
theorem notchIsJudged : Obligations.NotchIsJudged := by
  refine ⟨fun s u x e avg => ⟨passEntry_refOpen s u x avg, passEntry_refClose s u x avg, passEntry_fire s u x avg,
      passEntry_refClose_fire s u x avg, passEntry_gateOff s u x avg, fun hst _ =>
        ⟨passEntry_conducting_off s u x avg hst, passEntry_conducting_on s u x avg hst⟩,
      passEntry_unconcerned s u x avg⟩,
    fun s u x => ⟨rfl, firePoint_nil u x s, firePoint_cons u x s⟩,
    fun s g => ?gates,
    fun s u => ⟨rfl, fun n => ?samples⟩,
    fun s u x e avg => ⟨fun hst hx => ⟨passNotchClose_entry ⟨hst, hx⟩, passNotchClose_average_confirmed ⟨hst, hx⟩,
        passNotchClose_averages_unconfirmed ⟨hst, hx⟩, fun b hb => passNotchClose_average_other hb⟩,
      fun hnot => passNotchClose_not_taken (not_and_or.mpr hnot), averageAfter_between s _ _⟩⟩
  case gates =>
    simp only [gateOn_iff, drives_iff]
  case samples =>
    rw [sampleWindows_getElem?]
    exact congrArg (Option.map · _) (funext (sampleEntry_eq u))

end Sys2Proof.EntryLife
end

section
/-!
The ramp step and the limit in force (4.2, R57 and R59; 6.3 and 6.5, R102 and R110): what the step makes of one bridge in each
run state, the limit of each governor state, and the interval from the episode's limit to I_MAX in which it lies. The file
settles O15.
-/

namespace Sys2Proof.Ramp

open Sys2Proof.Machine

/-! The ramp step (R59). -/

theorem running_iff (s : State) : s.running = true ↔ s.rct.state = .run ∨ s.rct.state = .stopping := by
  simp [State.running]

theorem rampStep_not_running (s : State) (h : s.running = false) : rampStep s = s := by
  simp [rampStep, h]

/-- In RUN and STOPPING the step writes the bridges' table, bridge by bridge. -/
theorem rampStep_running (s : State) (h : s.running = true) :
    rampStep s = s.withCrg ⟨Tab.ofFn fun b =>
      if b.1 < s.parN .bridges then
        rampBridge s.limit (s.parN .rampUp) (s.parN .rampDn) (s.crg.bridges.get b)
      else s.crg.bridges.get b⟩ := if_pos h

theorem rampStep_frame (s : State) : rampStep s = { s with crg := (rampStep s).crg } := by
  cases h : s.running with
  | false => rw [rampStep_not_running s h]
  | true => rw [rampStep_running s h]; rfl

/-- A bridge at or above BRIDGES has no working setpoint to ramp. -/
theorem rampStep_bridge_unused (s : State) (h : s.running = true) (b : Fin 4) (hb : s.parN .bridges ≤ b.1) :
    (rampStep s).crg.bridges.get b = s.crg.bridges.get b := by
  simp [rampStep_running s h, Nat.not_lt.mpr hb]

theorem rampStep_bridge_used (s : State) (h : s.running = true) (b : Fin 4) (hb : b.1 < s.parN .bridges) :
    (rampStep s).crg.bridges.get b =
      rampBridge s.limit (s.parN .rampUp) (s.parN .rampDn) (s.crg.bridges.get b) := by
  simp [rampStep_running s h, hb]

/-! The limit in force in each governor state (R57, R102, R110). -/

theorem limit_steady (s : State) (h : s.dgv.state = .steady) : s.limit = s.parN .iMax := by
  simp [State.limit, h]

theorem limit_episode (s : State) (c : GoverningCopy) (hcopy : s.dgv.copy = some c) (h : s.dgv.state = .episode) :
    s.limit = episodeLimit s c := by
  simp [State.limit, h, hcopy]

theorem limit_recovery (s : State) (c : GoverningCopy) (hcopy : s.dgv.copy = some c) (h : s.dgv.state = .recovery) :
    s.limit = recoveryLimit s c := by
  simp [State.limit, h, hcopy]

theorem recoveryLimit_no_ramp (s : State) (c : GoverningCopy) (h : c.resp.rampMs = 0) :
    recoveryLimit s c = s.parN .iMax := if_pos h

theorem recoveryLimit_ramp (s : State) (c : GoverningCopy) (h : 0 < c.resp.rampMs) :
    recoveryLimit s c = episodeLimit s c
      + (s.parN .iMax - episodeLimit s c) * s.dgv.recovery / (c.resp.rampMs * 20) := if_neg h.ne'

/-! The bounds of the limit: an i_limit of at most 4096 is no more than the whole of I_MAX. -/

theorem episodeLimit_le_iMax (s : State) (c : GoverningCopy) (h : c.resp.iLimit ≤ 4096) :
    episodeLimit s c ≤ s.parN .iMax :=
  Nat.div_le_of_le_mul ((Nat.mul_le_mul_left _ h).trans_eq (Nat.mul_comm _ _))

/-- While t has not passed the ramp's length, the part of I_MAX − L_ep regained is no more than the whole of it. -/
theorem recoveryLimit_between (s : State) (c : GoverningCopy) (hlimit : c.resp.iLimit ≤ 4096)
    (ht : s.dgv.recovery ≤ c.resp.rampMs * 20) :
    episodeLimit s c ≤ recoveryLimit s c ∧ recoveryLimit s c ≤ s.parN .iMax := by
  have hep : episodeLimit s c ≤ s.parN .iMax := episodeLimit_le_iMax s c hlimit
  rcases Nat.eq_zero_or_pos c.resp.rampMs with hzero | hpos
  · rw [recoveryLimit_no_ramp s c hzero]
    exact ⟨hep, le_rfl⟩
  · have hrise : (s.parN .iMax - episodeLimit s c) * s.dgv.recovery / (c.resp.rampMs * 20)
        ≤ s.parN .iMax - episodeLimit s c :=
      Nat.div_le_of_le_mul ((Nat.mul_le_mul_left _ ht).trans_eq (Nat.mul_comm _ _))
    rw [recoveryLimit_ramp s c hpos]
    exact ⟨Nat.le_add_right _ _, (Nat.add_le_add_left hrise _).trans_eq (Nat.add_sub_of_le hep)⟩

theorem limit_between (s : State) (c : GoverningCopy) (hcopy : s.dgv.copy = some c) (hlimit : c.resp.iLimit ≤ 4096)
    (ht : s.dgv.recovery ≤ c.resp.rampMs * 20) :
    episodeLimit s c ≤ s.limit ∧ s.limit ≤ s.parN .iMax := by
  have hep : episodeLimit s c ≤ s.parN .iMax := episodeLimit_le_iMax s c hlimit
  cases hstate : s.dgv.state with
  | steady =>
    rw [limit_steady s hstate]
    exact ⟨hep, le_rfl⟩
  | episode =>
    rw [limit_episode s c hcopy hstate]
    exact ⟨le_rfl, hep⟩
  | recovery =>
    rw [limit_recovery s c hcopy hstate]
    exact recoveryLimit_between s c hlimit ht

/-- Settles O15: the ramp step bridge by bridge, where the formula of the statement is `rampBridge` written out, and the limit
state by state, where `ep` of the statement is `episodeLimit`. -/
theorem rampFollowsLimit : Obligations.RampFollowsLimit := by
  refine ⟨fun s => ⟨rampStep_frame s, fun hidle => ?idle, fun hrun b => ?bridge⟩, limit_steady,
    fun s c hcopy => ⟨limit_episode s c hcopy, fun h hzero => ?noRamp, fun h hpos => ?ramp,
      fun hlimit ht => (limit_between s c hcopy hlimit ht).symm⟩⟩
  case idle => exact rampStep_not_running s (Bool.eq_false_iff.mpr (mt (running_iff s).mp hidle))
  case bridge =>
    have hrunning : s.running = true := (running_iff s).mpr hrun
    exact ⟨rampStep_bridge_unused s hrunning b, rampStep_bridge_used s hrunning b⟩
  case noRamp => exact (limit_recovery s c hcopy h).trans (recoveryLimit_no_ramp s c hzero)
  case ramp => exact (limit_recovery s c hcopy h).trans (recoveryLimit_ramp s c hpos)

end Sys2Proof.Ramp
end

section
/-!
The search of the response table (7.2, R122 to R124): what makes an entry match a pass, which entries a group holds and in
which order, and what the first match of a group is. The file settles O19.
-/

namespace Sys2Proof.TableSearch

open Sys2Proof.Machine

/-- An entry matches a pass in the words of R122 and R123. -/
theorem fits_iff (e : ResponseEntry) (fallback : Bool) (k : Kind) (band : Nat) :
    e.fits fallback k band = true ↔
      e.valid = true ∧ e.fallback = fallback ∧ e.kind = k ∧ e.bandLo ≤ band ∧ band ≤ e.bandHi := by
  simp [ResponseEntry.fits, and_assoc]

/-! The groups (7.1). -/

theorem primaryGroup_lt (k : Kind) : primaryGroup k < 4 := by
  cases k <;> decide

theorem secondaryGroup_lt (k : Kind) : secondaryGroup k < 4 := by
  unfold secondaryGroup; omega

/-- Group g holds entries 8g to 8g + 7 (R120). -/
theorem mem_groupEntries {g : Nat} (hg : g < 4) (i : Fin 32) : i ∈ groupEntries g ↔ i.1 / 8 = g := by
  simp only [groupEntries, List.mem_map, List.mem_range, Fin.ext_iff, Fin.val_ofNat]
  constructor
  · rintro ⟨n, hn, hi⟩
    omega
  · intro hi
    exact ⟨i.1 % 8, by omega, by omega⟩

/-- A search visits a group in ascending index order (R122, R123). -/
theorem groupEntries_ascending (g : Nat) : (groupEntries g).Pairwise (· < ·) := by
  rw [groupEntries, List.pairwise_map]
  refine List.pairwise_lt_range.imp_of_mem fun {a b} ha hb hab => ?_
  have ha8 : a < 8 := List.mem_range.mp ha
  have hb8 : b < 8 := List.mem_range.mp hb
  simp only [Fin.lt_def, Fin.val_ofNat]
  omega

/-- In an ascending list the first match is the least one. -/
theorem find?_of_ascending {n : Nat} {p : Fin n → Bool} {i : Fin n} (hp : p i = true) :
    ∀ {l : List (Fin n)}, l.Pairwise (· < ·) → i ∈ l → (∀ j ∈ l, j < i → p j = false) → l.find? p = some i
  | j :: rest, hasc, hmem, hleast => by
    obtain ⟨hhead, hrest⟩ := List.pairwise_cons.mp hasc
    rcases List.mem_cons.mp hmem with rfl | hin
    · exact List.find?_cons_of_pos hp
    · have hj : p j = false := hleast j List.mem_cons_self (hhead i hin)
      rw [List.find?_cons_of_neg (by simp [hj])]
      exact find?_of_ascending hp hrest hin fun k hk => hleast k (List.mem_cons_of_mem j hk)

/-! One pass. -/

/-- A pass ends at the first match of its group (R122, R123). -/
theorem searchGroup_eq_some {t : Tab ResponseEntry 32} {g : Nat} {fallback : Bool} {k : Kind} {band : Nat} {i : Fin 32}
    (hg : g < 4) (hi : i.1 / 8 = g) (hfits : (t.get i).fits fallback k band = true)
    (hfirst : ∀ j : Fin 32, j.1 / 8 = g → j < i → ¬ (t.get j).fits fallback k band = true) :
    searchGroup t g fallback k band = some i :=
  find?_of_ascending hfits (groupEntries_ascending g) ((mem_groupEntries hg i).mpr hi) fun j hj hlt =>
    Bool.eq_false_iff.mpr (hfirst j ((mem_groupEntries hg j).mp hj) hlt)

/-- A pass over a group without a match finds nothing (R123, R124). -/
theorem searchGroup_eq_none {t : Tab ResponseEntry 32} {g : Nat} {fallback : Bool} {k : Kind} {band : Nat} (hg : g < 4)
    (hnone : ∀ j : Fin 32, j.1 / 8 = g → ¬ (t.get j).fits fallback k band = true) :
    searchGroup t g fallback k band = none :=
  List.find?_eq_none.mpr fun j hj => hnone j ((mem_groupEntries hg j).mp hj)

/-! The result of a search (R122 to R124). -/

theorem searchResult_primary {k : Kind} {band : Nat} {s : State} {i : Fin 32}
    (h : searchGroup s.rtb.entries (primaryGroup k) false k band = some i) :
    searchResult k band s = ⟨(s.rtb.entries.get i).resp, .entry i⟩ := by
  simp [searchResult, searchTable, h]

theorem searchResult_secondary {k : Kind} {band : Nat} {s : State} {i : Fin 32}
    (hprimary : searchGroup s.rtb.entries (primaryGroup k) false k band = none)
    (h : searchGroup s.rtb.entries (secondaryGroup k) true k band = some i) :
    searchResult k band s = ⟨(s.rtb.entries.get i).resp, .entry i⟩ := by
  simp [searchResult, searchTable, hprimary, h]

theorem searchResult_default {k : Kind} {band : Nat} {s : State}
    (hprimary : searchGroup s.rtb.entries (primaryGroup k) false k band = none)
    (h : searchGroup s.rtb.entries (secondaryGroup k) true k band = none) :
    searchResult k band s = ⟨defaultResponse s, .dflt⟩ := by
  simp [searchResult, searchTable, hprimary, h]

/-- Settles O19: each pass by the first match of its group, where `hit` of the statement is `fits` written out and `g` is
the kind's primary group. -/
theorem searchVisitsTwoGroups : Obligations.SearchVisitsTwoGroups := by
  intro k n s g hit
  have hgroup : g = primaryGroup k := by cases k <;> rfl
  have hhit (fb : Bool) (i : Fin 32) : hit fb i ↔ (s.rtb.entries.get i).fits fb k n = true := (fits_iff _ fb k n).symm
  clear_value g hit
  subst hgroup
  simp only [hhit]
  have hprimary := primaryGroup_lt k
  have hsecondary := secondaryGroup_lt k
  refine ⟨fun i hi hfits hfirst => ?primary, fun hnone => ⟨fun i hi hfits hfirst => ?secondary, fun hnone' => ?dflt⟩⟩
  case primary => exact searchResult_primary (searchGroup_eq_some hprimary hi hfits hfirst)
  case secondary =>
    exact searchResult_secondary (searchGroup_eq_none hprimary hnone) (searchGroup_eq_some hsecondary hi hfits hfirst)
  case dflt => exact searchResult_default (searchGroup_eq_none hprimary hnone) (searchGroup_eq_none hsecondary hnone')

end Sys2Proof.TableSearch
end

section
/-!
Requests on a free link in the words of the statements (R178, R179): what a request leaves, by what its owner answers, and
two states of the part that owners ask for, a save in progress and an active group.
-/

namespace Sys2Proof.Requests

open Sys2Proof.Machine Sys2Proof.Claims

/-! The words of the statements. -/

theorem saving_iff (s : State) : s.saving = true ↔ SaveRunning s := by
  unfold State.saving SaveRunning
  cases s.sst.activity <;> simp

theorem active_iff (s : State) : s.active = true ↔ Running3 s := by
  simp [active_eq, Running3, or_assoc]

theorem saving_of_saveRunning {s : State} (h : SaveRunning s) : s.saving = true := (saving_iff s).mpr h

theorem not_saving_of_not_saveRunning {s : State} (h : ¬ SaveRunning s) : s.saving = false :=
  Bool.eq_false_iff.mpr (mt (saving_iff s).mp h)

/-! What an owner writes outside the blocks of the link, the store and the block reasons leaves the link free. -/

theorem free_withMfe {s : State} (h : Free s) (v : Mfe) : Free (s.withMfe v) := h

theorem free_withFfb {s : State} (h : Free s) (v : Ffb) : Free (s.withFfb v) := h

theorem free_withRtb {s : State} (h : Free s) (v : Rtb) : Free (s.withRtb v) := h

/-! A request handled (R178, R179). -/

/-- With an empty inbox the arrival and the reply together are what the statements call `answered`. -/
theorem sendReply_arrive (f : Frame) (c : ResultCode) (p : List Byte) (t : State) (h : t.lnk.inbox = []) :
    sendReply f c p (arrive f t) = answered f c p t := by
  have hinbox : (arrive f t).lnk.inbox = [f] := by simp [h]
  unfold answered
  rw [← hinbox]
  rfl

/-- On a free link a request that its owner takes to a free state is answered there and then: what the owner does is done
to the state before the arrival. -/
theorem request_answered {s t : State} {f : Frame} {owner : State → State × Answer} {c : ResultCode} {p : List Byte}
    (hs : Free s) (ht : Free t) (howner : owner (arrive f s) = (arrive f t, .reply c p)) :
    request (some f) owner s = answered f c p t := by
  obtain ⟨hawake, hempty, -⟩ := hs
  obtain ⟨-, hinbox, hsettled⟩ := ht
  calc request (some f) owner s = serve f owner (arrive f s) := request_free f owner s hawake hempty
    _ = sendReply f c p (arrive f t) := serve_reply f owner _ _ c p howner (arrive_settled f t hsettled)
    _ = answered f c p t := sendReply_arrive f c p t hinbox

/-- The same of a command whose meaning is a request. -/
theorem exec_answered {i : Instr} {s t : State} {f : Frame} {owner : State → State × Answer} {c : ResultCode}
    {p : List Byte} (hexec : exec i s = .next (request (some f) owner s)) (hs : Free s) (ht : Free t)
    (howner : owner (arrive f s) = (arrive f t, .reply c p)) : exec i s = .next (answered f c p t) := by
  rw [hexec, request_answered hs ht howner]

end Sys2Proof.Requests
end

section
/-!
CLEAR_MARKS, WRITE_TRIM, WRITE_FILTER and FILTER_CONTROL (R130, R4, R11 to R13): what each owner answers and writes. A list
of records written in its order leaves, in each place, the last record that names it. The file settles O46.
-/

namespace Sys2Proof.TrimFilterMarks

open Sys2Proof.Machine Sys2Proof.Claims Sys2Proof.Requests

/-! A list of records written in its order. -/

/-- Each record of a list written over the place that its key names, in the list's order. -/
def writeAll {α β : Type} {n : Nat} [NeZero n] (key : α → Nat) (val : α → β) (l : List α) (t : Tab β n) : Tab β n :=
  l.foldl (fun u r => u.set (Fin.ofNat n (key r)) (val r)) t

/-- A place holds the last record that names it, or what it held. -/
theorem writeAll_get {α β : Type} {n : Nat} [NeZero n] (key : α → Nat) (val : α → β) (i : Fin n) (l : List α)
    (hkeys : ∀ r ∈ l, key r < n) (t : Tab β n) :
    (writeAll key val l t).get i = (l.reverse.find? fun r => key r == i.1).elim (t.get i) val := by
  induction l generalizing t with
  | nil => rfl
  | cons r rest ih =>
    obtain ⟨hr, hrest⟩ := List.forall_mem_cons.mp hkeys
    have hplace : Fin.ofNat n (key r) = i ↔ key r = i.1 := by
      rw [Fin.ext_iff, Fin.val_ofNat, Nat.mod_eq_of_lt hr]
    have hrec : (writeAll key val (r :: rest) t).get i =
        (rest.reverse.find? fun q => key q == i.1).elim ((t.set (Fin.ofNat n (key r)) (val r)).get i) val := ih hrest _
    simp only [hrec, Tab.get_set, hplace, List.reverse_cons, List.find?_append]
    cases rest.reverse.find? fun q => key q == i.1 with
    | some q => rfl
    | none => by_cases h : key r = i.1 <;> simp [h]

/-! CLEAR_MARKS (R130). -/

/-- The marks after a CLEAR_MARKS: NO where the mask names the entry. -/
def clearedMarks (mask : BitVec 32) (marks : Tab Marks 32) : Tab Marks 32 :=
  Tab.ofFn fun i => if mask.getLsbD i.1 then ⟨false, false, false⟩ else marks.get i

theorem exec_clearMarks (tag : Byte) (mask : BitVec 32) (s : State) :
    exec (.clearMarks tag mask) s = .next (request (some ⟨0x1C, tag, w32 mask⟩) (takeClearMarks mask) s) := rfl

theorem takeClearMarks_ok (mask : BitVec 32) (s : State) :
    takeClearMarks mask s = (s.withRtb { s.rtb with marks := clearedMarks mask s.rtb.marks }, .ok) := rfl

/-- CLEAR_MARKS is answered OK in every run state and during a save. -/
theorem exec_clearMarks_free (tag : Byte) (mask : BitVec 32) {s : State} (hs : Free s) :
    exec (.clearMarks tag mask) s = .next (answered ⟨0x1C, tag, w32 mask⟩ .ok []
      (s.withRtb { s.rtb with marks := clearedMarks mask s.rtb.marks })) :=
  exec_answered (exec_clearMarks tag mask s) hs (free_withRtb hs _) (takeClearMarks_ok mask _)

/-! WRITE_TRIM (R4). -/

/-- The checks of WRITE_TRIM on its list (R4). -/
def TrimsGood (l : List TrimRec) : Prop := l ≠ [] ∧ l.length ≤ 8 ∧ ∀ r ∈ l, r.channel.toNat ≤ 7 ∧ r.invert.toNat ≤ 1

/-- The trims after a list is written. -/
def trimsAfter (l : List TrimRec) (t : Tab Trim 8) : Tab Trim 8 :=
  writeAll (fun r => r.channel.toNat) (fun r => ⟨r.offset, r.gain, r.invert == 1⟩) l t

theorem exec_writeTrim (tag : Byte) (l : List TrimRec) (s : State) :
    exec (.writeTrim tag l) s = .next (request (some ⟨0x23, tag, l.flatMap trimRecBytes⟩) (takeWriteTrim l) s) := rfl

theorem trimsFault_iff (l : List TrimRec) :
    (l = [] ∨ 8 < l.length ∨ l.any (fun r => decide (7 < r.channel.toNat) || decide (1 < r.invert.toNat)) = true) ↔
      ¬ TrimsGood l := by
  simp [TrimsGood, not_and_or, -not_and]

theorem putTrims_eq (l : List TrimRec) (s : State) :
    putTrims l s = s.withMfe { s.mfe with trims := trimsAfter l s.mfe.trims } := by
  induction l generalizing s with
  | nil => rfl
  | cons r rest ih => exact ih (putTrim r s)

theorem takeWriteTrim_range {l : List TrimRec} (h : ¬ TrimsGood l) (s : State) :
    takeWriteTrim l s = (s, .refuse .range) := if_pos ((trimsFault_iff l).mpr h)

theorem takeWriteTrim_good {l : List TrimRec} (h : TrimsGood l) (s : State) :
    takeWriteTrim l s = if s.saving then (s, .refuse .busy) else (putTrims l s, .ok) :=
  if_neg fun hfault => (trimsFault_iff l).mp hfault h

theorem takeWriteTrim_busy {l : List TrimRec} (h : TrimsGood l) {s : State} (hsave : s.saving = true) :
    takeWriteTrim l s = (s, .refuse .busy) := by
  rw [takeWriteTrim_good h, if_pos hsave]

theorem takeWriteTrim_ok {l : List TrimRec} (h : TrimsGood l) {s : State} (hsave : s.saving = false) :
    takeWriteTrim l s = (s.withMfe { s.mfe with trims := trimsAfter l s.mfe.trims }, .ok) := by
  rw [takeWriteTrim_good h, if_neg (by simp [hsave]), putTrims_eq]

/-- Each channel holds the last record of the list that names it. -/
theorem trimsAfter_get {l : List TrimRec} (h : TrimsGood l) (t : Tab Trim 8) (c : Fin 8) :
    (trimsAfter l t).get c = (l.reverse.find? fun r => r.channel.toNat == c.1).elim (t.get c)
      fun r => ⟨r.offset, r.gain, r.invert == 1⟩ := by
  obtain ⟨-, -, hrecs⟩ := h
  exact writeAll_get _ _ c l (fun r hr => Nat.lt_succ_of_le (hrecs r hr).1) t

/-! WRITE_FILTER (R13). -/

/-- The checks of WRITE_FILTER on its list (R13). -/
def FiltersGood (l : List FilterRec) : Prop := l ≠ [] ∧ l.length ≤ 3 ∧ ∀ r ∈ l, r.stage.toNat ≤ 2

/-- The coefficients after a list is written. -/
def coeffsAfter (l : List FilterRec) (t : Tab Coeffs 3) : Tab Coeffs 3 :=
  writeAll (fun r => r.stage.toNat) (fun r => ⟨r.b0, r.b1, r.b2, r.a1, r.a2⟩) l t

theorem exec_writeFilter (tag : Byte) (l : List FilterRec) (s : State) :
    exec (.writeFilter tag l) s = .next (request (some ⟨0x20, tag, l.flatMap filterRecBytes⟩) (takeWriteFilter l) s) := rfl

theorem filtersFault_iff (l : List FilterRec) :
    (l = [] ∨ 3 < l.length ∨ l.any (fun r => decide (2 < r.stage.toNat)) = true) ↔ ¬ FiltersGood l := by
  simp [FiltersGood, not_and_or, -not_and]

theorem putFilters_eq (l : List FilterRec) (s : State) :
    putFilters l s = s.withFfb { s.ffb with coeffs := coeffsAfter l s.ffb.coeffs } := by
  induction l generalizing s with
  | nil => rfl
  | cons r rest ih => exact ih (putFilter r s)

theorem takeWriteFilter_range {l : List FilterRec} (h : ¬ FiltersGood l) (s : State) :
    takeWriteFilter l s = (s, .refuse .range) := if_pos ((filtersFault_iff l).mpr h)

theorem takeWriteFilter_good {l : List FilterRec} (h : FiltersGood l) (s : State) :
    takeWriteFilter l s =
      if s.saving then (s, .refuse .busy) else if s.ffb.enabled then (s, .refuse .filterActive) else (putFilters l s, .ok) :=
  if_neg fun hfault => (filtersFault_iff l).mp hfault h

theorem takeWriteFilter_busy {l : List FilterRec} (h : FiltersGood l) {s : State} (hsave : s.saving = true) :
    takeWriteFilter l s = (s, .refuse .busy) := by
  rw [takeWriteFilter_good h, if_pos hsave]

theorem takeWriteFilter_active {l : List FilterRec} (h : FiltersGood l) {s : State} (hsave : s.saving = false)
    (hon : s.ffb.enabled = true) : takeWriteFilter l s = (s, .refuse .filterActive) := by
  rw [takeWriteFilter_good h, if_neg (by simp [hsave]), if_pos hon]

theorem takeWriteFilter_ok {l : List FilterRec} (h : FiltersGood l) {s : State} (hsave : s.saving = false)
    (hoff : s.ffb.enabled = false) :
    takeWriteFilter l s = (s.withFfb { s.ffb with coeffs := coeffsAfter l s.ffb.coeffs }, .ok) := by
  rw [takeWriteFilter_good h, if_neg (by simp [hsave]), if_neg (by simp [hoff]), putFilters_eq]

/-- Each stage holds the last record of the list that names it. -/
theorem coeffsAfter_get {l : List FilterRec} (h : FiltersGood l) (t : Tab Coeffs 3) (c : Fin 3) :
    (coeffsAfter l t).get c = (l.reverse.find? fun r => r.stage.toNat == c.1).elim (t.get c)
      fun r => ⟨r.b0, r.b1, r.b2, r.a1, r.a2⟩ := by
  obtain ⟨-, -, hrecs⟩ := h
  exact writeAll_get _ _ c l (fun r hr => Nat.lt_succ_of_le (hrecs r hr)) t

/-! FILTER_CONTROL (R11, R12). -/

theorem exec_filterControlEnable (tag : Byte) (s : State) :
    exec (.filterControlEnable tag) s = .next (request (some ⟨0x22, tag, [1]⟩) takeFilterEnable s) := rfl

theorem exec_filterControlDisable (tag : Byte) (s : State) :
    exec (.filterControlDisable tag) s = .next (request (some ⟨0x22, tag, [0]⟩) takeFilterDisable s) := rfl

theorem takeFilterEnable_busy {s : State} (hsave : s.saving = true) : takeFilterEnable s = (s, .refuse .busy) :=
  if_pos hsave

/-- The bank after ENABLE: a bank that was enabled is left with its stage states, any other starts from cleared ones (R11). -/
def enabledBank (b : Ffb) : Ffb := if b.enabled = true then b else { b with enabled := true, stages := clearedStages }

theorem takeFilterEnable_ok {s : State} (hsave : s.saving = false) :
    takeFilterEnable s = (s.withFfb (enabledBank s.ffb), .ok) := by
  rw [takeFilterEnable, if_neg (by simp [hsave]), enabledBank]
  split <;> rfl

theorem takeFilterDisable_busy {s : State} (hsave : s.saving = true) : takeFilterDisable s = (s, .refuse .busy) :=
  if_pos hsave

theorem takeFilterDisable_state {s : State} (hsave : s.saving = false) (hrun : s.active = true) :
    takeFilterDisable s = (s, .refuse .state) := by
  rw [takeFilterDisable, if_neg (by simp [hsave]), if_pos hrun]

theorem takeFilterDisable_ok {s : State} (hsave : s.saving = false) (hidle : s.active = false) :
    takeFilterDisable s = (s.withFfb { s.ffb with enabled := false }, .ok) := by
  rw [takeFilterDisable, if_neg (by simp [hsave]), if_neg (by simp [hidle])]

/-- A mode byte that names none of the requests is refused with RANGE (R12, R141, R159). -/
theorem readMode_beyond (m : Byte) (choices : List Instr) (h : choices.length ≤ m.toNat) :
    readMode m choices = .error .range := by
  simp [readMode, List.getElem?_eq_none h]

/-- A mode of FILTER_CONTROL beyond ENABLE is refused (R12). -/
theorem handle_filterControl_range (tag m : Byte) (h : 1 < m.toNat) (s : State) :
    handle ⟨0x22, tag, [m]⟩ s = (s, .refuse .range) := by
  have hdecode : decodeRequest ⟨0x22, tag, [m]⟩ = .error .range := readMode_beyond m _ h
  rw [handle, hdecode]

/-- Settles O46: each request by what its owner answers on a free link, case by case of the owner's checks. -/
theorem trimFilterMarksWritten : Obligations.TrimFilterMarksWritten := by
  intro tag s hs
  refine ⟨fun mask => ?marks, fun l => ?trim, fun l => ?filter, fun hsave => ?controlBusy, fun hsave => ?control,
    fun m hm => handle_filterControl_range tag m hm s⟩
  case marks => exact ⟨_, exec_clearMarks_free tag mask hs, Tab.get_ofFn _⟩
  case trim =>
    refine ⟨fun hbad => ?_, fun hgood hsave => ?_, fun hgood hsave => ⟨trimsAfter l s.mfe.trims, ?_, ?_⟩⟩
    · exact exec_answered (exec_writeTrim tag l s) hs hs (takeWriteTrim_range hbad _)
    · exact exec_answered (exec_writeTrim tag l s) hs hs (takeWriteTrim_busy hgood (saving_of_saveRunning hsave))
    · exact exec_answered (exec_writeTrim tag l s) hs (free_withMfe hs _)
        (takeWriteTrim_ok hgood (not_saving_of_not_saveRunning hsave))
    · intro c
      rw [trimsAfter_get hgood]
      cases l.reverse.find? fun r => r.channel.toNat == c.1 <;> rfl
  case filter =>
    refine ⟨fun hbad => ?_, fun hgood hsave => ?_, fun hgood hsave hon => ?_, fun hgood hsave hoff =>
      ⟨coeffsAfter l s.ffb.coeffs, ?_, ?_⟩⟩
    · exact exec_answered (exec_writeFilter tag l s) hs hs (takeWriteFilter_range hbad _)
    · exact exec_answered (exec_writeFilter tag l s) hs hs (takeWriteFilter_busy hgood (saving_of_saveRunning hsave))
    · exact exec_answered (exec_writeFilter tag l s) hs hs
        (takeWriteFilter_active hgood (not_saving_of_not_saveRunning hsave) hon)
    · exact exec_answered (exec_writeFilter tag l s) hs (free_withFfb hs _)
        (takeWriteFilter_ok hgood (not_saving_of_not_saveRunning hsave) hoff)
    · intro c
      rw [coeffsAfter_get hgood]
      cases l.reverse.find? fun r => r.stage.toNat == c.1 <;> rfl
  case controlBusy =>
    have hsaving : s.saving = true := saving_of_saveRunning hsave
    exact ⟨exec_answered (exec_filterControlEnable tag s) hs hs (takeFilterEnable_busy hsaving),
      exec_answered (exec_filterControlDisable tag s) hs hs (takeFilterDisable_busy hsaving)⟩
  case control =>
    have hsaving : s.saving = false := not_saving_of_not_saveRunning hsave
    refine ⟨?_, fun hrun => ?_, fun hidle => ?_⟩
    · exact exec_answered (exec_filterControlEnable tag s) hs (free_withFfb hs _) (takeFilterEnable_ok hsaving)
    · exact exec_answered (exec_filterControlDisable tag s) hs hs (takeFilterDisable_state hsaving ((active_iff s).mpr hrun))
    · exact exec_answered (exec_filterControlDisable tag s) hs (free_withFfb hs _)
        (takeFilterDisable_ok hsaving (Bool.eq_false_iff.mpr (mt (active_iff s).mp hidle)))

end Sys2Proof.TrimFilterMarks
end

section
/-!
What a change to STANDBY or HALT leaves (R58, R89, R113, R146): the setpoints, the governor, the firing list and the notice
of the change.
-/

namespace Sys2Proof.LeavingRun

open Sys2Proof.Machine Sys2Proof.Claims

/-! The regulator (R56, R58). -/

theorem zeroSetpoints_zeroed (s : State) : SetpointsZeroed s (zeroSetpoints s) := Tab.get_map _ _

theorem zeroTargets_zeroed (s : State) : TargetsZeroed s (zeroTargets s) := Tab.get_map _ _

theorem endRun_crg (s : State) : (endRun s).crg = (zeroSetpoints s).crg := by
  unfold endRun
  rw [endEpisode_crg]
  split
  · exact takeClose_crg _
  · rfl

theorem toStandby_setpointsZeroed (src? : Option Source) (s : State) : SetpointsZeroed s (toStandby src? s) := by
  intro b
  rw [toStandby, endRun_crg, zeroSetpoints_zeroed, occurIf_crg]
  rfl

/-! The governor (R113). -/

theorem endEpisode_steady {s : State} (h : s.dgv.state = .steady) : endEpisode s = clearRun s := by
  unfold endEpisode
  rw [h]

theorem endEpisode_governorIdle {s : State} (h : s.dgv.state ≠ .steady) : GovernorIdle (endEpisode s) := by
  unfold endEpisode
  split
  · contradiction
  · exact ⟨rfl, rfl, rfl, rfl, rfl⟩

theorem endRun_governorIdle {s : State} (h : s.dgv.state ≠ .steady) : GovernorIdle (endRun s) := by
  refine endEpisode_governorIdle ?_
  split
  · rwa [takeClose_dgv, zeroSetpoints_dgv]
  · rwa [zeroSetpoints_dgv]

/-! The firing list (R89, R90). -/

/-- A list that is blocked already is not closed again. -/
theorem takeClose_blocked {s : State} (h : s.fls.blocked = true) : takeClose s = (s, []) := by
  rw [takeClose, if_neg (by simp [h])]

/-- While blocked, the order between the firing list and the governor makes no difference (log 29). -/
theorem endRun_blocked {s : State} (h : s.fls.blocked = true) : endRun s = endEpisode (zeroSetpoints s) := by
  have hblocked : (zeroSetpoints s).fls.blocked = true := h
  rw [endRun, takeClose_blocked hblocked, ite_self]

/-- While blocked, and with the governor in STEADY, only setpoints and the governor's counts are left to change. -/
theorem endRun_quiet {s : State} (hblocked : s.fls.blocked = true) (hsteady : s.dgv.state = .steady) :
    endRun s = clearRun (zeroSetpoints s) := by
  rw [endRun_blocked hblocked, endEpisode_steady (s := zeroSetpoints s) hsteady]

/-- Once the close is taken after the change, the list is shut. -/
theorem settle_toStandby_shut (src? : Option Source) {s : State} (h : s.NoneHeld) :
    Shut (settle (toStandby src? s)) := by
  have hidle : (toStandby src? s).running = false := by rw [State.running, toStandby_rct]; rfl
  have hnone : (toStandby src? s).NoneHeld := endRun_noneHeld (noneHeld_of_fls h (occurIf_fls _ _))
  obtain ⟨hblocked, hlist⟩ := settle_shut _ hidle hnone
  exact ⟨hblocked, hlist, gateOn_empty _ hlist⟩

/-- The close after the change is all that the union still asks for: the run controller ignores its misfires (R145). -/
theorem settle_toStandby (src? : Option Source) (s : State) :
    settle (toStandby src? s) = (takeClose (toStandby src? s)).1 :=
  settle_inactive _ (by rw [active_eq, toStandby_rct]; rfl)

/-! Notices (R141, R155). -/

/-- A close occurs as SLOT_MISFIRE or TRACE_FROZEN at most. -/
theorem takeClose_source (s : State) {n : Fin 24} (hm : n ≠ Source.slotMisfire.num) (hf : n ≠ Source.traceFrozen.num) :
    (takeClose s).1.ntu.sources.get n = s.ntu.sources.get n := by
  unfold takeClose
  split
  · exact closeList_source s n hm hf
  · rfl

theorem endRun_source (s : State) {n : Fin 24} (hm : n ≠ Source.slotMisfire.num) (hf : n ≠ Source.traceFrozen.num) :
    (endRun s).ntu.sources.get n = s.ntu.sources.get n := by
  unfold endRun
  rw [endEpisode_ntu]
  split
  · rw [takeClose_source _ hm hf, zeroSetpoints_ntu]
  · rw [zeroSetpoints_ntu]

/-- The notice of an entry to STANDBY occurs once, whatever the close retires. -/
theorem settle_toStandby_raised {src : Source} (hm : src ≠ .slotMisfire) (hf : src ≠ .traceFrozen) (s : State) :
    Raised src s (settle (toStandby (some src) s)) := by
  have hm' : src.num ≠ Source.slotMisfire.num := fun e => hm (Source.num_injective e)
  have hf' : src.num ≠ Source.traceFrozen.num := fun e => hf (Source.num_injective e)
  rw [Raised, settle_toStandby, takeClose_source _ hm' hf', toStandby, endRun_source _ hm' hf', occurIf,
    occur_source_same src _ hf]
  rfl

end Sys2Proof.LeavingRun
end

section
/-!
START (R137, R138): the configuration checks as a list, the refusals in their order and what an accepted START leaves. The
file settles O30 and O31.
-/

namespace Sys2Proof.Starting

open Sys2Proof.Machine Sys2Proof.Claims Sys2Proof.Requests Sys2Proof.LeavingRun

/-! The configuration checks (R41, R69, R117, R152). -/

/-- The first check of a list that fails: its own parameter when the head fails, else what the rest reports. -/
theorem firstFailing_cons (p : ParamId) (c : Prop) [Decidable c] (l : List (ParamId × Bool)) :
    (((p, decide c) :: l).find? fun q => !q.2).map (·.1) =
      if ¬ c then some p else (l.find? fun q => !q.2).map (·.1) := by
  by_cases h : c <;> simp [h]

theorem firstFailing_nil : (([] : List (ParamId × Bool)).find? fun q => !q.2).map (·.1) = none := rfl

/-! Refusals and acceptance. -/

theorem exec_start (tag : Byte) (s : State) :
    exec (.start tag) s = .next (request (some ⟨0x08, tag, []⟩) takeStart s) := rfl

theorem takeStart_state {s : State} (h : s.rct.state ≠ .standby) : takeStart s = (s, .refuse .state) := if_pos h

section Standby

variable {s : State} (hstate : s.rct.state = .standby)
include hstate

theorem takeStart_busy (hsave : s.saving = true) : takeStart s = (s, .refuse .busy) := by
  simp [takeStart, hstate, hsave]

theorem takeStart_store (hsave : s.saving = false) (hlatch : s.sst.latch = true) :
    takeStart s = (s, .refuse .store) := by
  simp [takeStart, hstate, hsave, hlatch]

theorem takeStart_interlock (hsave : s.saving = false) (hlatch : s.sst.latch = false) (htrip : s.rct.tripIn = true) :
    takeStart s = (s, .refuse .interlock) := by
  simp [takeStart, hstate, hsave, hlatch, htrip]

theorem takeStart_config {p : ParamId} (hsave : s.saving = false) (hlatch : s.sst.latch = false)
    (htrip : s.rct.tripIn = false) (hfault : configFault s = some p) :
    takeStart s = (s, .reply .config [BitVec.ofNat 8 p.info.code]) := by
  simp [takeStart, hstate, hsave, hlatch, htrip, hfault]

theorem takeStart_ok (hsave : s.saving = false) (hlatch : s.sst.latch = false) (htrip : s.rct.tripIn = false)
    (hfault : configFault s = none) : takeStart s = (acceptStart s, .ok) := by
  simp [takeStart, hstate, hsave, hlatch, htrip, hfault]

end Standby

/-- An accepted START leaves the union of block reasons present (R136), so a settled list stays settled. -/
theorem free_acceptStart {s : State} (h : Free s) (hstate : s.rct.state = .standby) : Free (acceptStart s) := by
  obtain ⟨hawake, hinbox, hblocked, hnone⟩ := h
  have hunion : s.union = true := union_of_not_running s (by rw [State.running, hstate]; rfl)
  exact ⟨hawake, hinbox, hblocked.trans hunion, hnone⟩

/-- Settles O30: the refusals by the owner's checks in their order, and the configuration checks one by one. -/
theorem startRefusedInOrder : Obligations.StartRefusedInOrder := by
  refine ⟨fun tag s hs => ?refusals, fun s => ?checks⟩
  case refusals =>
    refine ⟨fun hstate => ?_, fun hstate hsave => ?_, fun hstate hsave hlatch => ?_,
      fun hstate hsave hlatch htrip => ?_, fun p hstate hsave hlatch htrip hfault => ?_⟩
    · exact exec_answered (exec_start tag s) hs hs (takeStart_state hstate)
    · exact exec_answered (exec_start tag s) hs hs (takeStart_busy hstate (saving_of_saveRunning hsave))
    · exact exec_answered (exec_start tag s) hs hs
        (takeStart_store hstate (not_saving_of_not_saveRunning hsave) hlatch)
    · exact exec_answered (exec_start tag s) hs hs
        (takeStart_interlock hstate (not_saving_of_not_saveRunning hsave) hlatch htrip)
    · exact exec_answered (exec_start tag s) hs hs
        (takeStart_config (s := arrive _ s) hstate (not_saving_of_not_saveRunning hsave) hlatch htrip hfault)
  case checks =>
    simp only [firstFailing_cons, firstFailing_nil, Classical.not_imp, not_lt, not_le]
    unfold configFault shiftFault
    split_ifs <;> rfl

/-- Settles O31: with every check passed the owner accepts, and the arrival of the request commutes with what it does. -/
theorem startEntersSync : Obligations.StartEntersSync := by
  intro tag s hs hstate hsave hlatch htrip hfault
  have hreply := exec_answered (exec_start tag s) hs (free_acceptStart hs hstate)
    (takeStart_ok hstate (not_saving_of_not_saveRunning hsave) hlatch htrip hfault)
  exact ⟨acceptStart s, hreply, rfl, zeroSetpoints_zeroed _, Tab.get_fill _, Tab.get_map _ _⟩

end Sys2Proof.Starting
end

section
/-!
STOP (R141): what each mode does in each run state, and the entry to STANDBY that a stop makes. The file settles O32.
-/

namespace Sys2Proof.Stopping

open Sys2Proof.Machine Sys2Proof.Claims Sys2Proof.Requests Sys2Proof.LeavingRun Sys2Proof.TrimFilterMarks

theorem exec_stopSoft (tag : Byte) (s : State) :
    exec (.stopSoft tag) s = .next (request (some ⟨0x09, tag, [0]⟩) takeStopSoft s) := rfl

theorem exec_stopImmediate (tag : Byte) (s : State) :
    exec (.stopImmediate tag) s = .next (request (some ⟨0x09, tag, [1]⟩) takeStopImmediate s) := rfl

/-! A soft stop, by the run state. -/

theorem takeStopSoft_state {s : State} (h : s.rct.state = .standby ∨ s.rct.state = .halt) :
    takeStopSoft s = (s, .refuse .state) := by
  unfold takeStopSoft
  rcases h with h | h <;> rw [h]

theorem takeStopSoft_sync {s : State} (h : s.rct.state = .sync) :
    takeStopSoft s = (toStandby (some .stopDone) s, .ok) := by
  rw [takeStopSoft, h]

theorem takeStopSoft_run {s : State} (h : s.rct.state = .run) : takeStopSoft s = (beginStop s, .ok) := by
  rw [takeStopSoft, h]

theorem takeStopSoft_stopping {s : State} (h : s.rct.state = .stopping) : takeStopSoft s = (s, .ok) := by
  rw [takeStopSoft, h]

/-! An immediate stop. -/

theorem takeStopImmediate_active {s : State} (h : s.active = true) :
    takeStopImmediate s = (toStandby (some .stopDone) s, .ok) := if_pos h

theorem takeStopImmediate_state {s : State} (h : s.rct.state = .standby ∨ s.rct.state = .halt) :
    takeStopImmediate s = (s, .refuse .state) := by
  have hidle : s.active = false := by
    rw [active_eq]
    rcases h with h | h <;> rw [h] <;> rfl
  rw [takeStopImmediate, if_neg (by simp [hidle])]

/-- RUN and STOPPING allow pulses alike (R136), so a settled list stays settled over the change between them. -/
theorem free_beginStop {s : State} (h : Free s) (hstate : s.rct.state = .run) : Free (beginStop s) := by
  obtain ⟨hawake, hinbox, hblocked, hnone⟩ := h
  have hunion : (beginStop s).union = s.union := by
    simp [State.union, State.runReason, State.running, State.trackerReason, hstate, beginStop, zeroTargets]
  exact ⟨hawake, hinbox, hblocked.trans hunion.symm, hnone⟩

/-- A mode of STOP beyond IMMEDIATE is refused (R141). -/
theorem handle_stop_range (tag m : Byte) (h : 1 < m.toNat) (s : State) :
    handle ⟨0x09, tag, [m]⟩ s = (s, .refuse .range) := by
  have hdecode : decodeRequest ⟨0x09, tag, [m]⟩ = .error .range := readMode_beyond m _ h
  rw [handle, hdecode]

/-! The entry to STANDBY. -/

/-- The state that a stop leaves: STANDBY entered after the arrival of the request, and the close taken. -/
def stopped (f : Frame) (s : State) : State := settle (toStandby (some .stopDone) (arrive f s))

theorem stopped_changes (f : Frame) (s : State) :
    Changes [.lnk, .rct, .crg, .fls, .dgv, .rtb, .ntu, .trc] s (stopped f s) :=
  (((arrive_changes f s).mono (by simp)).trans ((toStandby_changes _ _).mono (by simp))).trans
    ((settle_changes _).mono (by simp))

theorem stopped_rct (f : Frame) (s : State) : (stopped f s).rct = (arrive f s).rct.enter .standby := by
  rw [stopped, settle_toStandby, takeClose_rct, toStandby_rct]

theorem stopped_lnk (f : Frame) {s : State} (h : s.lnk.inbox = []) :
    (stopped f s).lnk = { s.lnk with inbox := [f] } := by
  rw [stopped, settle_lnk, toStandby_lnk, arrive, h]
  rfl

theorem stopped_setpointsZeroed (f : Frame) (s : State) : SetpointsZeroed s (stopped f s) := by
  intro b
  rw [stopped, settle_toStandby, takeClose_crg, toStandby_setpointsZeroed, arrive_crg]

theorem stopped_governorIdle (f : Frame) {s : State} (h : s.dgv.state ≠ .steady) : GovernorIdle (stopped f s) := by
  have hidle : GovernorIdle (toStandby (some .stopDone) (arrive f s)) :=
    endRun_governorIdle (by rwa [occurIf_dgv, State.withRct_dgv, arrive_dgv])
  rwa [stopped, settle_toStandby, GovernorIdle, takeClose_dgv]

/-- The reply to a request that has arrived, under the words of the statements. -/
theorem sendReply_arrived {f : Frame} {t : State} (c : ResultCode) (p : List Byte) (hinbox : t.lnk.inbox = [f])
    (hsilence : t.rct.supervision = 0) (hlapsed : t.rct.lapsed = false) : sendReply f c p t = answered f c p t := by
  have hlnk : { t.lnk with inbox := [f] } = t.lnk := by rw [← hinbox]
  have hrct : { t.rct with supervision := 0, lapsed := false } = t.rct := by rw [← hsilence, ← hlapsed]
  calc sendReply f c p t
    _ = sendReply f c p { t with
          rct := { t.rct with supervision := 0, lapsed := false }
          lnk := { t.lnk with inbox := [f] } } := by rw [hlnk, hrct]
    _ = answered f c p t := rfl

/-- A stop that its owner takes to STANDBY is answered OK there and then. -/
theorem request_stopped {f : Frame} {owner : State → State × Answer} {s : State} (hs : Free s)
    (howner : owner (arrive f s) = (toStandby (some .stopDone) (arrive f s), .ok)) :
    request (some f) owner s = answered f .ok [] (stopped f s) := by
  obtain ⟨hawake, hempty, -⟩ := hs
  have hinbox : (stopped f s).lnk.inbox = [f] := by rw [stopped_lnk f hempty]
  have hsilence : (stopped f s).rct.supervision = 0 := by rw [stopped_rct]; rfl
  have hlapsed : (stopped f s).rct.lapsed = false := by rw [stopped_rct]; rfl
  calc request (some f) owner s = serve f owner (arrive f s) := request_free f owner s hawake hempty
    _ = sendReply f .ok [] (stopped f s) := by simp only [serve, howner, Answer.ok, stopped]
    _ = answered f .ok [] (stopped f s) := sendReply_arrived _ _ hinbox hsilence hlapsed

/-- Settles O32: both modes by the run state, and the one entry to STANDBY that the two modes share. -/
theorem stopTakesModes : Obligations.StopTakesModes := by
  refine ⟨fun tag s hs => ⟨fun hidle => ⟨?soft, ?immediate⟩, fun hrun => ?begins, fun hstopping => ?again,
    fun m hm => handle_stop_range tag m hm s⟩, fun c f s hs hstop => ?enters⟩
  case soft => exact exec_answered (exec_stopSoft tag s) hs hs (takeStopSoft_state hidle)
  case immediate => exact exec_answered (exec_stopImmediate tag s) hs hs (takeStopImmediate_state hidle)
  case begins =>
    exact ⟨beginStop s, exec_answered (exec_stopSoft tag s) hs (free_beginStop hs hrun) (takeStopSoft_run hrun), rfl,
      zeroTargets_zeroed _⟩
  case again => exact exec_answered (exec_stopSoft tag s) hs hs (takeStopSoft_stopping hstopping)
  case enters =>
    have hexec : exec c s = .next (answered f .ok [] (stopped f s)) := by
      rcases hstop with ⟨tag, rfl, rfl, hrun⟩ | ⟨tag, rfl, rfl, hsync⟩
      · rw [exec_stopImmediate, request_stopped hs (takeStopImmediate_active ((active_iff s).mpr hrun))]
      · rw [exec_stopSoft, request_stopped hs (takeStopSoft_sync hsync)]
    obtain ⟨-, hempty, -, hnone⟩ := hs
    exact ⟨stopped f s, hexec, stopped_rct f s, settle_toStandby_raised (by decide) (by decide) (arrive f s),
      stopped_setpointsZeroed f s, settle_toStandby_shut _ hnone, stopped_governorIdle f,
      stopped_changes f s .ssq (by decide), stopped_changes f s .atr (by decide), stopped_changes f s .mfe (by decide),
      stopped_changes f s .params (by decide), stopped_changes f s .sst (by decide), stopped_lnk f hempty⟩

end Sys2Proof.Stopping
end

section
/-!
CLEAR_HALT (R149). The file settles O33.
-/

namespace Sys2Proof.ClearingHalt

open Sys2Proof.Machine Sys2Proof.Claims Sys2Proof.Requests Sys2Proof.LeavingRun

theorem exec_clearHalt (tag : Byte) (s : State) :
    exec (.clearHalt tag) s = .next (request (some ⟨0x0A, tag, []⟩) takeClearHalt s) := rfl

theorem takeClearHalt_state {s : State} (h : s.rct.state ≠ .halt) : takeClearHalt s = (s, .refuse .state) := if_pos h

theorem takeClearHalt_interlock {s : State} (h : s.rct.state = .halt) (htrip : s.rct.tripIn = true) :
    takeClearHalt s = (s, .refuse .interlock) := by
  simp [takeClearHalt, h, htrip]

/-- The state that a CLEAR_HALT leaves of one whose list is blocked and whose governor is in STEADY. -/
def cleared (s : State) : State := clearRun (zeroSetpoints (s.withRct (s.rct.enter .standby)))

theorem toStandby_quiet {s : State} (hblocked : s.fls.blocked = true) (hsteady : s.dgv.state = .steady) :
    toStandby none s = cleared s := endRun_quiet hblocked hsteady

theorem takeClearHalt_ok {s : State} (h : s.rct.state = .halt) (htrip : s.rct.tripIn = false)
    (hblocked : s.fls.blocked = true) (hsteady : s.dgv.state = .steady) : takeClearHalt s = (cleared s, .ok) := by
  simp [takeClearHalt, h, htrip, toStandby_quiet hblocked hsteady]

/-- HALT holds the union of block reasons present (R136), and so does STANDBY. -/
theorem blocked_of_halt {s : State} (h : s.ListSettled) (hstate : s.rct.state = .halt) : s.fls.blocked = true := by
  obtain ⟨hblocked, -⟩ := h
  exact hblocked.trans (union_of_not_running s (by rw [State.running, hstate]; rfl))

theorem free_cleared {s : State} (h : Free s) (hblocked : s.fls.blocked = true) : Free (cleared s) := by
  obtain ⟨hawake, hinbox, -, hnone⟩ := h
  exact ⟨hawake, hinbox, hblocked, hnone⟩

/-- Settles O33: the two refusals, and the entry to STANDBY without a notice while the list is blocked. -/
theorem clearHaltReturnsStandby : Obligations.ClearHaltReturnsStandby := by
  intro tag s hs
  refine ⟨fun hstate => ?_, fun hstate htrip => ?_, fun hstate htrip hsteady => ?_⟩
  · exact exec_answered (exec_clearHalt tag s) hs hs (takeClearHalt_state hstate)
  · exact exec_answered (exec_clearHalt tag s) hs hs (takeClearHalt_interlock hstate htrip)
  · have hblocked : s.fls.blocked = true := by
      obtain ⟨-, -, hsettled⟩ := hs
      exact blocked_of_halt hsettled hstate
    exact ⟨cleared s, exec_answered (exec_clearHalt tag s) hs (free_cleared hs hblocked)
      (takeClearHalt_ok hstate htrip hblocked hsteady), rfl, zeroSetpoints_zeroed _⟩

end Sys2Proof.ClearingHalt
end

section
/-!
The ALERT line (R156): every operation of the part that moves a source, a level, an enable or ALERT_FLOOR judges the line
again, and every other operation leaves them as they are. The lemmas follow the blocks, from one occurrence to one step of
the queue. The file settles O56.
-/

namespace Sys2Proof.AlertLine

open Sys2Proof.Machine

/-! What the line depends on. -/

/-- The ALERT condition in the words of R156. -/
theorem alertDue_iff (s : State) : s.alertDue = true ↔
    ∃ n, (s.ntu.sources.get n).latched = true ∧ (s.ntu.sources.get n).enable = true
      ∧ s.parN .alertFloor ≤ (s.ntu.sources.get n).level := by
  simp only [State.alertDue, List.any_eq_true, Notice.alerts, Bool.and_eq_true, decide_eq_true_eq, and_assoc]
  constructor
  · rintro ⟨x, hx, hholds⟩
    obtain ⟨i, hi, rfl⟩ := List.getElem_of_mem hx
    exact ⟨⟨i, s.ntu.sources.size ▸ hi⟩, hholds⟩
  · rintro ⟨n, hholds⟩
    exact ⟨_, List.getElem_mem _, hholds⟩

theorem alertDue_eq_false {s : State} (h : ∀ n, (s.ntu.sources.get n).latched = false) : s.alertDue = false := by
  rw [Bool.eq_false_iff]
  intro hdue
  obtain ⟨n, hlatched, -⟩ := (alertDue_iff s).mp hdue
  exact absurd hlatched (by simp [h n])

/-- What leaves the notice unit and the parameters alone leaves the line true. -/
theorem alertTrue_of_changes {fs : List Field} {s t : State} (hs : s.AlertTrue) (h : Changes fs s t)
    (hntu : Field.ntu ∉ fs := by decide) (hparams : Field.params ∉ fs := by decide) : t.AlertTrue := by
  have hn : t.ntu = s.ntu := h .ntu hntu
  have hp : t.params = s.params := h .params hparams
  rw [State.AlertTrue, State.alertDue, State.parN, State.par, hn, hp]
  exact hs

theorem alertTrue_judgeAlert (s : State) : (judgeAlert s).AlertTrue := judgeAlert_alert s

theorem alertTrue_occurTimes (n : Nat) (src : Source) {s : State} (h : s.AlertTrue) : (occurTimes n src s).AlertTrue :=
  occurTimes_alert n src s h

/-- A choice between two operations. -/
theorem alertTrue_ite {c : Prop} [Decidable c] {s t : State} (hs : s.AlertTrue) (ht : t.AlertTrue) :
    (if c then s else t).AlertTrue := by
  split
  · exact hs
  · exact ht

/-- A choice between two operations that answer something beside the state. -/
theorem alertTrue_ite_fst {α : Type} {c : Prop} [Decidable c] {r q : State × α} (hr : r.1.AlertTrue)
    (hq : q.1.AlertTrue) : (if c then r else q).1.AlertTrue := by
  split
  · exact hr
  · exact hq

/-! The firing list and the end of a run. -/

theorem alertTrue_takeUnblock {s : State} (h : s.AlertTrue) : (takeUnblock s).AlertTrue :=
  alertTrue_of_changes h (takeUnblock_changes s)

theorem alertTrue_takeClose {s : State} (h : s.AlertTrue) : (takeClose s).1.AlertTrue :=
  alertTrue_ite_fst (closeList_alert s h) h

theorem alertTrue_endRun {s : State} (h : s.AlertTrue) : (endRun s).AlertTrue := by
  have hzero : (zeroSetpoints s).AlertTrue := h
  exact alertTrue_of_changes (alertTrue_ite (alertTrue_takeClose hzero) hzero) (endEpisode_changes _)

theorem alertTrue_toStandby (src? : Option Source) {s : State} (h : s.AlertTrue) : (toStandby src? s).AlertTrue :=
  alertTrue_endRun (occurIf_alert src? _ h)

theorem alertTrue_takeHalt (c : HaltCause) {s : State} (h : s.AlertTrue) : (takeHalt c s).AlertTrue :=
  alertTrue_ite (alertTrue_endRun (occur_alert .haltEntered _)) h

theorem alertTrue_askHalt (c? : Option HaltCause) {s : State} (h : s.AlertTrue) : (askHalt c? s).AlertTrue := by
  cases c? with
  | none => exact h
  | some c => exact alertTrue_takeHalt c h

theorem alertTrue_askMisfires (l : List (Fin 24)) {s : State} (h : s.AlertTrue) : (askMisfires l s).AlertTrue := by
  induction l generalizing s with
  | nil => exact h
  | cons k rest ih => exact ih (alertTrue_takeHalt (.misfire k) h)

theorem alertTrue_settle {s : State} (h : s.AlertTrue) : (settle s).AlertTrue :=
  alertTrue_askMisfires _ (alertTrue_takeClose (alertTrue_takeUnblock h))

theorem alertTrue_settleAt (o : UpdateOrder) (k : Nat) {s : State} (h : s.AlertTrue) : (settleAt o k s).AlertTrue :=
  alertTrue_ite (alertTrue_settle h) (alertTrue_takeUnblock h)

/-! The governor. -/

theorem alertTrue_onset (u : AngleUpdate) (s : State) : (onset u s).1.AlertTrue :=
  alertTrue_ite_fst (occur_alert .episodeOnset _) (occur_alert .episodeOnset _)

theorem alertTrue_escalate (u : AngleUpdate) {s : State} (h : s.AlertTrue) : (escalate u s).1.AlertTrue :=
  alertTrue_ite_fst (occur_alert .episodeEscalate _) h

theorem alertTrue_expire {s : State} (h : s.AlertTrue) : (expire s).1.AlertTrue := by
  unfold expire
  dsimp only
  split
  · split
    · exact h
    · exact occur_alert .episodeExpired _
  · exact h

theorem alertTrue_clearEpisode (u : AngleUpdate) (s : State) : (clearEpisode u s).AlertTrue :=
  occur_alert .episodeClear _

theorem alertTrue_judgeEpisode (u : AngleUpdate) {s : State} (h : s.AlertTrue) : (judgeEpisode u s).1.AlertTrue := by
  have hexpired : (if holdDue u s then expire s else (s, none)).1.AlertTrue := alertTrue_ite_fst (alertTrue_expire h) h
  exact alertTrue_ite_fst hexpired
    (alertTrue_ite_fst hexpired (alertTrue_ite_fst (alertTrue_clearEpisode u _) hexpired))

theorem alertTrue_episodeStep (u : AngleUpdate) {s : State} (h : s.AlertTrue) : (episodeStep u s).1.AlertTrue := by
  have hescalated := alertTrue_escalate u (s := s.withDgv { s.dgv with
    extremes := some (widen s.dgv.extremes (extremesOf s u)) }) h
  exact alertTrue_ite_fst hescalated (alertTrue_judgeEpisode u hescalated)

theorem alertTrue_endRecovery (s : State) : (endRecovery s).AlertTrue := occur_alert .recoveryDone _

theorem alertTrue_recoveryStep {s : State} (h : s.AlertTrue) : (recoveryStep s).AlertTrue :=
  alertTrue_ite (alertTrue_endRecovery _) h

theorem alertTrue_quietStep (u : AngleUpdate) {s : State} (h : s.AlertTrue) : (quietStep u s).1.AlertTrue := by
  have hcount : (countD u s).AlertTrue := alertTrue_of_changes h (countD_changes u s)
  exact alertTrue_ite_fst (alertTrue_onset u _) (alertTrue_ite_fst (alertTrue_recoveryStep hcount) hcount)

theorem alertTrue_governorStep (u : AngleUpdate) {s : State} (h : s.AlertTrue) : (governorStep u s).1.AlertTrue :=
  alertTrue_ite_fst (alertTrue_ite_fst (alertTrue_episodeStep u h) (alertTrue_quietStep u h)) h

theorem alertTrue_governorEvent {due : AngleUpdate → State → Bool} {act : AngleUpdate → State → State × Option HaltCause}
    {s : State} (h : s.AlertTrue) (hact : ∀ u, (act u s).1.AlertTrue) : (governorEvent due act s).AlertTrue := by
  unfold governorEvent
  split
  · exact alertTrue_ite (alertTrue_settle (alertTrue_askHalt _ (hact _))) h
  · exact h

/-! The run controller. -/

theorem alertTrue_tripCheck {s : State} (h : s.AlertTrue) : (tripCheck s).AlertTrue := by
  unfold tripCheck
  split
  · exact alertTrue_askHalt _ h
  · exact h

theorem alertTrue_judgeSync {s : State} (h : s.AlertTrue) : (judgeSync s).AlertTrue :=
  alertTrue_ite (occur_alert .runEntered _) (alertTrue_ite (alertTrue_toStandby _ h) h)

theorem alertTrue_judgeStop {s : State} (h : s.AlertTrue) : (judgeStop s).AlertTrue :=
  alertTrue_ite (alertTrue_toStandby _ h) h

theorem alertTrue_runStep (u : AngleUpdate) {s : State} (h : s.AlertTrue) : (runStep u s).AlertTrue := by
  have hcount : (countSupervision s).AlertTrue := h
  unfold runStep
  dsimp only
  split
  · exact alertTrue_judgeSync h
  · exact alertTrue_ite (occur_alert .supervisionLapse _) hcount
  · exact alertTrue_judgeStop h
  · exact hcount
  · exact hcount

/-! The path of an update. -/

theorem alertTrue_handOff (e : Entry) {s : State} (h : s.AlertTrue) : (handOff e s).AlertTrue :=
  alertTrue_ite (closeList_alert _ h) h

theorem alertTrue_handleSlot (v : View) (u : AngleUpdate) (k : Nat) {s : State} (h : s.AlertTrue) :
    (handleSlot v u k s).AlertTrue := by
  refine alertTrue_of_changes ?_ (advancePointer_changes k _)
  exact alertTrue_ite (alertTrue_handOff _ h) h

theorem alertTrue_sequencerPoint (v : View) (u : AngleUpdate) (x : Nat) {s : State} (h : s.AlertTrue) :
    (sequencerPoint v u x s).AlertTrue := by
  have hsync (k : Nat) : (resolveSync k s).AlertTrue := alertTrue_of_changes h (resolveSync_changes k s)
  refine alertTrue_ite h (alertTrue_ite ?_ (alertTrue_ite (alertTrue_handleSlot v u _ h) h))
  split
  · exact alertTrue_handleSlot v u _ (hsync _)
  · exact h

theorem alertTrue_retireDone (n : Nat) {s : State} (h : s.AlertTrue) : (retireDone n s).AlertTrue := by
  induction n generalizing s with
  | zero => exact h
  | succ n ih =>
    unfold retireDone
    split
    · exact h
    · exact alertTrue_ite (ih (alertTrue_askHalt _ (retireHead_alert s h))) h

theorem alertTrue_watchUnit (u : AngleUpdate) (n : Fin 4) {s : State} (h : s.AlertTrue) : (watchUnit u n s).AlertTrue :=
  alertTrue_ite (occur_alert _ _) h

theorem alertTrue_doDeed (v : View) (u : AngleUpdate) (d : Deed) {s : State} (h : s.AlertTrue) :
    (doDeed v u d s).AlertTrue := by
  cases d with
  | take => exact h
  | path n => exact alertTrue_sequencerPoint v u _ h
  | listEnd => exact alertTrue_retireDone _ (s := sampleWindows u s) h
  | trip => exact alertTrue_tripCheck h
  | governor => exact alertTrue_askHalt _ (alertTrue_takeUnblock (alertTrue_governorStep u h))
  | ramp => exact alertTrue_of_changes h (rampStep_changes s)
  | run => exact alertTrue_runStep u h
  | watch =>
    exact alertTrue_watchUnit u 3 (alertTrue_watchUnit u 2 (alertTrue_watchUnit u 1 (alertTrue_watchUnit u 0 h)))

theorem alertTrue_doDeeds (o : UpdateOrder) (u : AngleUpdate) (v : View) (l : List (Nat × Deed)) {s : State}
    (h : s.AlertTrue) : (doDeeds o u v l s).AlertTrue := by
  induction l generalizing v s with
  | nil => exact alertTrue_settle h
  | cons x rest ih => exact ih _ (alertTrue_doDeed _ u x.2 (alertTrue_settleAt o x.1 h))

/-! One conversion set. -/

theorem alertTrue_completeSet (raw : RawSet) {s : State} (h : s.AlertTrue) : (completeSet raw s).AlertTrue :=
  alertTrue_ite (occur_alert .adcClip _) h

theorem alertTrue_filterSet (t : TrimmedSet) {s : State} (h : s.AlertTrue) : (filterSet t s).AlertTrue :=
  alertTrue_ite (alertTrue_ite (occur_alert .filterSat _) h) h

theorem alertTrue_trackAndTake (f : FilteredSet) {s : State} (h : s.AlertTrue) : (trackAndTake f s).AlertTrue := by
  have htracked : (trackerUpdate f s).AlertTrue := occurIf_alert _ _ h
  unfold trackAndTake
  dsimp only
  split
  · exact alertTrue_doDeeds _ _ _ _ (alertTrue_of_changes htracked (takeReseat_changes _ _))
  · exact alertTrue_settle htracked

theorem alertTrue_filterAndTrack (t : TrimmedSet) {s : State} (h : s.AlertTrue) : (filterAndTrack t s).AlertTrue := by
  unfold filterAndTrack
  dsimp only
  split
  · exact alertTrue_trackAndTake _ (alertTrue_filterSet t h)
  · exact alertTrue_settle (alertTrue_filterSet t h)

theorem alertTrue_conversionSet (raw : RawSet) {s : State} (h : s.AlertTrue) : (conversionSet raw s).AlertTrue := by
  have hset : (completeSet raw s).AlertTrue := alertTrue_completeSet raw h
  have hchecked : (if s.order.tripFirst then settleAt s.order 0 (tripCheck (completeSet raw s))
      else completeSet raw s).AlertTrue := alertTrue_ite (alertTrue_settleAt _ _ (alertTrue_tripCheck hset)) hset
  refine alertTrue_of_changes ?_ (Changes.withOrders _ _)
  split
  · exact alertTrue_filterAndTrack _ hchecked
  · exact alertTrue_settle hchecked

/-! The store and the resets. -/

theorem alertTrue_finishLoad (s : State) : (finishLoad s).AlertTrue :=
  alertTrue_occurTimes _ .storeFault (alertTrue_judgeAlert _)

theorem alertTrue_saveRow (n : Fin 512) (errors : BitVec 39) {s : State} (h : s.AlertTrue) :
    (saveRow n errors s).AlertTrue := by
  unfold saveRow nextRow
  dsimp only
  split
  · split
    · exact h
    · exact occur_alert .storeSaved _
  · exact occur_alert .storeFault _

/-- A reset leaves every source unlatched and the line released (R173). -/
theorem alertTrue_of_ntu_atReset {s : State} {levels : Tab Nat 24} {enables : Tab Bool 24}
    (h : s.ntu = Ntu.atReset levels enables) : s.AlertTrue := by
  have hdue : s.alertDue = false := alertDue_eq_false fun n => by rw [h, Ntu.atReset, Tab.get_ofFn]
  rw [State.AlertTrue, hdue, h, Ntu.atReset]

/-! The owners of requests. -/

theorem alertTrue_putTargets (pairs : List (Byte × BitVec 16)) {s : State} (h : s.AlertTrue) :
    (putTargets pairs s).AlertTrue := by
  induction pairs generalizing s with
  | nil => exact h
  | cons p rest ih => exact ih (s := putTarget p s) h

theorem alertTrue_writeEach {α : Type} {put : Nat → α → State → Option State}
    (hput : ∀ i r {s t : State}, s.AlertTrue → put i r s = some t → t.AlertTrue) (i : Nat) (recs : List α) {s : State}
    (h : s.AlertTrue) : (writeEach put i recs s).1.AlertTrue := by
  induction recs generalizing i s with
  | nil => exact h
  | cons r rest ih =>
    unfold writeEach
    split
    · exact h
    · next t ht => exact ih (i + 1) (hput i r h ht)

theorem alertTrue_putSlot (k : Nat) (r : SlotRec) {s t : State} (h : s.AlertTrue) (ht : putSlot k r s = some t) :
    t.AlertTrue := by
  unfold putSlot at ht
  split at ht
  · obtain rfl := Option.some.inj ht
    exact h
  · cases ht

theorem alertTrue_putResponse (i : Nat) (r : ResponseRec) {s t : State} (h : s.AlertTrue)
    (ht : putResponse i r s = some t) : t.AlertTrue := by
  obtain ⟨e, -, rfl⟩ := Option.map_eq_some_iff.mp ht
  exact h

/-- A parameter other than ALERT_FLOOR does not move the line. -/
theorem alertTrue_withPar {p : ParamId} (hp : p ≠ .alertFloor) (v : Int) {s : State} (h : s.AlertTrue) :
    (s.withPar p v).AlertTrue := by
  rw [State.AlertTrue, State.alertDue, State.parN, State.par_withPar_other s p _ v hp]
  exact h

/-- A write of ALERT_FLOOR judges the line (R161). -/
theorem alertTrue_writePar (p : ParamId) (v : Int) {s : State} (h : s.AlertTrue) : (writePar p v s).AlertTrue := by
  unfold writePar
  split
  · exact alertTrue_of_changes (alertTrue_withPar (by decide) v h) (clampToIMax_changes _)
  · exact alertTrue_withPar (p := .misfireLimit) (by decide) v h
  · rfl
  · next hp => exact alertTrue_withPar hp v h

theorem alertTrue_putParam (q : Byte × BitVec 32) {s t : State} (h : s.AlertTrue) (ht : putParam q s = .ok t) :
    t.AlertTrue := by
  unfold putParam at ht
  split at ht
  · cases ht
  · split at ht
    · cases ht
    · obtain rfl := Except.ok.inj ht
      exact alertTrue_writePar _ _ h

theorem alertTrue_putParams (pairs : List (Byte × BitVec 32)) {s : State} (h : s.AlertTrue) :
    (putParams pairs s).1.AlertTrue := by
  induction pairs generalizing s with
  | nil => exact h
  | cons q rest ih =>
    unfold putParams
    split
    · exact h
    · next t ht => exact ih (alertTrue_putParam q h ht)

theorem alertTrue_takeStart {s : State} (h : s.AlertTrue) : (takeStart s).1.AlertTrue := by
  refine alertTrue_ite_fst h (alertTrue_ite_fst h (alertTrue_ite_fst h (alertTrue_ite_fst h ?_)))
  split
  · exact h
  · exact alertTrue_of_changes h (acceptStart_changes s)

theorem alertTrue_takeStopSoft {s : State} (h : s.AlertTrue) : (takeStopSoft s).1.AlertTrue := by
  unfold takeStopSoft
  split
  · exact h
  · exact h
  · exact alertTrue_toStandby _ h
  · exact alertTrue_of_changes h (beginStop_changes s)
  · exact h

theorem alertTrue_takeGetParam (ids : List Byte) {s : State} (h : s.AlertTrue) : (takeGetParam ids s).1.AlertTrue := by
  refine alertTrue_ite_fst h ?_
  split
  · exact h
  · exact h

theorem alertTrue_takeSetWatch (unit signal : Byte) (threshold : BitVec 32) (direction mode : Byte) {s : State}
    (h : s.AlertTrue) : (takeSetWatch unit signal threshold direction mode s).1.AlertTrue := by
  unfold takeSetWatch
  split
  · exact alertTrue_ite_fst h (alertTrue_ite_fst h h)
  · exact h

theorem alertTrue_takeSetEnable (f : Fin 24 → Bool → Bool) {s : State} (h : s.AlertTrue) :
    (takeSetEnable f s).1.AlertTrue :=
  alertTrue_ite_fst h (alertTrue_judgeAlert _)

/-- No owner of a request leaves the line wrong: those that write sources, levels, enables or ALERT_FLOOR judge it. -/
theorem alertTrue_perform (i : Instr) {s : State} (h : s.AlertTrue) : (perform i s).1.AlertTrue := by
  cases i with
  | start => exact alertTrue_takeStart h
  | stopSoft => exact alertTrue_takeStopSoft h
  | stopImmediate => exact alertTrue_ite_fst (alertTrue_toStandby _ h) h
  | clearHalt => exact alertTrue_ite_fst h (alertTrue_ite_fst h (alertTrue_toStandby _ h))
  | setTargets _ pairs => exact alertTrue_ite_fst h (alertTrue_ite_fst h (alertTrue_putTargets pairs h))
  | getParam _ ids => exact alertTrue_takeGetParam ids h
  | setParam _ pairs => exact alertTrue_ite_fst h (alertTrue_ite_fst h (alertTrue_putParams pairs h))
  | writeSlots _ first recs =>
    exact alertTrue_ite_fst h (alertTrue_ite_fst h (alertTrue_writeEach alertTrue_putSlot _ recs h))
  | writeResponses _ first recs =>
    exact alertTrue_ite_fst h (alertTrue_ite_fst h (alertTrue_writeEach alertTrue_putResponse _ recs h))
  | writeFilter _ recs =>
    refine alertTrue_ite_fst h (alertTrue_ite_fst h (alertTrue_ite_fst h ?_))
    rw [TrimFilterMarks.putFilters_eq]
    exact h
  | writeTrim _ recs =>
    refine alertTrue_ite_fst h (alertTrue_ite_fst h ?_)
    rw [TrimFilterMarks.putTrims_eq]
    exact h
  | filterControlEnable | filterControlDisable => exact alertTrue_ite_fst h (alertTrue_ite_fst h h)
  | ackNotices => exact alertTrue_ite_fst h (alertTrue_judgeAlert _)
  | setNoticeEnableAssign | setNoticeEnableSet | setNoticeEnableClear => exact alertTrue_takeSetEnable _ h
  | setNoticeLevels => exact alertTrue_ite_fst h (alertTrue_ite_fst h (alertTrue_judgeAlert _))
  | setWatch => exact alertTrue_takeSetWatch _ _ _ _ _ h
  | traceControlTrigger => exact alertTrue_ite_fst (takeTrigger_alert .request s h) h
  | saveSettings | loadSettings => exact alertTrue_ite_fst h (alertTrue_ite_fst h h)
  | readSlots | readResponses | readTrim | readHistory | readTrace | traceControlSetMask => exact alertTrue_ite_fst h h
  | _ => exact h

/-! The link (R176 to R180, R185). -/

theorem alertTrue_handle (f : Frame) {s : State} (h : s.AlertTrue) : (handle f s).1.AlertTrue := by
  unfold handle
  split
  · exact alertTrue_perform _ h
  · exact h

theorem alertTrue_sendReply (f : Frame) (c : ResultCode) (payload : List Byte) {s : State} (h : s.AlertTrue) :
    (sendReply f c payload s).AlertTrue :=
  alertTrue_of_changes h (sendReply_changes f c payload s)

theorem alertTrue_serve (f : Frame) {owner : State → State × Answer} {s : State} (h : (owner s).1.AlertTrue) :
    (serve f owner s).AlertTrue := by
  have hsettled : (settle (owner s).1).AlertTrue := alertTrue_settle h
  unfold serve
  dsimp only
  split
  · exact alertTrue_sendReply f _ _ hsettled
  · exact hsettled

theorem alertTrue_arriveAndServe (f : Frame) {owner : State → State × Answer} {s : State} (h : s.AlertTrue)
    (howner : ∀ {t : State}, t.AlertTrue → (owner t).1.AlertTrue) : (arriveAndServe f owner s).AlertTrue := by
  have harrived : (arrive f s).AlertTrue := h
  exact alertTrue_ite (alertTrue_serve f (howner harrived)) (alertTrue_ite harrived (occur_alert .linkFault _))

theorem alertTrue_dropFrame (s : State) : (dropFrame s).AlertTrue := occur_alert .linkFault _

theorem alertTrue_takeByte (b : Byte) {s : State} (h : s.AlertTrue) : (takeByte b s).AlertTrue := by
  unfold takeByte
  split
  · exact alertTrue_ite h h
  · exact alertTrue_ite h (alertTrue_dropFrame s)
  · exact h
  · refine alertTrue_ite h (alertTrue_ite ?_ (alertTrue_dropFrame s))
    exact alertTrue_arriveAndServe _ h (alertTrue_handle _)

theorem alertTrue_breakFrame {s : State} (h : s.AlertTrue) : (breakFrame s).AlertTrue :=
  alertTrue_ite h (alertTrue_dropFrame s)

theorem alertTrue_softReset (s : State) : (softReset s).AlertTrue := alertTrue_of_ntu_atReset rfl

theorem alertTrue_replySent {s : State} (h : s.AlertTrue) : (replySent s).AlertTrue := by
  unfold replySent
  split
  · exact h
  · refine alertTrue_ite (alertTrue_softReset s) ?_
    dsimp only
    split
    · exact h
    · exact alertTrue_serve _ (alertTrue_handle _ h)

theorem alertTrue_finishReplies (n : Nat) {s : State} (h : s.AlertTrue) : (finishReplies n s).AlertTrue := by
  induction n generalizing s with
  | zero => exact h
  | succ n ih => exact alertTrue_ite (ih (alertTrue_replySent h)) h

theorem alertTrue_request (f? : Option Frame) {owner : State → State × Answer} {s : State} (h : s.AlertTrue)
    (howner : ∀ {t : State}, t.AlertTrue → (owner t).1.AlertTrue) : (request f? owner s).AlertTrue := by
  refine alertTrue_ite h ?_
  split
  · exact alertTrue_arriveAndServe _ (alertTrue_finishReplies _ h) howner
  · exact h

theorem alertTrue_loadEnds {s : State} (h : s.AlertTrue) : (loadEnds s).AlertTrue := by
  unfold loadEnds
  split
  · exact alertTrue_ite h (alertTrue_finishLoad s)
  · have hloaded : (settle (finishLoad s)).AlertTrue := alertTrue_settle (alertTrue_finishLoad s)
    unfold replyToLoad
    split
    · exact alertTrue_sendReply _ _ _ hloaded
    · exact hloaded
  · exact h

/-! One step of the queue. -/

/-- A command whose meaning is a request of the table. -/
theorem alertTrue_of_request {i : Instr} {s t : State} (h : s.AlertTrue) (e : exec i s = .next t)
    (hrequest : exec i s = .next (request (frameOf i) (perform i) s)) : t.AlertTrue := by
  obtain rfl := Host.Outcome.next.inj (hrequest.symm.trans e)
  exact alertTrue_request _ h (alertTrue_perform i)

theorem alertTrue_of_next {s t : State} (h : s.AlertTrue) (e : (.next s : Result) = .next t) : t.AlertTrue := by
  obtain rfl := Host.Outcome.next.inj e
  exact h

theorem alertTrue_exec (i : Instr) {s t : State} (h : s.AlertTrue) (e : exec i s = .next t) : t.AlertTrue := by
  cases i with
  | powerOnReset | resetNAsserted => exact alertTrue_of_next (alertTrue_of_ntu_atReset rfl) e
  | loadEnd => exact alertTrue_of_next (alertTrue_loadEnds h) e
  | softReset => exact alertTrue_of_next (alertTrue_ite h (alertTrue_softReset s)) e
  | conversionSet raw => exact alertTrue_of_next (alertTrue_ite h (alertTrue_conversionSet raw h)) e
  | trackLocked =>
    exact alertTrue_of_next (alertTrue_ite h (alertTrue_ite (alertTrue_settle (occur_alert .trackLocked _)) h)) e
  | trackLost =>
    exact alertTrue_of_next (alertTrue_ite h (alertTrue_ite (alertTrue_settle (occur_alert .trackLost _)) h)) e
  | misfireLimitReached slot =>
    exact alertTrue_of_next (alertTrue_ite h (alertTrue_ite (alertTrue_settle (alertTrue_takeHalt _ h)) h)) e
  | traceFrozen => exact alertTrue_of_next (alertTrue_ite h (judgeFreeze_alert s h)) e
  | episodeOnset =>
    exact alertTrue_of_next (alertTrue_ite h (alertTrue_governorEvent h fun u => alertTrue_onset u s)) e
  | holdExpiry => exact alertTrue_of_next (alertTrue_ite h (alertTrue_governorEvent h fun _ => alertTrue_expire h)) e
  | episodeLong => exact alertTrue_of_next (alertTrue_ite h (alertTrue_governorEvent h fun _ => h)) e
  | episodeClear =>
    exact alertTrue_of_next (alertTrue_ite h (alertTrue_governorEvent h fun u => alertTrue_clearEpisode u s)) e
  | recoveryDone =>
    exact alertTrue_of_next (alertTrue_ite h (alertTrue_governorEvent h fun _ => alertTrue_endRecovery s)) e
  | episodeEnd =>
    have hended : (endEpisode s).AlertTrue := alertTrue_of_changes h (endEpisode_changes s)
    exact alertTrue_of_next (alertTrue_ite h (alertTrue_ite (alertTrue_settle hended) h)) e
  | listClose => exact alertTrue_of_next (alertTrue_ite h (alertTrue_askMisfires _ (alertTrue_takeClose h))) e
  | unblock => exact alertTrue_of_next (alertTrue_ite h (alertTrue_takeUnblock h)) e
  | runEntered =>
    exact alertTrue_of_next (alertTrue_ite h (alertTrue_ite (alertTrue_settle (occur_alert .runEntered _)) h)) e
  | syncFailed =>
    exact alertTrue_of_next (alertTrue_ite h (alertTrue_ite (alertTrue_settle (alertTrue_toStandby _ h)) h)) e
  | stopDone => exact alertTrue_of_next (alertTrue_ite h (alertTrue_ite (alertTrue_settle (alertTrue_judgeStop h)) h)) e
  | supervisionLapse =>
    exact alertTrue_of_next (alertTrue_ite h (alertTrue_ite (alertTrue_settle (occur_alert .supervisionLapse _)) h)) e
  | haltCause c => exact alertTrue_of_next (alertTrue_ite h (alertTrue_settle (alertTrue_takeHalt c h))) e
  | tripInAssert =>
    have htrip : (s.withRct { s.rct with tripIn := true }).AlertTrue := h
    exact alertTrue_of_next (alertTrue_settle (alertTrue_ite htrip (alertTrue_takeHalt .tripInput htrip))) e
  | tripInRelease => exact alertTrue_of_next (alertTrue_settle (s := releaseTripIn s) h) e
  | rxByte b => exact alertTrue_of_next (alertTrue_ite h (alertTrue_takeByte b h)) e
  | rxFramingError | frameGapTimeout => exact alertTrue_of_next (alertTrue_ite h (alertTrue_breakFrame h)) e
  | replyTransmitted => exact alertTrue_of_next (alertTrue_ite h (alertTrue_replySent h)) e
  | saveRowWritten errors =>
    refine alertTrue_of_next ?_ e
    split
    · exact alertTrue_saveRow _ errors h
    · exact h
  | unknownKind kind tag payload => exact alertTrue_of_next (alertTrue_request _ h (alertTrue_handle _)) e
  | _ => exact alertTrue_of_request h e rfl

theorem alertTrue_step {s t : State} (h : s.AlertTrue) (e : step s = .next t) : t.AlertTrue := by
  unfold step at e
  split at e
  · exact alertTrue_of_next h e
  · next c rest _ => exact alertTrue_exec c (s := s.withPending rest) h e

/-! The reply (R179). -/

/-- Bit 0 of the condition byte is the line: the other flags are shifted above it. -/
theorem conditionByte_bit0 (s : State) : s.conditionByte.getLsbD 0 = s.ntu.alert := by
  cases hline : s.ntu.alert <;> simp [State.conditionByte, byteOfBool, hline]

/-- Settles O56: the line stays true over one step, its condition is R156's, and a reply carries it in bit 0. -/
theorem alertAlwaysTrue : Obligations.AlertAlwaysTrue :=
  ⟨fun _ _ => alertTrue_step, alertDue_iff, fun _ _ _ s => ⟨_, rfl, by rw [conditionByte_bit0]⟩⟩

end Sys2Proof.AlertLine
end

section
/-!
The watch units (R163 to R165): one unit at an angle update, SET_WATCH and REARM_WATCH. The file settles O35.
-/

namespace Sys2Proof.WatchUnits

open Sys2Proof.Machine Sys2Proof.Claims Sys2Proof.Requests

/-! One unit at an update (R163). -/

theorem ofWatch_ne_traceFrozen (n : Fin 4) : Source.ofWatch n ≠ .traceFrozen := by
  revert n
  decide

theorem watchFires_iff (u : AngleUpdate) (s : State) (w : Watch) :
    watchFires u s w = true ↔ watchCondition u s w.config = true ∧ w.condition = false ∧ w.armed = true := by
  simp [watchFires, and_assoc]

/-- The unit's own part of an update is written whether it fires or not. -/
theorem watchUnit_units (u : AngleUpdate) (n : Fin 4) (s : State) :
    (watchUnit u n s).wcu.units = s.wcu.units.set n (watchAfter u s (s.wcu.units.get n)) := by
  unfold watchUnit
  dsimp only
  split
  · rw [occur_wcu]
    rfl
  · rfl

theorem watchUnit_same (u : AngleUpdate) (n : Fin 4) (s : State) :
    (watchUnit u n s).wcu.units.get n = watchAfter u s (s.wcu.units.get n) := by
  rw [watchUnit_units, Tab.get_set_same]

theorem watchUnit_other (u : AngleUpdate) {n m : Fin 4} (h : m ≠ n) (s : State) :
    (watchUnit u n s).wcu.units.get m = s.wcu.units.get m := by
  rw [watchUnit_units, Tab.get_set_other _ _ _ _ h.symm]

theorem watchUnit_raised (u : AngleUpdate) (n : Fin 4) {s : State} (h : watchFires u s (s.wcu.units.get n) = true) :
    Raised (Source.ofWatch n) s (watchUnit u n s) := by
  rw [Raised, watchUnit, if_pos h, occur_source_same _ _ (ofWatch_ne_traceFrozen n)]
  rfl

theorem watchUnit_quiet (u : AngleUpdate) (n : Fin 4) {s : State} (h : ¬ watchFires u s (s.wcu.units.get n) = true) :
    (watchUnit u n s).ntu = s.ntu := by
  rw [watchUnit, if_neg h]
  rfl

theorem watchUnit_frame (u : AngleUpdate) (n : Fin 4) (s : State) :
    watchUnit u n s = { s with
      wcu := (watchUnit u n s).wcu, ntu := (watchUnit u n s).ntu, trc := (watchUnit u n s).trc } := by
  unfold watchUnit
  dsimp only
  split
  · rw [occur_frame]
    rfl
  · rfl

/-- An occurrence in mode ONCE disarms the unit, one in mode EVERY does not. -/
theorem watchAfter_armed_of_fires {u : AngleUpdate} {s : State} {w : Watch} (h : watchFires u s w = true)
    (harmed : w.armed = true) : (watchAfter u s w).armed = !w.config.once := by
  simp [watchAfter, h, harmed]

theorem watchAfter_armed_of_quiet {u : AngleUpdate} {s : State} {w : Watch} (h : ¬ watchFires u s w = true) :
    (watchAfter u s w).armed = w.armed := by
  simp [watchAfter, h]

/-! SET_WATCH (R164). -/

theorem free_withWcu {s : State} (h : Free s) (v : Wcu) : Free (s.withWcu v) := h

theorem exec_setWatch (tag unit signal direction mode : Byte) (threshold : BitVec 32) (s : State) :
    exec (.setWatch tag unit signal threshold direction mode) s = .next (request
      (some ⟨0x34, tag, [unit, signal] ++ w32 threshold ++ [direction, mode]⟩)
      (takeSetWatch unit signal threshold direction mode) s) := rfl

/-- The signal table of R162 holds the codes 0 to 12. -/
theorem signal_isSome_iff (n : Nat) : (WatchSignal.ofCode? n).isSome = true ↔ n ≤ 12 := by
  by_cases h : n ≤ 12
  · have htable : ∀ n ≤ 12, (WatchSignal.ofCode? n).isSome = true := by decide
    exact iff_of_true (htable n h) h
  · obtain ⟨k, rfl⟩ : ∃ k, n = k + 13 := ⟨n - 13, by omega⟩
    exact iff_of_false (by simp [WatchSignal.ofCode?]) h

theorem watchConfigOf_some {signal direction mode : Byte} {sig : WatchSignal} (threshold : BitVec 32)
    (hsignal : WatchSignal.ofCode? signal.toNat = some sig) (hdirection : direction.toNat ≤ 1) (hmode : mode.toNat ≤ 1) :
    watchConfigOf signal threshold direction mode = some ⟨sig, threshold.toInt, direction == 0, mode == 1⟩ := by
  simp [watchConfigOf, hsignal, hdirection, hmode]

theorem watchConfigOf_none {signal direction mode : Byte} (threshold : BitVec 32)
    (h : ¬ (signal.toNat ≤ 12 ∧ direction.toNat ≤ 1 ∧ mode.toNat ≤ 1)) :
    watchConfigOf signal threshold direction mode = none := by
  unfold watchConfigOf
  split
  · next sig hsignal =>
    have hcode : signal.toNat ≤ 12 := (signal_isSome_iff _).mp (by simp [hsignal])
    exact if_neg fun hfields => h ⟨hcode, hfields⟩
  · rfl

theorem takeSetWatch_range {unit signal direction mode : Byte} (threshold : BitVec 32)
    (h : ¬ (unit.toNat ≤ 3 ∧ signal.toNat ≤ 12 ∧ direction.toNat ≤ 1 ∧ mode.toNat ≤ 1)) (s : State) :
    takeSetWatch unit signal threshold direction mode s = (s, .refuse .range) := by
  by_cases hfields : signal.toNat ≤ 12 ∧ direction.toNat ≤ 1 ∧ mode.toNat ≤ 1
  · have hunit : 3 < unit.toNat := not_le.mp fun hunit => h ⟨hunit, hfields⟩
    unfold takeSetWatch
    split
    · exact if_pos hunit
    · rfl
  · rw [takeSetWatch, watchConfigOf_none threshold hfields]

/-- The units after a configuration is written: the unit armed, its condition state FALSE. -/
def configured (unit : Byte) (c : WatchConfig) (w : Wcu) : Wcu := ⟨w.units.set (Fin.ofNat 4 unit.toNat) ⟨c, true, false⟩⟩

theorem configured_get {unit : Byte} (hunit : unit.toNat ≤ 3) (c : WatchConfig) (w : Wcu) (n : Fin 4) :
    (configured unit c w).units.get n = if n.1 = unit.toNat then ⟨c, true, false⟩ else w.units.get n := by
  have hplace : Fin.ofNat 4 unit.toNat = n ↔ n.1 = unit.toNat := by
    rw [Fin.ext_iff, Fin.val_ofNat, Nat.mod_eq_of_lt (Nat.lt_succ_of_le hunit), eq_comm]
  simp only [configured, Tab.get_set, hplace]

section Accepted

variable {unit signal direction mode : Byte} {threshold : BitVec 32} {c : WatchConfig} {s : State}
  (hunit : unit.toNat ≤ 3) (hconfig : watchConfigOf signal threshold direction mode = some c)
include hunit hconfig

theorem takeSetWatch_busy (hsave : s.saving = true) :
    takeSetWatch unit signal threshold direction mode s = (s, .refuse .busy) := by
  simp [takeSetWatch, hconfig, Nat.not_lt.mpr hunit, hsave]

theorem takeSetWatch_ok (hsave : s.saving = false) :
    takeSetWatch unit signal threshold direction mode s = (s.withWcu (configured unit c s.wcu), .ok) := by
  simp [takeSetWatch, hconfig, Nat.not_lt.mpr hunit, hsave, configured]

end Accepted

/-! REARM_WATCH (R165). -/

theorem exec_rearmWatch (tag mask : Byte) (s : State) :
    exec (.rearmWatch tag mask) s = .next (request (some ⟨0x35, tag, [mask]⟩) (takeRearm mask) s) := rfl

theorem rearm_get (mask : Byte) (n : Fin 4) (s : State) :
    (rearm mask s).wcu.units.get n =
      { s.wcu.units.get n with armed := (s.wcu.units.get n).armed || mask.getLsbD n.1 } := by
  rw [rearm, State.withWcu_wcu, Tab.get_ofFn]
  cases hbit : mask.getLsbD n.1 <;> simp

/-- Settles O35: a unit by whether it fires, the two requests by what their owner answers on a free link. -/
theorem watchesRaiseOnTurn : Obligations.WatchesRaiseOnTurn := by
  refine ⟨fun u n s => ?atUpdate, fun tag unit signal direction mode mask threshold s hs =>
    ⟨fun hbad => ?range, fun hgood hsave => ?busy, fun hgood hsave => ?set, ?rearm⟩⟩
  case atUpdate =>
    refine ⟨?_, ?_, fun m hm => watchUnit_other u hm s, fun hturn => ?_, fun hquiet => ?_, watchUnit_frame u n s⟩
    · rw [watchUnit_same]
      rfl
    · rw [watchUnit_same]
      rfl
    · have hfires := (watchFires_iff u s (s.wcu.units.get n)).mpr hturn
      obtain ⟨-, -, harmed⟩ := hturn
      exact ⟨watchUnit_raised u n hfires, by rw [watchUnit_same, watchAfter_armed_of_fires hfires harmed]⟩
    · have hnot := mt (watchFires_iff u s (s.wcu.units.get n)).mp hquiet
      exact ⟨watchUnit_quiet u n hnot, by rw [watchUnit_same, watchAfter_armed_of_quiet hnot]⟩
  case range =>
    exact exec_answered (exec_setWatch tag unit signal direction mode threshold s) hs hs
      (takeSetWatch_range threshold hbad _)
  case busy =>
    obtain ⟨hunit, hcode, hdirection, hmode⟩ := hgood
    obtain ⟨sig, hsignal⟩ := Option.isSome_iff_exists.mp ((signal_isSome_iff _).mpr hcode)
    exact exec_answered (exec_setWatch tag unit signal direction mode threshold s) hs hs
      (takeSetWatch_busy hunit (watchConfigOf_some threshold hsignal hdirection hmode) (saving_of_saveRunning hsave))
  case set =>
    obtain ⟨hunit, hcode, hdirection, hmode⟩ := hgood
    obtain ⟨sig, hsignal⟩ := Option.isSome_iff_exists.mp ((signal_isSome_iff _).mpr hcode)
    refine ⟨configured unit _ s.wcu, sig, ?_, hsignal, configured_get hunit _ _⟩
    exact exec_answered (exec_setWatch tag unit signal direction mode threshold s) hs (free_withWcu hs _)
      (takeSetWatch_ok hunit (watchConfigOf_some threshold hsignal hdirection hmode) (not_saving_of_not_saveRunning hsave))
  case rearm =>
    exact ⟨(rearm mask s).wcu, exec_answered (exec_rearmWatch tag mask s) hs (free_withWcu hs _) rfl,
      fun n => rearm_get mask n s⟩

end Sys2Proof.WatchUnits
end

section
/-!
The notice unit's requests (R157 to R160): the sources that FETCH_NOTICES lists, and what ACK_NOTICES, SET_NOTICE_LEVELS and
SET_NOTICE_ENABLE check and write. The file settles O36 and O37.
-/

namespace Sys2Proof.NoticeRequests

open Sys2Proof.Machine Sys2Proof.Claims Sys2Proof.Requests Sys2Proof.TrimFilterMarks

theorem free_withNtu {s : State} (h : Free s) (v : Ntu) : Free (s.withNtu v) := h

/-! FETCH_NOTICES (R157). -/

theorem exec_fetchNotices (tag : Byte) (s : State) :
    exec (.fetchNotices tag) s = .next (request (some ⟨0x30, tag, []⟩) (fun s => reads (fetchBytes s) s) s) := rfl

/-- The latched sources of one level, which stand in number order. -/
theorem mem_latchedAt (s : State) (l : Nat) (n : Fin 24) :
    n ∈ (List.finRange 24).filter (fun n => (s.ntu.sources.get n).latched && (s.ntu.sources.get n).level == l) ↔
      (s.ntu.sources.get n).latched = true ∧ (s.ntu.sources.get n).level = l := by
  simp

theorem mem_latchedSources {s : State} (h : ∀ n, (s.ntu.sources.get n).level ≤ 7) (n : Fin 24) :
    n ∈ latchedSources s ↔ (s.ntu.sources.get n).latched = true := by
  have hlevel : (s.ntu.sources.get n).level ∈ [7, 6, 5, 4, 3, 2, 1, 0] := by
    have := h n
    simp only [List.mem_cons, List.not_mem_nil, or_false]
    omega
  simp only [latchedSources, List.mem_flatMap, mem_latchedAt]
  exact ⟨fun ⟨_, _, hlatched, _⟩ => hlatched, fun hlatched => ⟨_, hlevel, hlatched, rfl⟩⟩

/-- Level by level from 7 down, and by number within a level. -/
theorem latchedSources_ordered (s : State) :
    (latchedSources s).Pairwise fun a b =>
      (s.ntu.sources.get b).level < (s.ntu.sources.get a).level
      ∨ ((s.ntu.sources.get b).level = (s.ntu.sources.get a).level ∧ a < b) := by
  refine List.pairwise_flatMap.mpr ⟨fun l _ => ?within, ?across⟩
  case within =>
    have hnumbers := (List.pairwise_lt_finRange 24).filter
      (p := fun n => (s.ntu.sources.get n).latched && (s.ntu.sources.get n).level == l)
    refine hnumbers.imp_of_mem fun ha hb hab => .inr ⟨?_, hab⟩
    obtain ⟨-, hla⟩ := (mem_latchedAt s l _).mp ha
    obtain ⟨-, hlb⟩ := (mem_latchedAt s l _).mp hb
    rw [hla, hlb]
  case across =>
    have hlevels : [7, 6, 5, 4, 3, 2, 1, 0].Pairwise fun k l : Nat => l < k := by decide
    refine hlevels.imp fun {k l} hlk a ha b hb => .inl ?_
    obtain ⟨-, hka⟩ := (mem_latchedAt s k a).mp ha
    obtain ⟨-, hlb⟩ := (mem_latchedAt s l b).mp hb
    rwa [hka, hlb]

/-- Settles O36: the list is the model's own, and its bytes are the reply's payload. -/
theorem fetchOrdersByLevel : Obligations.FetchOrdersByLevel := by
  intro s hlevels
  exact ⟨latchedSources s, mem_latchedSources hlevels, latchedSources_ordered s, fun tag hs =>
    exec_answered (exec_fetchNotices tag s) hs hs rfl⟩

/-! ACK_NOTICES (R158). -/

/-- The checks of ACK_NOTICES on its list. -/
def SourcesGood (l : List Byte) : Prop := l ≠ [] ∧ l.length ≤ 24 ∧ ∀ b ∈ l, b.toNat ≤ 23

theorem exec_ackNotices (tag : Byte) (l : List Byte) (s : State) :
    exec (.ackNotices tag l) s = .next (request (some ⟨0x31, tag, l⟩) (takeAckNotices l) s) := rfl

theorem sourcesFault_iff (l : List Byte) :
    (l = [] ∨ 24 < l.length ∨ l.any (fun b => decide (23 < b.toNat)) = true) ↔ ¬ SourcesGood l := by
  simp [SourcesGood, not_and_or, -not_and]

theorem takeAckNotices_range {l : List Byte} (h : ¬ SourcesGood l) (s : State) :
    takeAckNotices l s = (s, .refuse .range) := if_pos ((sourcesFault_iff l).mpr h)

/-- The state after a list is acknowledged. -/
def acked (l : List Byte) (s : State) : State :=
  judgeAlert (s.withNtu { s.ntu with sources := (ackSources l s.ntu.sources).1 })

theorem takeAckNotices_good {l : List Byte} (h : SourcesGood l) (s : State) :
    takeAckNotices l s = (acked l s, .reply .ok (ackSources l s.ntu.sources).2) :=
  if_neg fun hfault => (sourcesFault_iff l).mp hfault h

/-- A byte below 24 names the source of its number. -/
theorem source_eq_iff {b : Byte} (h : b.toNat ≤ 23) (n : Fin 24) : Fin.ofNat 24 b.toNat = n ↔ b.toNat = n.1 := by
  rw [Fin.ext_iff, Fin.val_ofNat, Nat.mod_eq_of_lt (Nat.lt_succ_of_le h)]

theorem get_modify {α : Type} {n : Nat} (t : Tab α n) (i j : Fin n) (f : α → α) :
    (t.modify i f).get j = if i = j then f (t.get j) else t.get j := by
  rw [Tab.modify, Tab.get_set]
  split
  · next h => rw [h]
  · rfl

/-- A source named by the list is cleared, however often it is named; any other is as it was. -/
theorem ackSources_get {l : List Byte} (h : ∀ b ∈ l, b.toNat ≤ 23) (t : Tab Notice 24) (n : Fin 24) :
    (ackSources l t).1.get n = if ∃ b ∈ l, b.toNat = n.1 then (t.get n).clear else t.get n := by
  induction l generalizing t with
  | nil => simp [ackSources]
  | cons b rest ih =>
    obtain ⟨hb, hrest⟩ := List.forall_mem_cons.mp h
    have hrec := ih hrest (t.modify (Fin.ofNat 24 b.toNat) Notice.clear)
    simp only [ackSources, hrec, get_modify, source_eq_iff hb, List.exists_mem_cons_iff]
    by_cases hn : b.toNat = n.1 <;> simp [hn, Notice.clear]

theorem ackSources_length (l : List Byte) (t : Tab Notice 24) : (ackSources l t).2.length = l.length := by
  induction l generalizing t with
  | nil => rfl
  | cons b rest ih => simp [ackSources, ih]

/-- Each count is the one held when the list reaches its source: 0 where the list has named it before. -/
theorem ackSources_count {l : List Byte} (h : ∀ b ∈ l, b.toNat ≤ 23) (t : Tab Notice 24) (i : Nat) (b : Byte)
    (hi : l[i]? = some b) : (ackSources l t).2[i]? =
      some (if b ∈ l.take i then 0 else BitVec.ofNat 8 (t.get (Fin.ofNat 24 b.toNat)).count) := by
  induction l generalizing t i with
  | nil => simp at hi
  | cons a rest ih =>
    obtain ⟨ha, hrest⟩ := List.forall_mem_cons.mp h
    cases i with
    | zero =>
      obtain rfl : a = b := by simpa using hi
      simp [ackSources]
    | succ i =>
      have hi' : rest[i]? = some b := by simpa using hi
      have hb : b.toNat ≤ 23 := hrest b (List.mem_of_getElem? hi')
      have hname : Fin.ofNat 24 a.toNat = Fin.ofNat 24 b.toNat ↔ b = a := by
        rw [source_eq_iff ha, Fin.val_ofNat, Nat.mod_eq_of_lt (Nat.lt_succ_of_le hb), ← BitVec.toNat_inj, eq_comm]
      have hrec := ih hrest (t.modify (Fin.ofNat 24 a.toNat) Notice.clear) i hi'
      rw [ackSources, List.getElem?_cons_succ, hrec]
      simp only [get_modify, hname, List.take_succ_cons, List.mem_cons]
      by_cases hab : b = a <;> simp [hab, Notice.clear]

/-! SET_NOTICE_LEVELS (R160). -/

/-- The checks of SET_NOTICE_LEVELS on its list. -/
def LevelsGood (l : List (Byte × Byte)) : Prop := l ≠ [] ∧ l.length ≤ 24 ∧ ∀ p ∈ l, p.1.toNat ≤ 23 ∧ p.2.toNat ≤ 7

theorem exec_setNoticeLevels (tag : Byte) (l : List (Byte × Byte)) (s : State) :
    exec (.setNoticeLevels tag l) s = .next (request (some ⟨0x33, tag, l.flatMap levelBytes⟩) (takeSetLevels l) s) := rfl

theorem levelsFault_iff (l : List (Byte × Byte)) :
    (l = [] ∨ 24 < l.length ∨ l.any (fun p => decide (23 < p.1.toNat) || decide (7 < p.2.toNat)) = true) ↔
      ¬ LevelsGood l := by
  simp [LevelsGood, not_and_or, -not_and]

theorem takeSetLevels_range {l : List (Byte × Byte)} (h : ¬ LevelsGood l) (s : State) :
    takeSetLevels l s = (s, .refuse .range) := if_pos ((levelsFault_iff l).mpr h)

/-- The state after a list of levels is written. -/
def levelled (l : List (Byte × Byte)) (s : State) : State :=
  judgeAlert (s.withNtu { s.ntu with sources := putLevels l s.ntu.sources })

theorem takeSetLevels_good {l : List (Byte × Byte)} (h : LevelsGood l) (s : State) :
    takeSetLevels l s = if s.saving then (s, .refuse .busy) else (levelled l s, .ok) :=
  if_neg fun hfault => (levelsFault_iff l).mp hfault h

/-- The levels of a list are records written over the levels that stand; nothing else of a source changes. -/
theorem putLevels_eq (l : List (Byte × Byte)) (t : Tab Notice 24) (n : Fin 24) :
    (putLevels l t).get n = { t.get n with
      level := (writeAll (fun p => p.1.toNat) (fun p => p.2.toNat) l (t.map (·.level))).get n } := by
  induction l generalizing t with
  | nil => simp [putLevels, writeAll]
  | cons p rest ih =>
    have hlevels : (t.modify (Fin.ofNat 24 p.1.toNat) fun n => { n with level := p.2.toNat }).map (·.level) =
        (t.map (·.level)).set (Fin.ofNat 24 p.1.toNat) p.2.toNat := by
      refine Tab.ext_get fun i => ?_
      simp only [Tab.get_map, get_modify, Tab.get_set]
      split <;> rfl
    rw [putLevels, ih, hlevels, get_modify]
    split <;> rfl

theorem putLevels_get {l : List (Byte × Byte)} (h : LevelsGood l) (t : Tab Notice 24) (n : Fin 24) :
    (putLevels l t).get n = { t.get n with
      level := (l.reverse.find? fun p => p.1.toNat == n.1).elim (t.get n).level fun p => p.2.toNat } := by
  obtain ⟨-, -, hpairs⟩ := h
  rw [putLevels_eq, writeAll_get _ _ n l (fun p hp => Nat.lt_succ_of_le (hpairs p hp).1), Tab.get_map]

/-! SET_NOTICE_ENABLE (R159). -/

theorem takeSetEnable_busy (f : Fin 24 → Bool → Bool) {s : State} (hsave : s.saving = true) :
    takeSetEnable f s = (s, .refuse .busy) := if_pos hsave

theorem takeSetEnable_ok (f : Fin 24 → Bool → Bool) {s : State} (hsave : s.saving = false) :
    takeSetEnable f s = (mapEnables f s, .ok) := if_neg (by simp [hsave])

theorem mapEnables_get (f : Fin 24 → Bool → Bool) (s : State) (n : Fin 24) :
    (mapEnables f s).ntu.sources.get n =
      { s.ntu.sources.get n with enable := f n (s.ntu.sources.get n).enable } := Tab.get_ofFn _ n

/-- What a mode byte of SET_NOTICE_ENABLE does to an enable: 0 assigns the mask, 1 sets by it, 2 clears by it. -/
def enableBy (m : Byte) (mask : BitVec 24) (n : Fin 24) (e : Bool) : Bool :=
  if m = 0 then mask.getLsbD n.1 else if m = 1 then e || mask.getLsbD n.1 else e && !mask.getLsbD n.1

/-- Each of the three requests hands its owner the function of its mode. -/
theorem exec_setNoticeEnable {c : Instr} {m : Byte} (tag : Byte) (mask : BitVec 24)
    (h : (c, m) ∈ [(Instr.setNoticeEnableAssign tag mask, (0 : Byte)), (.setNoticeEnableSet tag mask, 1),
      (.setNoticeEnableClear tag mask, 2)]) (s : State) :
    exec c s = .next (request (some ⟨0x32, tag, m :: w24 mask⟩) (takeSetEnable (enableBy m mask)) s) := by
  simp only [List.mem_cons, Prod.mk.injEq, List.not_mem_nil, or_false] at h
  rcases h with ⟨rfl, rfl⟩ | ⟨rfl, rfl⟩ | ⟨rfl, rfl⟩
  · rfl
  · rfl
  · rfl

/-- A mode byte beyond CLEAR is refused (R159, R180). -/
theorem handle_setNoticeEnable_range (tag m : Byte) (mask : BitVec 24) (h : 2 < m.toNat) (s : State) :
    handle ⟨0x32, tag, m :: w24 mask⟩ s = (s, .refuse .range) := by
  have hdecode : decodeRequest ⟨0x32, tag, m :: w24 mask⟩ = .error .range := readMode_beyond m _ h
  rw [handle, hdecode]

/-- Settles O37: each request by what its owner answers on a free link, and what it leaves source by source. -/
theorem noticeSettingsTaken : Obligations.NoticeSettingsTaken := by
  refine ⟨fun tag s hs => ⟨fun l hbad => ?ackRange, fun l hne hlen hsources => ?ack, fun l hbad => ?levelsRange,
      fun l hne hlen hpairs => ⟨fun hsave => ?levelsBusy, fun hsave => ?levels⟩⟩,
    fun tag mask s hs => ⟨fun c m hc => ⟨fun hsave => ?enableBusy, fun hsave => ?enable⟩,
      fun m hm => handle_setNoticeEnable_range tag m mask hm s⟩⟩
  case ackRange =>
    refine exec_answered (exec_ackNotices tag l s) hs hs (takeAckNotices_range ?_ _)
    exact (sourcesFault_iff l).mp (by simpa using hbad)
  case ack =>
    exact ⟨acked l s, _,
      exec_answered (exec_ackNotices tag l s) hs (free_withNtu hs _) (takeAckNotices_good ⟨hne, hlen, hsources⟩ _),
      rfl, rfl, ackSources_length l _, ackSources_get hsources _, ackSources_count hsources _⟩
  case levelsRange =>
    refine exec_answered (exec_setNoticeLevels tag l s) hs hs (takeSetLevels_range ?_ _)
    exact (levelsFault_iff l).mp (by simpa using hbad)
  case levelsBusy =>
    refine exec_answered (exec_setNoticeLevels tag l s) hs hs ((takeSetLevels_good ⟨hne, hlen, hpairs⟩ _).trans ?_)
    exact if_pos (saving_of_saveRunning hsave)
  case levels =>
    have hidle : ¬ s.saving = true := mt (saving_iff s).mp hsave
    refine ⟨levelled l s, exec_answered (exec_setNoticeLevels tag l s) hs (free_withNtu hs _)
      ((takeSetLevels_good ⟨hne, hlen, hpairs⟩ _).trans (if_neg hidle)), rfl, rfl, fun n => ?_⟩
    refine (putLevels_get ⟨hne, hlen, hpairs⟩ s.ntu.sources n).trans ?_
    cases l.reverse.find? fun p => p.1.toNat == n.1 <;> rfl
  case enableBusy =>
    exact exec_answered (exec_setNoticeEnable tag mask hc s) hs hs (takeSetEnable_busy _ (saving_of_saveRunning hsave))
  case enable =>
    exact ⟨mapEnables (enableBy m mask) s, exec_answered (exec_setNoticeEnable tag mask hc s) hs (free_withNtu hs _)
      (takeSetEnable_ok _ (not_saving_of_not_saveRunning hsave)), rfl, rfl, mapEnables_get _ s⟩

end Sys2Proof.NoticeRequests
end

section
/-!
TRACE_CONTROL (R169): what each mode answers and leaves, and what a trigger taken in RECORDING leaves of the recorder (R167,
R168). The file settles O38.
-/

namespace Sys2Proof.TraceControl

open Sys2Proof.Machine Sys2Proof.Claims Sys2Proof.Requests

/-! A request writes the recorder or the notice unit: the link stays free. -/

theorem free_withTrc {s : State} (h : Free s) (v : Trc) : Free (s.withTrc v) := h

theorem free_takeTrigger {s : State} (h : Free s) (c : TriggerCause) : Free (takeTrigger c s) := by
  rw [takeTrigger_frame]
  exact h

/-! A trigger (R167, R168). -/

/-- The recorder after a trigger taken in RECORDING: with TRACE_POST = 0 the freeze follows at once. -/
theorem takeTrigger_trc (c : TriggerCause) {s : State} (h : s.trc.state = .recording) :
    (takeTrigger c s).trc = { s.trc with
      state := if s.parN .tracePost = 0 then .frozen else .triggered
      post := 0, position := s.trc.ring.getLast?.map (·.seq), cause := some c, time := some s.mfe.count } := by
  rw [takeTrigger, if_pos h, judgeFreeze]
  by_cases hpost : s.parN .tracePost = 0
  · rw [if_pos ⟨rfl, hpost.le⟩, if_pos hpost]
    rfl
  · rw [if_neg fun hdue => hpost (Nat.le_zero.mp hdue.2), if_neg hpost]
    rfl

/-- The arrival of a request touches nothing that the freeze reads or writes. -/
theorem judgeFreeze_arrive (f : Frame) (s : State) : judgeFreeze (arrive f s) = arrive f (judgeFreeze s) := by
  rw [judgeFreeze, judgeFreeze, apply_ite (arrive f)]
  rfl

theorem takeTrigger_arrive (f : Frame) (c : TriggerCause) (s : State) :
    takeTrigger c (arrive f s) = arrive f (takeTrigger c s) := by
  by_cases h : s.trc.state = .recording
  · rw [takeTrigger, takeTrigger, if_pos h, if_pos (show (arrive f s).trc.state = .recording from h), ← judgeFreeze_arrive]
    rfl
  · rw [takeTrigger, takeTrigger, if_neg h, if_neg (show (arrive f s).trc.state ≠ .recording from h)]

/-! The owner's answers, mode by mode. -/

theorem exec_arm (tag : Byte) (s : State) :
    exec (.traceControlArm tag) s = .next (request (some ⟨0x38, tag, [0]⟩) takeArm s) := rfl

theorem exec_disable (tag : Byte) (s : State) :
    exec (.traceControlDisable tag) s = .next (request (some ⟨0x38, tag, [1]⟩) takeDisable s) := rfl

theorem exec_trigger (tag : Byte) (s : State) :
    exec (.traceControlTrigger tag) s = .next (request (some ⟨0x38, tag, [2]⟩) takeTraceTrigger s) := rfl

theorem exec_setMask (tag : Byte) (mask : BitVec 24) (s : State) :
    exec (.traceControlSetMask tag mask) s = .next (request (some ⟨0x38, tag, 3 :: w24 mask⟩) (takeSetMask mask) s) := rfl

theorem takeTraceTrigger_state {s : State} (h : s.trc.state ≠ .recording) :
    takeTraceTrigger s = (s, .refuse .state) := if_neg h

theorem takeTraceTrigger_ok (f : Frame) {s : State} (h : s.trc.state = .recording) :
    takeTraceTrigger (arrive f s) = (arrive f (takeTrigger .request s), .ok) := by
  rw [← takeTrigger_arrive]
  exact if_pos h

theorem takeSetMask_busy (mask : BitVec 24) {s : State} (hsave : s.saving = true) :
    takeSetMask mask s = (s, .refuse .busy) := if_pos hsave

theorem takeSetMask_ok (mask : BitVec 24) {s : State} (hsave : s.saving = false) :
    takeSetMask mask s = (s.withTrc { s.trc with mask := mask }, .ok) := if_neg (by simp [hsave])

/-- A mode byte beyond SET_MASK is refused (R169, R180). -/
theorem handle_traceControl_range (tag m : Byte) (h : 3 < m.toNat) (s : State) :
    handle ⟨0x38, tag, [m]⟩ s = (s, .refuse .range) := by
  have hdecode : decodeRequest ⟨0x38, tag, [m]⟩ = .error .range := by
    change readTraceControl tag [m] = .error .range
    unfold readTraceControl
    split
    · contradiction
    · next n rest hcons =>
      obtain ⟨rfl, rfl⟩ := List.cons.inj hcons
      split
      · omega
      · omega
      · omega
      · omega
      · rfl
  rw [handle, hdecode]

/-- Settles O38: each mode by what its owner answers on a free link; a trigger by what it leaves of the recorder. -/
theorem traceControlActs : Obligations.TraceControlActs := by
  intro tag mask s hs
  refine ⟨?arm, ?disable, fun hstate => ?refused, fun hstate => ?triggered, fun hsave => ?busy, fun hsave => ?setMask,
    fun m hm => handle_traceControl_range tag m hm s⟩
  case arm => exact exec_answered (exec_arm tag s) hs (free_withTrc hs (Trc.atReset s.trc.mask)) rfl
  case disable => exact exec_answered (exec_disable tag s) hs (free_withTrc hs { s.trc with state := .idle }) rfl
  case refused => exact exec_answered (exec_trigger tag s) hs hs (takeTraceTrigger_state hstate)
  case triggered =>
    refine ⟨takeTrigger .request s,
      exec_answered (exec_trigger tag s) hs (free_takeTrigger hs _) (takeTraceTrigger_ok _ hstate), takeTrigger_frame _ s, ?_⟩
    rw [takeTrigger_trc _ hstate]
    by_cases hpost : s.parN .tracePost = 0
    · simp [hpost]
    · simp [hpost, Nat.pos_of_ne_zero hpost]
  case busy => exact exec_answered (exec_setMask tag mask s) hs hs (takeSetMask_busy mask (saving_of_saveRunning hsave))
  case setMask =>
    exact exec_answered (exec_setMask tag mask s) hs (free_withTrc hs _)
      (takeSetMask_ok mask (not_saving_of_not_saveRunning hsave))

end Sys2Proof.TraceControl
end

section
/-!
The requests that read a range or a list (R5, R53, R115, R133, R170, R182): the check of each owner, and what it answers when
its check passes. The file settles O40.
-/

namespace Sys2Proof.RangedReads

open Sys2Proof.Machine Sys2Proof.Claims Sys2Proof.Requests

/-! A request that only reads, behind its owner's check. -/

/-- On a free link a request whose owner reads when its check passes, and refuses with RANGE when it fails. -/
theorem read_answered {i : Instr} {s : State} {f : Frame} {owner : State → State × Answer} {ok : Prop}
    {payload : List Byte} (hs : Free s) (hexec : exec i s = .next (request (some f) owner s))
    (hread : ok → owner (arrive f s) = reads payload (arrive f s))
    (hrange : ¬ ok → owner (arrive f s) = (arrive f s, .refuse .range)) :
    (ok → exec i s = .next (answered f .ok payload s)) ∧ (¬ ok → exec i s = .next (answered f .range [] s)) :=
  ⟨fun h => exec_answered hexec hs hs (hread h), fun h => exec_answered hexec hs hs (hrange h)⟩

/-- The same of an owner that asks first for what its check forbids. -/
theorem guarded_read_answered {i : Instr} {s : State} {f : Frame} {owner : State → State × Answer} {fault ok : Prop}
    [Decidable fault] {payload : List Byte} (hs : Free s) (hexec : exec i s = .next (request (some f) owner s))
    (howner : owner (arrive f s) =
      if fault then (arrive f s, .refuse .range) else reads payload (arrive f s)) (hfault : fault ↔ ¬ ok) :
    (ok → exec i s = .next (answered f .ok payload s)) ∧ (¬ ok → exec i s = .next (answered f .range [] s)) :=
  read_answered hs hexec (fun h => howner.trans (if_neg fun hf => hfault.mp hf h))
    (fun h => howner.trans (if_pos (hfault.mpr h)))

/-! The commands as requests. -/

theorem exec_readSlots (tag a n : Byte) (s : State) :
    exec (.readSlots tag a n) s = .next (request (some ⟨0x19, tag, [a, n]⟩) (takeReadSlots a n) s) := rfl

theorem exec_readResponses (tag a n : Byte) (s : State) :
    exec (.readResponses tag a n) s = .next (request (some ⟨0x1B, tag, [a, n]⟩) (takeReadResponses a n) s) := rfl

theorem exec_readTrim (tag a n : Byte) (s : State) :
    exec (.readTrim tag a n) s = .next (request (some ⟨0x24, tag, [a, n]⟩) (takeReadTrim a n) s) := rfl

theorem exec_readHistory (tag a n : Byte) (s : State) :
    exec (.readHistory tag a n) s = .next (request (some ⟨0x28, tag, [a, n]⟩) (takeReadHistory a n) s) := rfl

theorem exec_readTrace (tag : Byte) (first : BitVec 16) (n : Byte) (s : State) :
    exec (.readTrace tag first n) s =
      .next (request (some ⟨0x39, tag, w16 first ++ [n]⟩) (takeReadTrace first n) s) := rfl

theorem exec_getParam (tag : Byte) (ids : List Byte) (s : State) :
    exec (.getParam tag ids) s = .next (request (some ⟨0x11, tag, ids⟩) (takeGetParam ids) s) := rfl

/-! GET_PARAM (R182). -/

/-- An id of the id table. -/
def InTable (b : Byte) : Prop := ∃ p : ParamId, p.info.code = b.toNat

/-- The record of an id: the id, and the value in force of its parameter. -/
def paramRecord (s : State) (b : Byte) : List Byte :=
  b :: (match ParamId.ofCode? b.toNat with
    | some p => bytesOfInt 4 (s.par p)
    | none => [])

theorem mem_all_params (p : ParamId) : p ∈ ParamId.all := List.mem_of_getElem? (ParamId.all_place p)

/-- The id table finds a parameter for exactly the ids in it. -/
theorem ofCode?_isSome_iff (b : Byte) : (ParamId.ofCode? b.toNat).isSome = true ↔ InTable b := by
  simp [ParamId.ofCode?, InTable, mem_all_params]

theorem readParams_inTable (s : State) {ids : List Byte} (h : ∀ b ∈ ids, InTable b) :
    readParams s ids = some (ids.flatMap (paramRecord s)) := by
  induction ids with
  | nil => rfl
  | cons b rest ih =>
    obtain ⟨hb, hrest⟩ := List.forall_mem_cons.mp h
    obtain ⟨p, hp⟩ := Option.isSome_iff_exists.mp ((ofCode?_isSome_iff b).mpr hb)
    simp [readParams, paramRecord, hp, ih hrest]

theorem readParams_not_inTable (s : State) {ids : List Byte} (h : ¬ ∀ b ∈ ids, InTable b) :
    readParams s ids = none := by
  induction ids with
  | nil => simp at h
  | cons b rest ih =>
    by_cases hb : InTable b
    · have hrest : ¬ ∀ b ∈ rest, InTable b := fun hall => h (List.forall_mem_cons.mpr ⟨hb, hall⟩)
      simp [readParams, ih hrest]
    · have hnone : ParamId.ofCode? b.toNat = none := by
        simpa using mt (ofCode?_isSome_iff b).mp hb
      simp [readParams, hnone]

/-- The check of GET_PARAM on its list. -/
def IdsGood (ids : List Byte) : Prop := ids ≠ [] ∧ ids.length ≤ 32 ∧ ∀ b ∈ ids, InTable b

theorem takeGetParam_good {ids : List Byte} (h : IdsGood ids) (s : State) :
    takeGetParam ids s = reads (ids.flatMap (paramRecord s)) s := by
  obtain ⟨hne, hlen, hids⟩ := h
  have hcheck : ¬ (ids = [] ∨ 32 < ids.length) := not_or.mpr ⟨hne, hlen.not_gt⟩
  simp [takeGetParam, if_neg hcheck, readParams_inTable s hids]

theorem takeGetParam_range {ids : List Byte} (h : ¬ IdsGood ids) (s : State) :
    takeGetParam ids s = (s, .refuse .range) := by
  by_cases hcheck : ids = [] ∨ 32 < ids.length
  · exact if_pos hcheck
  · obtain ⟨hne, hlen⟩ := not_or.mp hcheck
    have hids : ¬ ∀ b ∈ ids, InTable b := fun hall => h ⟨hne, not_lt.mp hlen, hall⟩
    simp [takeGetParam, readParams_not_inTable s hids]

/-- Settles O40: each request by its owner's check, and by the records that it reads behind it, which the arrival of the
request does not touch. -/
theorem rangedReadsChangeNothing : Obligations.RangedReadsChangeNothing := by
  intro tag a n first ids s hs
  refine ⟨?slots, ?responses, ?trims, ?history, ?trace, ?params⟩
  case slots => exact guarded_read_answered hs (exec_readSlots tag a n s) rfl (by omega)
  case responses => exact guarded_read_answered hs (exec_readResponses tag a n s) rfl (by omega)
  case trims => exact guarded_read_answered hs (exec_readTrim tag a n s) rfl (by omega)
  case history => exact guarded_read_answered hs (exec_readHistory tag a n s) rfl (by omega)
  case trace => exact guarded_read_answered hs (exec_readTrace tag first n s) rfl (by omega)
  case params =>
    exact read_answered hs (exec_getParam tag ids s) (fun h => takeGetParam_good h _) fun h => takeGetParam_range h _

end Sys2Proof.RangedReads
end

section
/-!
The receiver (R174, R176): what each of its states does with a byte, and what a dropped partial frame leaves. The file
settles O48.
-/

namespace Sys2Proof.Receiver

open Sys2Proof.Machine Sys2Proof.Claims

/-! A partial frame dropped (R176). -/

theorem dropFrame_raised (s : State) : Raised .linkFault s (dropFrame s) :=
  occur_source_same .linkFault _ (by decide)

theorem dropFrame_quiet (s : State) : QuietBut [.linkFault, .traceFrozen] s (dropFrame s) := by
  intro src hsrc
  obtain ⟨hfault, hfrozen⟩ : src ≠ .linkFault ∧ src ≠ .traceFrozen := by simpa using hsrc
  exact occur_source_other .linkFault _ _ (mt Source.num_injective hfault) (mt Source.num_injective hfrozen)

theorem dropFrame_frame (s : State) :
    dropFrame s = { s with
      lnk := { s.lnk with rx := .hunt, partialFrame := [], errors := min 65535 (s.lnk.errors + 1) }
      ntu := (dropFrame s).ntu, trc := (dropFrame s).trc } :=
  occur_frame .linkFault _

/-- A byte that the receiver answers with a drop. -/
theorem exec_dropped {c : Instr} {s : State} (h : exec c s = .next (dropFrame s)) :
    ∃ t, exec c s = .next t ∧ Raised .linkFault s t
      ∧ t = { s with lnk := { s.lnk with rx := .hunt, partialFrame := [], errors := min 65535 (s.lnk.errors + 1) }
                     ntu := t.ntu, trc := t.trc } :=
  ⟨dropFrame s, h, dropFrame_raised s, dropFrame_frame s⟩

/-! The commands of the receiver. -/

theorem exec_rxByte_awake (b : Byte) {s : State} (h : s.asleep = false) : exec (.rxByte b) s = .next (takeByte b s) :=
  congrArg Host.Outcome.next (if_neg (by simp [h]))

theorem exec_rxByte_asleep (b : Byte) {s : State} (h : s.asleep = true) : exec (.rxByte b) s = .next s :=
  congrArg Host.Outcome.next (if_pos h)

/-- A missing stop bit and a gap of more than 1 ms break the frame. -/
theorem exec_break {c : Instr} (hc : c = .rxFramingError ∨ c = .frameGapTimeout) {s : State} (h : s.asleep = false) :
    exec c s = .next (breakFrame s) := by
  have hawake : whileAwake breakFrame s = breakFrame s := if_neg (by simp [h])
  rcases hc with rfl | rfl
  · exact congrArg Host.Outcome.next hawake
  · exact congrArg Host.Outcome.next hawake

/-! A byte, by the receiver's state (R176). -/

theorem takeByte_hunt (b : Byte) {s : State} (h : s.lnk.rx = .hunt) :
    takeByte b s = if b = 0xC3 then s.withLnk { s.lnk with rx := .length, partialFrame := [] } else s := by
  simp only [takeByte, h]

theorem takeByte_length (b : Byte) {s : State} (h : s.lnk.rx = .length) :
    takeByte b s = if 2 ≤ b.toNat ∧ b.toNat ≤ 240 then s.withLnk { s.lnk with rx := .body, partialFrame := [b] }
      else dropFrame s := by
  simp only [takeByte, h]

theorem takeByte_body (b : Byte) {s : State} (h : s.lnk.rx = .body) :
    takeByte b s = s.withLnk { s.lnk with
      rx := if (s.lnk.partialFrame ++ [b]).length = (byteAt (s.lnk.partialFrame ++ [b]) 0).toNat + 1 then .crc else .body
      partialFrame := s.lnk.partialFrame ++ [b] } := by
  simp only [takeByte, h]

theorem takeByte_crc (b : Byte) {s : State} (h : s.lnk.rx = .crc) :
    takeByte b s =
      if s.lnk.partialFrame.length = (byteAt s.lnk.partialFrame 0).toNat + 1 then
        s.withLnk { s.lnk with partialFrame := s.lnk.partialFrame ++ [b] }
      else if intact s.lnk.partialFrame b then
        receive (heldFrame s.lnk.partialFrame) (s.withLnk { s.lnk with rx := .hunt, partialFrame := [] })
      else dropFrame s := by
  simp only [takeByte, h]

/-! The bytes held: the length byte first, the first CRC byte last. -/

theorem byteAt_zero (held : List Byte) : byteAt held 0 = held.headD 0 := by
  cases held <;> rfl

theorem headD_append {held : List Byte} (h : held ≠ []) (b : Byte) : (held ++ [b]).headD 0 = held.headD 0 := by
  cases held with
  | nil => contradiction
  | cons a rest => rfl

/-- In BODY the frame is whole once as many bytes as its length byte says stand behind that byte. -/
theorem takeByte_body_held (b : Byte) {s : State} (h : s.lnk.rx = .body) (hheld : s.lnk.partialFrame ≠ []) :
    takeByte b s = s.withLnk { s.lnk with
      rx := if s.lnk.partialFrame.length = (s.lnk.partialFrame.headD 0).toNat then .crc else .body
      partialFrame := s.lnk.partialFrame ++ [b] } := by
  rw [takeByte_body b h, byteAt_zero, headD_append hheld]
  simp

/-- The two bytes of a CRC spell it, low byte first (R175). -/
theorem crc_spelt_iff (c : BitVec 16) (low high : Byte) :
    c = BitVec.ofNat 16 (numOf [low, high]) ↔ c.toNat = low.toNat + 256 * high.toNat := by
  have hlow := low.isLt
  have hhigh := high.isLt
  rw [← BitVec.toNat_inj, BitVec.toNat_ofNat, Nat.mod_eq_of_lt (by simp only [numOf]; omega)]
  simp [numOf]

/-- With the first CRC byte held last, the frame is intact when the CRC of the bytes before it is the one received. -/
theorem intact_iff {held : List Byte} (h : held.length = (held.headD 0).toNat + 2) (high : Byte) :
    intact held high = true ↔
      (crc (held.take (held.length - 1))).toNat = (held.getD (held.length - 1) 0).toNat + 256 * high.toNat := by
  have hlast : held.length - 1 = (byteAt held 0).toNat + 1 := by
    rw [byteAt_zero]
    omega
  rw [hlast, ← crc_spelt_iff]
  exact beq_iff_eq

/-- The second CRC byte ends the frame. -/
theorem takeByte_crc_second (b : Byte) {s : State} (h : s.lnk.rx = .crc)
    (hlen : s.lnk.partialFrame.length = (s.lnk.partialFrame.headD 0).toNat + 2) :
    takeByte b s =
      if intact s.lnk.partialFrame b then
        receive (heldFrame s.lnk.partialFrame) (s.withLnk { s.lnk with rx := .hunt, partialFrame := [] })
      else dropFrame s := by
  rw [takeByte_crc b h, byteAt_zero]
  exact if_neg (by omega)

theorem heldFrame_eq (held : List Byte) :
    heldFrame held = ⟨held.getD 1 0, held.getD 2 0, (held.drop 3).take ((held.headD 0).toNat - 2)⟩ := by
  rw [heldFrame, byteAt_zero]
  rfl

/-- Settles O48: a byte by the receiver's state, a byte while the part sleeps, and what breaks a frame. -/
theorem receiverTakesBytes : Obligations.ReceiverTakesBytes := by
  refine ⟨fun b s hawake => ?byte, fun b s => exec_rxByte_asleep b,
    fun c s hc hawake => ⟨fun hrx => ?breakHunt, fun hrx => ?breakFrame⟩⟩
  case byte =>
    have hexec := exec_rxByte_awake b hawake
    refine ⟨fun hrx hb => ?marker, fun hrx hb => ?noMarker, fun hrx hlo hhi => ?len, fun hrx hlen => ?badLen,
      fun hrx hheld => ?body, fun hrx hlen => ?firstCrc, fun hrx hlen hcrc => ?badCrc, fun hrx hlen _ hcrc => ?goodCrc⟩
    case marker => rw [hexec, takeByte_hunt b hrx, if_pos hb]; rfl
    case noMarker => rw [hexec, takeByte_hunt b hrx, if_neg hb]
    case len => rw [hexec, takeByte_length b hrx, if_pos ⟨hlo, hhi⟩]; rfl
    case badLen => exact exec_dropped (by rw [hexec, takeByte_length b hrx, if_neg hlen])
    case body => rw [hexec, takeByte_body_held b hrx hheld]; rfl
    case firstCrc => rw [hexec, takeByte_crc b hrx, byteAt_zero, if_pos hlen]; rfl
    case badCrc =>
      exact exec_dropped (by rw [hexec, takeByte_crc_second b hrx hlen, if_neg (mt (intact_iff hlen b).mp hcrc)])
    case goodCrc =>
      rw [hexec, takeByte_crc_second b hrx hlen, if_pos ((intact_iff hlen b).mpr hcrc), heldFrame_eq]; rfl
  case breakHunt => rw [exec_break hc hawake, breakFrame, if_pos hrx]
  case breakFrame =>
    refine ⟨dropFrame s, ?_, dropFrame_raised s, dropFrame_quiet s, dropFrame_frame s⟩
    rw [exec_break hc hawake, breakFrame, if_neg hrx]

end Sys2Proof.Receiver
end

section
/-!
The governor's operations (chapter 6), each said once: a record changed, a copy taking effect, the search of an onset or
escalation, an onset, and the end of an episode with the run.
-/

namespace Sys2Proof.Governing

open Sys2Proof.Machine

/-! Records (R114). -/

theorem changeNewest_length (f : HistoryRecord → HistoryRecord) (h : List HistoryRecord) :
    (changeNewest f h).length = h.length := by
  cases h <;> rfl

theorem changeNewest_changeNewest (f g : HistoryRecord → HistoryRecord) (h : List HistoryRecord) :
    changeNewest f (changeNewest g h) = changeNewest (f ∘ g) h := by
  cases h <;> rfl

theorem changeOngoing_dgv (g : HistoryRecord → HistoryRecord) (s : State) :
    (changeOngoing g s).dgv = { s.dgv with
      history := changeNewest (fun r => if r.outcome = .ongoing then g r else r) s.dgv.history } := rfl

theorem changeOngoing_history_length (g : HistoryRecord → HistoryRecord) (s : State) :
    (changeOngoing g s).dgv.history.length = s.dgv.history.length := changeNewest_length _ _

theorem pushHistory_eq (h : List HistoryRecord) (r : HistoryRecord) : pushHistory h r = r :: h.take 15 := rfl

theorem pushHistory_length (h : List HistoryRecord) (r : HistoryRecord) : (pushHistory h r).length ≤ 16 := by
  rw [pushHistory_eq, List.length_cons, List.length_take]
  omega

/-! A copy taking effect (R100, R101, R103). -/

/-- The copy raises the episode block: its action is BLOCK, or it names RESEAT. -/
def blocks (c : GoverningCopy) : Bool := decide (c.resp.action = .block ∨ c.resp.mode = .reseat)

/-- The copy raises a reseat request: it names RESEAT, and the copy it replaces did not in this episode. -/
def requests (c : GoverningCopy) (renew : Bool) : Bool := c.resp.mode == .reseat && !renew

/-- A record under a copy that has taken effect. -/
def governed (c : GoverningCopy) (r : HistoryRecord) : HistoryRecord :=
  if r.outcome = .ongoing then { r with entry := c.ix, blocked := r.blocked || blocks c } else r

/-- The governor under a copy that has taken effect. -/
def dgvUnder (c : GoverningCopy) (d : Dgv) : Dgv :=
  { d with copy := some c, freeze := c.resp.mode == .freeze, block := d.block || blocks c
           history := changeNewest (governed c) d.history }

/-- The tracker once a copy has taken effect. -/
def atrUnder (c : GoverningCopy) (renew : Bool) (a : Atr) : Atr :=
  { a with reseatRequest := a.reseatRequest || requests c renew }

/-- The copy held and named in the open record, before it raises anything. -/
def named (c : GoverningCopy) (s : State) : State :=
  changeOngoing (fun r => { r with entry := c.ix })
    (s.withDgv { s.dgv with copy := some c, freeze := c.resp.mode == .freeze })

/-- The record's part of a copy that raises the episode block is one change of the newest record. -/
theorem governed_changes (c : GoverningCopy) (h : List HistoryRecord) : changeNewest (governed c) h =
    changeNewest (fun r => if r.outcome = .ongoing then { r with blocked := r.blocked || blocks c } else r)
      (changeNewest (fun r => if r.outcome = .ongoing then { r with entry := c.ix } else r) h) := by
  cases h with
  | nil => rfl
  | cons r rest => by_cases hr : r.outcome = .ongoing <;> simp [changeNewest, governed, hr]

theorem named_raised (c : GoverningCopy) (s : State) :
    (if c.resp.action = .block ∨ c.resp.mode = .reseat then raiseBlock (named c s) else named c s) =
      s.withDgv (dgvUnder c s.dgv) := by
  rw [dgvUnder, governed_changes]
  by_cases hb : c.resp.action = .block ∨ c.resp.mode = .reseat
  · have hblocks : blocks c = true := decide_eq_true hb
    simp only [if_pos hb, raiseBlock, named, changeOngoing, State.withDgv, hblocks, Bool.or_true]
  · have hblocks : blocks c = false := decide_eq_false hb
    have hsame (h : List HistoryRecord) :
        changeNewest (fun r => if r.outcome = .ongoing then { r with blocked := r.blocked || false } else r) h = h := by
      cases h <;> simp [changeNewest]
    rw [if_neg hb, hblocks, hsame, Bool.or_false]
    rfl

theorem takeCopy_eq (c : GoverningCopy) (renew : Bool) (s : State) :
    takeCopy c renew s = ((s.withDgv (dgvUnder c s.dgv)).withAtr (atrUnder c renew s.atr),
      if c.resp.action = .trip then some (.response c.ix) else none) := by
  unfold takeCopy
  dsimp only
  erw [named_raised c s]
  congr 1
  cases hr : requests c renew with
  | true => rw [if_pos (by simpa [requests] using hr), atrUnder, hr, Bool.or_true]; rfl
  | false => rw [if_neg (by simpa [requests] using hr), atrUnder, hr, Bool.or_false]; rfl

/-! The search of an onset or escalation (R122 to R126). -/

theorem searchAndTake_eq (k : Kind) (band : Nat) (renew : Bool) (s : State) :
    searchAndTake k band renew s =
      takeCopy (searchResult k band s) renew (markEntry (searchResult k band s).ix (fun m => { m with used := true }) s) :=
  rfl

theorem searchAndTake_dgv (k : Kind) (band : Nat) (renew : Bool) (s : State) :
    (searchAndTake k band renew s).1.dgv = dgvUnder (searchResult k band s) s.dgv := by
  rw [searchAndTake_eq, takeCopy_eq]; simp

theorem searchAndTake_atr (k : Kind) (band : Nat) (renew : Bool) (s : State) :
    (searchAndTake k band renew s).1.atr = atrUnder (searchResult k band s) renew s.atr := by
  rw [searchAndTake_eq, takeCopy_eq]; simp

theorem searchAndTake_entries (k : Kind) (band : Nat) (renew : Bool) (s : State) :
    (searchAndTake k band renew s).1.rtb.entries = s.rtb.entries := by
  rw [searchAndTake_eq, takeCopy_eq]; simp

theorem searchAndTake_trc (k : Kind) (band : Nat) (renew : Bool) (s : State) :
    (searchAndTake k band renew s).1.trc = s.trc := searchAndTake_changes k band renew s .trc (by decide)

theorem searchAndTake_asks (k : Kind) (band : Nat) (renew : Bool) (s : State) :
    (searchAndTake k band renew s).2 = if (searchResult k band s).resp.action = .trip
      then some (.response (searchResult k band s).ix) else none := by
  rw [searchAndTake_eq, takeCopy_eq]

/-! An onset (R98, R99). -/

/-- The band that an onset reports. -/
def onsetBand (u : AngleUpdate) (s : State) : Nat :=
  bandOf (classify s u) (s.dgv.runExtremes.getD (extremesOf s u))

/-- The record of an onset, as it is opened. -/
def onsetRecord (u : AngleUpdate) (s : State) : HistoryRecord :=
  ⟨s.dgv.nextNumber, u.set.count, classify s u, classify s u, onsetBand u s, .none, false, false, .ongoing, none⟩

/-- The onset's record opened. -/
def recorded (u : AngleUpdate) (s : State) : State :=
  s.withDgv { s.dgv with
    history := pushHistory s.dgv.history (onsetRecord u s), nextNumber := s.dgv.nextNumber + 1 }

/-- EPISODE entered, no copy taken yet. -/
def opened (u : AngleUpdate) (s : State) : State :=
  (recorded u s).withDgv { (recorded u s).dgv with
    state := .episode, kind := some (classify s u), band := onsetBand u s
    extremes := some (s.dgv.runExtremes.getD (extremesOf s u)), start := u.set.count, expired := false, block := false
    cCount := 0, recovery := 0, dCount := 0, runExtremes := none, rideOut := true }

theorem onset_eq (u : AngleUpdate) (s : State) : onset u s =
    if s.parN .repeatMax < recordsInWindow (recorded u s) u.set.count then tripRepeat (recorded u s)
    else (occur .episodeOnset (searchAndTake (classify s u) (onsetBand u s) false (opened u s)).1,
      (searchAndTake (classify s u) (onsetBand u s) false (opened u s)).2) := rfl

/-- The repeat test leaves the governor in STEADY with the newest record closed (R99). -/
theorem tripRepeat_dgv (s : State) : (tripRepeat s).1.dgv =
    { (changeOngoing (fun r => { r with outcome := .tripped, entry := .none, duration := some 0 }) s).dgv with
      state := .steady, copy := none, kind := none, rideOut := false, recovery := 0, dCount := 0, runExtremes := none } := by
  simp [tripRepeat, clearRun]

/-! The escalation (R105). -/

/-- The kind that an update leaves: its own where it is disturbed and outranks the kind held. -/
def seenKind (u : AngleUpdate) (s : State) : Kind :=
  if disturbanceD s u ∧ (classify s u).rank < (s.dgv.kind.getD .freqDev).rank then classify s u
  else s.dgv.kind.getD .freqDev

/-- The band that an update leaves. -/
def seenBand (u : AngleUpdate) (s : State) : Nat :=
  max s.dgv.band (bandOf (seenKind u s) (s.dgv.extremes.getD (extremesOf s u)))

/-- The kind or the band rises. -/
def Rises (u : AngleUpdate) (s : State) : Prop :=
  seenKind u s ≠ s.dgv.kind.getD .freqDev ∨ s.dgv.band < seenBand u s

/-- Kind and band risen, no copy taken yet. -/
def risen (u : AngleUpdate) (s : State) : State :=
  changeOngoing (fun r => { r with kind := seenKind u s, band := seenBand u s })
    (s.withDgv { s.dgv with kind := some (seenKind u s), band := seenBand u s })

theorem escalate_rises {u : AngleUpdate} {s : State} (h : Rises u s) : escalate u s =
    (occur .episodeEscalate (searchAndTake (seenKind u s) (seenBand u s) (copyReseats (risen u s)) (risen u s)).1,
      (searchAndTake (seenKind u s) (seenBand u s) (copyReseats (risen u s)) (risen u s)).2) := if_pos h

theorem escalate_holds {u : AngleUpdate} {s : State} (h : ¬ Rises u s) : escalate u s = (s, none) := if_neg h

/-! The expiry (R106). -/

/-- The hold has expired, on_expiry not taken yet. -/
def holdExpired (s : State) : State :=
  changeOngoing (fun r => { r with expired := true }) (s.withDgv { s.dgv with expired := true })

theorem expire_no_copy {s : State} (h : s.dgv.copy = none) : expire s = (holdExpired s, none) := by
  unfold expire
  rw [h]
  rfl

theorem expire_trip {s : State} {c : GoverningCopy} (h : s.dgv.copy = some c) (ht : c.resp.onExpiry = .trip) :
    expire s = (holdExpired s, some (.expiry c.ix)) := by
  unfold expire
  rw [h]
  dsimp only
  rw [ht]
  rfl

theorem expire_block {s : State} {c : GoverningCopy} (h : s.dgv.copy = some c) (hb : c.resp.onExpiry = .block) :
    expire s = (occur .episodeExpired (raiseBlock (holdExpired s)), none) := by
  unfold expire
  rw [h]
  dsimp only
  rw [hb]
  rfl

/-- What the expiry of a hold leaves: the hold expired, and with on_expiry BLOCK the episode block and its notice. -/
theorem expire_cases (s : State) : (expire s).1 = holdExpired s
    ∨ (expire s).1 = occur .episodeExpired (raiseBlock (holdExpired s)) := by
  cases hcopy : s.dgv.copy with
  | none => rw [expire_no_copy hcopy]; exact .inl rfl
  | some c =>
    cases he : c.resp.onExpiry with
    | trip => rw [expire_trip hcopy he]; exact .inl rfl
    | block => rw [expire_block hcopy he]; exact .inr rfl

/-! The clear (R109). -/

/-- The index of the copy held, NONE when none is. -/
def copyIx (s : State) : EntryIx :=
  match s.dgv.copy with
  | some c => c.ix
  | none => .none

/-- The record closed as RODE, the rode mark set and a reseat request not yet taken withdrawn. -/
def ridden (u : AngleUpdate) (s : State) : State :=
  let t := markEntry (copyIx s) (fun m => { m with rode := true }) (changeOngoing (closeRecord .rode u.set.count) s)
  t.withAtr { t.atr with reseatRequest := false }

/-- The governor in RECOVERY, at t = 0. -/
def recovering (d : Dgv) : Dgv :=
  { d with state := .recovery, recovery := 0, freeze := false, block := false, cCount := 0, extremes := none }

theorem clearEpisode_eq (u : AngleUpdate) (s : State) :
    clearEpisode u s = occur .episodeClear ((ridden u s).withDgv (recovering (ridden u s).dgv)) := rfl

theorem ridden_dgv (u : AngleUpdate) (s : State) :
    (ridden u s).dgv = (changeOngoing (closeRecord .rode u.set.count) s).dgv := by
  simp [ridden]

/-! The end of an episode with the run (R113). -/

/-- The governor once an episode or recovery has ended with the run: idle, its history as the end leaves it. -/
theorem endEpisode_open {s : State} (h : s.dgv.state ≠ .steady) : (endEpisode s).dgv =
    { s.dgv with
      state := .steady, copy := none, kind := none, rideOut := false, freeze := false, block := false
      dCount := 0, cCount := 0, runExtremes := none, extremes := none, recovery := 0
      history := if s.dgv.state = .episode then
          changeNewest (fun r => if r.outcome = .ongoing then
            closeRecord (if endsTripped s then .tripped else .ended) s.mfe.count r else r) s.dgv.history
        else s.dgv.history } := by
  unfold endEpisode
  split
  · exact absurd ‹_› h
  · by_cases he : s.dgv.state = .episode
    · by_cases ht : endsTripped s = true <;> simp [he, ht, changeOngoing_dgv]
    · simp [he]

theorem endEpisode_history_length (s : State) : (endEpisode s).dgv.history.length = s.dgv.history.length := by
  by_cases h : s.dgv.state = .steady
  · rw [LeavingRun.endEpisode_steady h]; rfl
  · rw [endEpisode_open h]
    dsimp only
    split
    · exact changeNewest_length _ _
    · rfl

theorem endEpisode_entries (s : State) : (endEpisode s).rtb.entries = s.rtb.entries := by
  unfold endEpisode
  split
  · rfl
  · dsimp only
    split
    · split
      · simp
      · rfl
    · rfl

end Sys2Proof.Governing
end

section
/-!
One conversion set as one equation (R1, R6, R10, R17): the set that it completes, the filtered set that the bank makes of it
and the angle update that the tracker publishes are always there, so the three parts follow one another.
-/

namespace Sys2Proof.OneSet

open Sys2Proof.Machine

/-- The trimmed set that a conversion set completes (R3, R6). -/
def trimmedOf (raw : RawSet) (s : State) : TrimmedSet :=
  ⟨s.mfe.count + 1, Tab.ofFn fun i => trimValue (s.mfe.trims.get i) ((rawTab raw).get i)⟩

/-- The front end once a conversion set is completed (R1, R2, R3). -/
def mfeAfter (raw : RawSet) (s : State) : Mfe :=
  { s.mfe with
    count := s.mfe.count + 1
    raw := some (rawTab raw)
    clips := Tab.ofFn fun i =>
      if isClip ((rawTab raw).get i) then satInc 65535 (s.mfe.clips.get i) else s.mfe.clips.get i
    trimmed := some (trimmedOf raw s) }

theorem completeSet_eq (raw : RawSet) (s : State) : completeSet raw s =
    if (rawTab raw).list.any isClip then occur .adcClip (s.withMfe (mfeAfter raw s)) else s.withMfe (mfeAfter raw s) :=
  rfl

theorem completeSet_mfe (raw : RawSet) (s : State) : (completeSet raw s).mfe = mfeAfter raw s := by
  rw [completeSet_eq]
  split <;> simp

/-- The state that the filter bank sees: the set completed, and checked where the check comes first (R143, log 4). -/
def checked (raw : RawSet) (s : State) : State :=
  if s.order.tripFirst then settleAt s.order 0 (tripCheck (completeSet raw s)) else completeSet raw s

theorem checked_changes (raw : RawSet) (s : State) :
    Changes [.rct, .crg, .fls, .dgv, .rtb, .ntu, .trc] (completeSet raw s) (checked raw s) := by
  unfold checked
  split
  · exact (tripCheck_changes _).trans (settleAt_changes _ _ _)
  · exact .refl _ _

theorem checked_mfe (raw : RawSet) (s : State) : (checked raw s).mfe = mfeAfter raw s :=
  (checked_changes raw s .mfe (by decide)).trans (completeSet_mfe raw s)

theorem conversionSet_eq (raw : RawSet) (s : State) :
    conversionSet raw s = (filterAndTrack (trimmedOf raw s) (checked raw s)).dropOrder := by
  have htrimmed : (checked raw s).mfe.trimmed = some (trimmedOf raw s) := by rw [checked_mfe]; rfl
  rw [checked] at htrimmed ⊢
  unfold conversionSet
  dsimp only
  rw [htrimmed]

/-- The filtered set that the bank makes of a trimmed set (R10). -/
def filteredOf (t : TrimmedSet) (s : State) : FilteredSet :=
  if s.ffb.enabled then
    filteredSet t (Tab.ofFn fun i => (FilterBank.channelRun t s i).2.1)
      (Tab.ofFn fun i => residualOf (t.values.get (voltageChannel i)) (FilterBank.channelRun t s i).2.1)
  else filteredSet t (Tab.ofFn fun i => t.values.get (voltageChannel i)) (Tab.fill 3 0)

theorem filterSet_filtered (t : TrimmedSet) (s : State) : (filterSet t s).ffb.filtered = some (filteredOf t s) := by
  unfold filteredOf
  by_cases h : s.ffb.enabled = true
  · rw [FilterBank.filterSet_ffb_enabled t s h, if_pos h]; rfl
  · rw [FilterBank.filterSet_disabled t s (Bool.eq_false_iff.mpr h), if_neg h]; rfl

theorem filterAndTrack_eq (t : TrimmedSet) (s : State) :
    filterAndTrack t s = trackAndTake (filteredOf t s) (filterSet t s) := by
  unfold filterAndTrack
  dsimp only
  rw [filterSet_filtered]

/-- P and W that a filtered set leaves. -/
def loopOf (f : FilteredSet) (s : State) : Nat × Nat :=
  loopStep s (verdictOf f s) (measuredAngle f s) (trackingError f s)

/-- The running pair and u_last that a filtered set leaves. -/
def halfCycleOf (f : FilteredSet) (s : State) : Option (Nat × Nat) × Nat :=
  halfCycle s.atr.running s.atr.uLast (measuredMagnitude f s) (s.atr.p / 256) ((loopOf f s).1 / 256) (verdictOf f s).reseat

/-- The angle update that the tracker publishes for a filtered set. -/
def updateOf (f : FilteredSet) (s : State) : AngleUpdate :=
  angleUpdateOf f s (verdictOf f s) (loopOf f s) (trackingError f s) (measuredMagnitude f s) (halfCycleOf f s).2

/-- The tracker after a filtered set. -/
def atrAfter (f : FilteredSet) (s : State) : Atr :=
  { s.atr with
    thetaMeas := measuredAngle f s, m := measuredMagnitude f s, p := (loopOf f s).1, w := (loopOf f s).2
    e := (updateOf f s).e, state := (verdictOf f s).state, seated := (verdictOf f s).seated
    lockCount := (verdictOf f s).lockCount, holdCount := (verdictOf f s).holdCount, reseatRequest := false
    running := (halfCycleOf f s).1, uLast := (halfCycleOf f s).2, last := some (updateOf f s) }

theorem trackerUpdate_eq (f : FilteredSet) (s : State) :
    trackerUpdate f s = occurIf (verdictOf f s).notice (s.withAtr (atrAfter f s)) := rfl

theorem trackerUpdate_atr (f : FilteredSet) (s : State) : (trackerUpdate f s).atr = atrAfter f s := by
  rw [trackerUpdate_eq, occurIf_atr]; rfl

theorem trackAndTake_eq (f : FilteredSet) (s : State) :
    trackAndTake f s = takeUpdate (updateOf f s) (trackerUpdate f s) := by
  have hlast : (trackerUpdate f s).atr.last = some (updateOf f s) := by rw [trackerUpdate_atr]; rfl
  unfold trackAndTake
  dsimp only
  rw [hlast]

/-- A conversion set from its completion to the blocks that take its angle update. -/
theorem conversionSet_takes (raw : RawSet) (s : State) :
    let v := filterSet (trimmedOf raw s) (checked raw s)
    let f := filteredOf (trimmedOf raw s) (checked raw s)
    conversionSet raw s = (takeUpdate (updateOf f v) (trackerUpdate f v)).dropOrder := by
  dsimp only
  rw [conversionSet_eq, filterAndTrack_eq, trackAndTake_eq]

end Sys2Proof.OneSet
end

section
/-!
A load (R190): what an item and a table of items come to, where each item of the image comes from, and the end of a load as
the image installed, the power-on values taken from it, and the store's own part.
-/

namespace Sys2Proof.Loading

open Sys2Proof.Machine

/-! Items. -/

/-- What holds of the default and of every value that the item's range allows holds of the item loaded. -/
theorem loadItem_holds {α : Type} {P : α → Prop} {rs : List RowRead} {i : Item} {parse : List Byte → Option α} {dflt : α}
    (hdflt : P dflt) (hparse : ∀ bs v, parse bs = some v → P v) : P (loadItem rs i parse dflt).1 := by
  unfold loadItem
  split
  · exact hdflt
  · split
    · next v hv => exact hparse _ v hv
    · exact hdflt

theorem loadTab_get {α : Type} {n : Nat} (f : Fin n → α × List Nat) (i : Fin n) : (loadTab f).1.get i = (f i).1 := by
  simp [loadTab]

/-- A parameter as loaded. -/
def loadedParam (rs : List RowRead) (p : ParamId) : Int × List Nat :=
  loadItem rs (.param p) (fun bs => let v := intOfBytes bs; if p.inRange v then some v else none) p.info.dflt

theorem tab_get_of_getElem? {α : Type} {n : Nat} {t : Tab α n} {i : Fin n} {v : α} (h : t.list[i.1]? = some v) :
    t.get i = v := (List.getElem?_eq_some_iff.mp h).2

theorem loadImage_param (rs : List RowRead) (p : ParamId) :
    (loadImage rs).1.params.get p.place = (loadedParam rs p).1 :=
  tab_get_of_getElem? (by
    show ((ParamId.all.map (loadedParam rs)).map (·.1))[p.place.1]? = _
    rw [List.map_map, List.getElem?_map, ParamId.all_place]
    rfl)

theorem loadImage_response (rs : List RowRead) (i : Fin 32) : (loadImage rs).1.responses.get i =
    (loadItem rs (.response i) (fun bs => responseOfRec (responseRecOf bs)) ResponseEntry.dflt).1 :=
  loadTab_get _ i

theorem inRange_default (p : ParamId) : p.inRange p.info.dflt = true := by cases p <;> rfl

/-- Every parameter that a load installs lies in its range (R190). -/
theorem loadImage_inRange (rs : List RowRead) (p : ParamId) :
    p.inRange ((loadImage rs).1.params.get p.place) = true := by
  rw [loadImage_param]
  refine loadItem_holds (P := fun v => p.inRange v = true) (inRange_default p) fun bs v hv => ?_
  dsimp only at hv
  split at hv
  · next h => exact Option.some.inj hv ▸ h
  · cases hv

/-- The i_limit of an entry that a record gives lies in its range (R131). -/
theorem responseOfRec_limited {r : ResponseRec} {e : ResponseEntry} (h : responseOfRec r = some e) :
    e.resp.iLimit ≤ 4096 := by
  unfold responseOfRec at h
  split at h
  · split at h
    · next hrange =>
      obtain ⟨-, hlimit, -⟩ := hrange
      obtain rfl := Option.some.inj h
      exact hlimit
    · cases h
  · cases h

theorem loadImage_limited (rs : List RowRead) (i : Fin 32) : ((loadImage rs).1.responses.get i).resp.iLimit ≤ 4096 := by
  rw [loadImage_response]
  exact loadItem_holds (P := fun e : ResponseEntry => e.resp.iLimit ≤ 4096) (Nat.zero_le _) fun _ _ =>
    responseOfRec_limited

/-! The load's end. -/

/-- The rows as a load reads them. -/
def readRows (s : State) : Tab RowRead 512 := s.sst.rows.map readRow

/-- The image that the rows give, with the rows marked bad for values out of range. -/
def imageOf (s : State) : Settings × List Nat := loadImage (readRows s).list

/-- The image installed, with what the load at power-on adds. -/
def installed (s : State) : State :=
  if s.sst.activity = .powerOnLoad then seedFromParams (installSettings (imageOf s).1 s)
  else installSettings (imageOf s).1 s

/-- The store after the load, ALERT judged. -/
def finished (s : State) : State :=
  judgeAlert ((installed s).withSst (sstAfterLoad (installed s).sst (readRows s) (imageOf s).2))

theorem finishLoad_eq (s : State) :
    finishLoad s = occurTimes ((finished s).sst.bad.list.countP id) .storeFault (finished s) := rfl

theorem occurTimes_changes (n : Nat) (src : Source) (s : State) : Changes [.ntu, .trc] s (occurTimes n src s) := by
  induction n generalizing s with
  | zero => exact .refl _ s
  | succ n ih => exact ((occur_changes src s).mono (by decide)).trans (ih _)

/-- Over a field that neither the notices nor the store's part touch, the end of a load is the image installed. -/
theorem finishLoad_changes (s : State) : Changes [.sst, .ntu, .trc] (installed s) (finishLoad s) := by
  rw [finishLoad_eq]
  have hstore : Changes [.sst, .ntu, .trc] (installed s) (finished s) :=
    ((Changes.withSst (installed s) _).mono (by decide)).trans ((Changes.withNtu _ _).mono (by decide))
  exact hstore.trans ((occurTimes_changes _ _ _).mono (by decide))

theorem finishLoad_sst (s : State) : (finishLoad s).sst = (finished s).sst := by
  rw [finishLoad_eq, occurTimes_sst]

/-- What a load leaves of the blocks that hold no settings (R134, R172). -/
theorem installSettings_changes (c : Settings) (s : State) :
    Changes [.params, .mfe, .ffb, .ssq, .rtb, .ntu, .wcu, .trc, .crg, .fls] s (installSettings c s) := by
  intro f hf
  cases f <;> first | rfl | exact absurd (by decide) hf

theorem seedFromParams_changes (s : State) : Changes [.atr, .crg, .fls] s (seedFromParams s) := by
  intro f hf
  cases f <;> first | rfl | exact absurd (by decide) hf

theorem installed_changes (s : State) :
    Changes [.params, .mfe, .ffb, .ssq, .rtb, .ntu, .wcu, .trc, .atr, .crg, .fls] s (installed s) := by
  unfold installed
  split
  · exact ((installSettings_changes _ s).mono (by decide)).trans ((seedFromParams_changes _).mono (by decide))
  · exact (installSettings_changes _ s).mono (by decide)

/-- The two readings of an installed state: as the load at power-on leaves it, and as LOAD_SETTINGS does. -/
theorem installed_holds {P : State → Prop} {s : State} (hload : P (installSettings (imageOf s).1 s))
    (hseed : P (seedFromParams (installSettings (imageOf s).1 s))) : P (installed s) := by
  unfold installed
  split
  · exact hseed
  · exact hload

end Sys2Proof.Loading
end

section
/-!
What every command keeps: the promises of Sys2Proof/Safety.lean, each by itself, over every operation of the part. `Keeps`
says that an operation keeps each of them, and is proved of each operation once, in the order of the model; the step lemmas
are read off from it. The file settles O55, O57, O58, O59 and O60.
-/

namespace Sys2Proof.Promises

open Sys2Proof.Machine

/-! The relation. -/

/-- Each promise that holds of `s` holds of `t`. While an operation is under way the firing list may be behind the union of
block reasons, so its promise here is `NoneHeld`, which `settle` completes to `ListSettled`. -/
structure Keeps (s t : State) : Prop where
  list : s.NoneHeld → t.NoneHeld
  governor : s.GovernorSound → t.GovernorSound
  setpoints : s.SetpointsOff → t.SetpointsOff
  limited : s.Limited → t.Limited
  tracker : s.TrackerInRange → t.TrackerInRange
  params : s.ParamsInRange → t.ParamsInRange
  buffers : s.BuffersInRange → t.BuffersInRange

theorem Keeps.refl (s : State) : Keeps s s := ⟨id, id, id, id, id, id, id⟩

theorem Keeps.trans {s t u : State} (h : Keeps s t) (k : Keeps t u) : Keeps s u :=
  ⟨k.list ∘ h.list, k.governor ∘ h.governor, k.setpoints ∘ h.setpoints, k.limited ∘ h.limited, k.tracker ∘ h.tracker,
    k.params ∘ h.params, k.buffers ∘ h.buffers⟩

/-- A choice between two operations. -/
theorem Keeps.ite {c : Prop} [Decidable c] {s t u : State} (ht : c → Keeps s t) (hu : ¬ c → Keeps s u) :
    Keeps s (if c then t else u) := by
  split
  · next h => exact ht h
  · next h => exact hu h

/-- A choice between two operations that answer something beside the state. -/
theorem Keeps.ite_fst {α : Type} {c : Prop} [Decidable c] {s : State} {r q : State × α} (hr : c → Keeps s r.1)
    (hq : ¬ c → Keeps s q.1) : Keeps s (if c then r else q).1 := by
  split
  · next h => exact hr h
  · next h => exact hq h

/-! What each promise depends on. -/

theorem governorSound_congr {s t : State} (hd : t.dgv = s.dgv) (hr : s.running = true → t.running = true)
    (h : s.GovernorSound) : t.GovernorSound := by
  obtain ⟨hrun, hrest⟩ := h
  rw [State.GovernorSound, hd]
  exact ⟨fun hs => hr (hrun hs), hrest⟩

/-- In EPISODE the promises about the episode block and the freeze request hold of themselves. -/
theorem governorSound_of_episode {t : State} (hrun : t.running = true) (hstate : t.dgv.state = .episode)
    (hride : t.dgv.rideOut = true) (hcopy : t.dgv.copy.isSome = true) (hkind : t.dgv.kind.isSome = true) :
    t.GovernorSound := by
  simp [State.GovernorSound, hrun, hstate, hride, hcopy, hkind]

/-- In STEADY nothing of an episode is held. -/
theorem governorSound_of_steady {t : State} (hstate : t.dgv.state = .steady) (hride : t.dgv.rideOut = false)
    (hcopy : t.dgv.copy = none) (hkind : t.dgv.kind = none) (hblock : t.dgv.block = false)
    (hfreeze : t.dgv.freeze = false) : t.GovernorSound := by
  simp [State.GovernorSound, hstate, hride, hcopy, hkind, hblock, hfreeze]

/-- Outside EPISODE a sound governor raises neither the episode block nor the freeze request. -/
theorem GovernorSound.quiet {s : State} (h : s.GovernorSound) (hstate : s.dgv.state ≠ .episode) :
    s.dgv.block = false ∧ s.dgv.freeze = false := by
  obtain ⟨-, -, -, -, hepisode⟩ := h
  constructor
  · exact Bool.eq_false_iff.mpr fun hb => hstate (hepisode (.inl hb))
  · exact Bool.eq_false_iff.mpr fun hf => hstate (hepisode (.inr hf))

/-- No target and no setpoint has risen. -/
def Lowered (s t : State) : Prop :=
  ∀ b, (t.crg.bridges.get b).target ≤ (s.crg.bridges.get b).target
    ∧ (t.crg.bridges.get b).setpoint ≤ (s.crg.bridges.get b).setpoint

theorem lowered_of_eq {s t : State} (h : t.crg = s.crg) : Lowered s t := fun b => by rw [h]; exact ⟨le_rfl, le_rfl⟩

theorem setpointsOff_of_lowered {s t : State} (hr : s.running = true → t.running = true) (h : Lowered s t)
    (hs : s.SetpointsOff) : t.SetpointsOff := by
  intro ht b
  have hoff : s.running = false := Bool.eq_false_iff.mpr fun hs => by simp [hr hs] at ht
  exact Nat.le_zero.mp (hs hoff b ▸ (h b).2)

/-- The part of `Limited` that the governing copy has in it. -/
def CopyLimited (s : State) : Prop :=
  ∀ c, s.dgv.copy = some c → c.resp.iLimit ≤ 4096
    ∧ (s.dgv.state = .recovery → s.dgv.recovery ≤ c.resp.rampMs * Config.updatesPerMs)

theorem limited_of_lowered {s t : State} (hp : t.params = s.params) (he : t.rtb.entries = s.rtb.entries)
    (hl : Lowered s t) (hc : s.Limited → CopyLimited t) (hs : s.Limited) : t.Limited := by
  obtain ⟨hbridges, hentries, -⟩ := id hs
  refine ⟨fun b => ?_, he ▸ hentries, hc hs⟩
  obtain ⟨htarget, hsetpoint⟩ := hbridges b
  obtain ⟨hltarget, hlsetpoint⟩ := hl b
  rw [State.parN, State.par, hp]
  exact ⟨hltarget.trans htarget, hlsetpoint.trans hsetpoint⟩

theorem copyLimited_of_dgv {s t : State} (h : t.dgv = s.dgv) (hs : s.Limited) : CopyLimited t := by
  obtain ⟨-, -, hcopy⟩ := hs
  rw [CopyLimited, h]
  exact hcopy

theorem trackerInRange_congr {s t : State} (h : t.atr = s.atr) (hs : s.TrackerInRange) : t.TrackerInRange := by
  rw [State.TrackerInRange, h]
  exact hs

theorem paramsInRange_congr {s t : State} (h : t.params = s.params) (hs : s.ParamsInRange) : t.ParamsInRange := by
  rw [State.ParamsInRange] at hs ⊢
  simp only [State.par] at hs ⊢
  rwa [h]

theorem buffersInRange_of {s t : State} (hring : s.trc.ring.length ≤ 256 → t.trc.ring.length ≤ 256)
    (hhistory : s.dgv.history.length ≤ 16 → t.dgv.history.length ≤ 16)
    (hinbox : s.lnk.inbox.length ≤ 2 → t.lnk.inbox.length ≤ 2) (hs : s.BuffersInRange) : t.BuffersInRange := by
  obtain ⟨h1, h2, h3⟩ := hs
  exact ⟨hring h1, hhistory h2, hinbox h3⟩

/-- An operation that leaves the list, the regulator, the governor, the entries, the tracker, the parameters and the run
state alone, and lets no buffer outgrow its size. -/
theorem keeps_of_changes {fs : List Field} {s t : State} (h : Changes fs s t)
    (hring : s.trc.ring.length ≤ 256 → t.trc.ring.length ≤ 256)
    (hinbox : s.lnk.inbox.length ≤ 2 → t.lnk.inbox.length ≤ 2)
    (hrun : s.running = true → t.running = true)
    (hfs : ∀ f ∈ [Field.fls, .crg, .dgv, .rtb, .atr, .params], f ∉ fs := by decide) : Keeps s t := by
  have hfls : t.fls = s.fls := h .fls (hfs .fls (by decide))
  have hcrg : t.crg = s.crg := h .crg (hfs .crg (by decide))
  have hdgv : t.dgv = s.dgv := h .dgv (hfs .dgv (by decide))
  have hrtb : t.rtb = s.rtb := h .rtb (hfs .rtb (by decide))
  have hatr : t.atr = s.atr := h .atr (hfs .atr (by decide))
  have hparams : t.params = s.params := h .params (hfs .params (by decide))
  exact {
    list := fun hs => noneHeld_of_fls hs hfls
    governor := governorSound_congr hdgv hrun
    setpoints := setpointsOff_of_lowered hrun (lowered_of_eq hcrg)
    limited := limited_of_lowered hparams (by rw [hrtb]) (lowered_of_eq hcrg) (copyLimited_of_dgv hdgv)
    tracker := trackerInRange_congr hatr
    params := paramsInRange_congr hparams
    buffers := buffersInRange_of hring (by rw [hdgv]; exact id) hinbox }

theorem running_of_rct {s t : State} (h : t.rct = s.rct) : s.running = true → t.running = true := by
  rw [State.running, State.running, h]; exact id

/-- An operation on the measurement, notices, watches, store or pins. -/
theorem keeps_of_quiet {fs : List Field} {s t : State} (h : Changes fs s t)
    (hring : s.trc.ring.length ≤ 256 → t.trc.ring.length ≤ 256)
    (hfs : ∀ f ∈ [Field.fls, .crg, .dgv, .rtb, .atr, .params, .rct, .lnk], f ∉ fs := by decide) : Keeps s t :=
  keeps_of_changes h hring (by rw [h .lnk (hfs .lnk (by decide))]; exact id)
    (running_of_rct (h .rct (hfs .rct (by decide)))) (fun f hf => hfs f (by revert hf; revert f; decide))

theorem keeps_occur (src : Source) (s : State) : Keeps s (occur src s) :=
  keeps_of_quiet (occur_changes src s) (by rw [occur_ring]; exact id)

theorem keeps_occurIf (src? : Option Source) (s : State) : Keeps s (occurIf src? s) := by
  cases src? with
  | none => exact .refl s
  | some src => exact keeps_occur src s

theorem keeps_occurTimes (n : Nat) (src : Source) (s : State) : Keeps s (occurTimes n src s) := by
  induction n generalizing s with
  | zero => exact .refl s
  | succ n ih => exact (keeps_occur src s).trans (ih _)

/-! The firing list. -/

/-- An operation on the firing list that may write notices and the trace. -/
theorem keeps_of_list {s t : State} (h : Changes [.fls, .ntu, .trc] s t) (hlist : s.NoneHeld → t.NoneHeld)
    (hring : s.trc.ring.length ≤ 256 → t.trc.ring.length ≤ 256) : Keeps s t where
  list := hlist
  governor := governorSound_congr (h .dgv (by decide)) (running_of_rct (h .rct (by decide)))
  setpoints := setpointsOff_of_lowered (running_of_rct (h .rct (by decide))) (lowered_of_eq (h .crg (by decide)))
  limited := limited_of_lowered (h .params (by decide)) (by rw [h .rtb (by decide)]) (lowered_of_eq (h .crg (by decide)))
    (copyLimited_of_dgv (h .dgv (by decide)))
  tracker := trackerInRange_congr (h .atr (by decide))
  params := paramsInRange_congr (h .params (by decide))
  buffers := buffersInRange_of hring (by rw [h .dgv (by decide)]; exact id) (by rw [h .lnk (by decide)]; exact id)

theorem appendTrace_ring_le (r : TraceRecord) (s : State) (h : s.trc.ring.length ≤ 256) :
    (appendTrace r s).trc.ring.length ≤ 256 := by
  unfold appendTrace
  split
  · exact pushRing_length _ r h
  · rw [judgeFreeze_ring]; exact pushRing_length _ r h
  · exact h

theorem retireHead_ring_le (s : State) (h : s.trc.ring.length ≤ 256) : (retireHead s).1.trc.ring.length ≤ 256 := by
  unfold retireHead
  split
  · exact h
  · next e rest _ =>
    have hring := appendTrace_ring_le (traceRecordOf s.fls.seq e)
      (s.withFls { s.fls with list := rest, seq := s.fls.seq + 1 }) h
    dsimp only
    split
    · rw [occur_ring]; exact hring
    · exact hring

theorem retireAll_ring_le (n : Nat) (s : State) (h : s.trc.ring.length ≤ 256) :
    (retireAll n s).1.trc.ring.length ≤ 256 := by
  induction n generalizing s with
  | zero => exact h
  | succ n ih => exact ih _ (retireHead_ring_le s h)

theorem closeList_ring_le (s : State) (h : s.trc.ring.length ≤ 256) : (closeList s).1.trc.ring.length ≤ 256 :=
  retireAll_ring_le _ _ h

theorem keeps_closeList (s : State) : Keeps s (closeList s).1 :=
  keeps_of_list (closeList_changes s) (fun _ _ => (closeList_spec s).1) (closeList_ring_le s)

theorem keeps_takeClose (s : State) : Keeps s (takeClose s).1 :=
  .ite_fst (fun _ => keeps_closeList s) fun _ => .refl s

theorem retireHead_noneHeld {s : State} (h : s.NoneHeld) : (retireHead s).1.NoneHeld := by
  cases hlist : s.fls.list with
  | nil => rw [retireHead_empty s hlist]; exact h
  | cons e rest =>
    intro hb
    rw [retireHead_fls e rest s hlist] at hb
    exact absurd (h hb) (by simp [hlist])

theorem keeps_retireHead (s : State) : Keeps s (retireHead s).1 :=
  keeps_of_list (retireHead_changes s) retireHead_noneHeld (retireHead_ring_le s)

theorem keeps_handOff (e : Entry) (s : State) : Keeps s (handOff e s) := by
  by_cases hb : s.fls.blocked = true
  · have hclosed : handOff e s = (closeList (s.withFls { s.fls with list := s.fls.list ++ [e] })).1 := if_pos hb
    refine keeps_of_list ?_ (fun _ => handOff_noneHeld e) ?_
    · rw [hclosed]
      exact ((Changes.withFls s _).mono (by decide)).trans (closeList_changes _)
    · rw [hclosed]
      exact closeList_ring_le (s.withFls { s.fls with list := s.fls.list ++ [e] })
  · rw [handOff_open e s (Bool.eq_false_iff.mpr hb)]
    exact keeps_of_list ((Changes.withFls s _).mono (by decide)) (fun _ h => absurd h hb) id

theorem keeps_firePoint (u : AngleUpdate) (x : Nat) (s : State) : Keeps s (firePoint u x s) :=
  keeps_of_list ((Changes.withFls s _).mono (by decide)) (firePoint_noneHeld u x) id

theorem keeps_sampleWindows (u : AngleUpdate) (s : State) : Keeps s (sampleWindows u s) :=
  keeps_of_list ((Changes.withFls s _).mono (by decide))
    (fun h hb => by simp [sampleWindows, h hb]) id

/-! The regulator. -/

/-- An operation on the regulator and the firing list that raises no target and no setpoint. -/
theorem keeps_of_lowered {fs : List Field} {s t : State} (h : Changes fs s t) (hlist : s.NoneHeld → t.NoneHeld)
    (hl : Lowered s t) (hring : s.trc.ring.length ≤ 256 → t.trc.ring.length ≤ 256)
    (hfs : ∀ f ∈ [Field.dgv, .rtb, .atr, .params, .rct, .lnk], f ∉ fs := by decide) : Keeps s t :=
  have hsame (f : Field) (hf : f ∈ [Field.dgv, .rtb, .atr, .params, .rct, .lnk]) : f.same s t := h f (hfs f hf)
  have hdgv : t.dgv = s.dgv := hsame .dgv (by decide)
  have hrtb : t.rtb = s.rtb := hsame .rtb (by decide)
  have hatr : t.atr = s.atr := hsame .atr (by decide)
  have hparams : t.params = s.params := hsame .params (by decide)
  have hrct : t.rct = s.rct := hsame .rct (by decide)
  have hlnk : t.lnk = s.lnk := hsame .lnk (by decide)
  { list := hlist
    governor := governorSound_congr hdgv (running_of_rct hrct)
    setpoints := setpointsOff_of_lowered (running_of_rct hrct) hl
    limited := limited_of_lowered hparams (by rw [hrtb]) hl (copyLimited_of_dgv hdgv)
    tracker := trackerInRange_congr hatr
    params := paramsInRange_congr hparams
    buffers := buffersInRange_of hring (by rw [hdgv]; exact id) (by rw [hlnk]; exact id) }

/-- Every bridge changed by a function that raises neither its target nor its setpoint. -/
theorem lowered_map {s : State} {f : Bridge → Bridge} (h : ∀ b, (f b).target ≤ b.target ∧ (f b).setpoint ≤ b.setpoint) :
    Lowered s (s.withCrg ⟨s.crg.bridges.map f⟩) := fun b => by simpa using h _

theorem keeps_zeroTargets (s : State) : Keeps s (zeroTargets s) :=
  keeps_of_lowered (zeroTargets_changes s) id (lowered_map fun b => ⟨Nat.zero_le _, le_rfl⟩) id

theorem keeps_zeroSetpoints (s : State) : Keeps s (zeroSetpoints s) :=
  keeps_of_lowered (zeroSetpoints_changes s) id (lowered_map fun b => ⟨le_rfl, Nat.zero_le _⟩) id

theorem keeps_recordPresets (s : State) : Keeps s (recordPresets s) :=
  keeps_of_lowered (recordPresets_changes s) id (lowered_map fun b => ⟨le_rfl, le_rfl⟩) id

theorem keeps_takeUnblock (s : State) : Keeps s (takeUnblock s) :=
  .ite (fun _ => (keeps_of_list (t := s.withFls { s.fls with blocked := false })
    ((Changes.withFls s _).mono (by decide)) (fun _ h => by simp at h) id).trans (keeps_recordPresets _)) fun _ => .refl s

/-- A dispatch leaves the target and the setpoint of its bridge (R62 to R67). -/
theorem regulate_amounts (s : State) (floor : Int) (b : Bridge) (i : Code) :
    (regulate s floor b i).target = b.target ∧ (regulate s floor b i).setpoint = b.setpoint := by
  unfold regulate applyPreset
  dsimp only
  split
  · exact ⟨rfl, rfl⟩
  · exact ⟨rfl, rfl⟩

theorem keeps_dispatch (v : View) (u : AngleUpdate) (k : Nat) (s : State) : Keeps s (dispatch v u k s) := by
  refine .trans ?_ (keeps_handOff _ _)
  refine keeps_of_lowered (Changes.withCrg s _) id (fun b => ?_) id
  rw [State.withCrg_crg, Tab.get_set]
  split
  · next h =>
    obtain ⟨htarget, hsetpoint⟩ := regulate_amounts s v.floor (s.crg.bridges.get b) (u.set.idc.get b)
    rw [h, htarget, hsetpoint]
    exact ⟨le_rfl, le_rfl⟩
  · exact ⟨le_rfl, le_rfl⟩

/-- The limit in force never exceeds I_MAX (R57, R102, R110). -/
theorem limit_le_iMax {s : State} (h : s.Limited) : s.limit ≤ s.parN .iMax := by
  obtain ⟨-, -, hcopy⟩ := h
  unfold State.limit
  split
  · next c _ hc => exact Ramp.episodeLimit_le_iMax s c (hcopy c hc).1
  · next c hstate hc => exact (Ramp.recoveryLimit_between s c (hcopy c hc).1 ((hcopy c hc).2 hstate)).2
  · exact le_rfl

/-- A ramp step ends at or below the limit that it ramps under (R59). -/
theorem rampBridge_le (limit up dn : Nat) (b : Bridge) :
    (rampBridge limit up dn b).target = b.target ∧ (rampBridge limit up dn b).setpoint ≤ limit * 256 := by
  refine ⟨rfl, ?_⟩
  have hgoal : min b.target limit * 256 ≤ limit * 256 := Nat.mul_le_mul_right _ (min_le_right _ _)
  have hsp : min b.setpoint (limit * 256) ≤ limit * 256 := min_le_right _ _
  simp only [rampBridge]
  split
  · exact (min_le_right _ _).trans hgoal
  · split
    · exact max_le ((Nat.sub_le _ _).trans hsp) hgoal
    · exact hsp

theorem limited_rampStep {s : State} (h : s.Limited) : (rampStep s).Limited := by
  obtain ⟨hbridges, hentries, hcopy⟩ := id h
  cases hrun : s.running with
  | false => rw [Ramp.rampStep_not_running s hrun]; exact h
  | true =>
    refine ⟨fun b => ?_, by rw [rampStep_rtb]; exact hentries, by rw [rampStep_dgv]; exact hcopy⟩
    rw [State.parN, State.par, rampStep_params]
    by_cases hb : b.1 < s.parN .bridges
    · rw [Ramp.rampStep_bridge_used s hrun b hb]
      obtain ⟨htarget, hsetpoint⟩ := rampBridge_le s.limit (s.parN .rampUp) (s.parN .rampDn) (s.crg.bridges.get b)
      rw [htarget]
      exact ⟨(hbridges b).1, hsetpoint.trans (Nat.mul_le_mul_right _ (limit_le_iMax h))⟩
    · rw [Ramp.rampStep_bridge_unused s hrun b (Nat.le_of_not_lt hb)]
      exact hbridges b

theorem setpointsOff_rampStep {s : State} (h : s.SetpointsOff) : (rampStep s).SetpointsOff := by
  intro hrun
  have hoff : s.running = false := by rw [State.running, rampStep_rct] at hrun; exact hrun
  rw [Ramp.rampStep_not_running s hoff]
  exact h hoff

theorem keeps_rampStep (s : State) : Keeps s (rampStep s) where
  list := fun h => noneHeld_of_fls h (rampStep_fls s)
  governor := governorSound_congr (rampStep_dgv s) (running_of_rct (rampStep_rct s))
  setpoints := setpointsOff_rampStep
  limited := limited_rampStep
  tracker := trackerInRange_congr (rampStep_atr s)
  params := paramsInRange_congr (rampStep_params s)
  buffers := buffersInRange_of (by rw [rampStep_trc]; exact id) (by rw [rampStep_dgv]; exact id)
    (by rw [rampStep_lnk]; exact id)

/-! Leaving the running states (R58, R89, R113). -/

theorem governorSound_endEpisode {s t : State} (hd : t.dgv = s.dgv) (h : s.GovernorSound) :
    (endEpisode t).GovernorSound := by
  by_cases hsteady : t.dgv.state = .steady
  · rw [LeavingRun.endEpisode_steady hsteady]
    rw [State.GovernorSound, ← hd] at h
    exact ⟨fun hs => absurd hsteady hs, h.2⟩
  · have hended := Governing.endEpisode_open hsteady
    exact governorSound_of_steady (by rw [hended]) (by rw [hended]) (by rw [hended]) (by rw [hended]) (by rw [hended])
      (by rw [hended])

theorem copyLimited_endEpisode {s t : State} (hd : t.dgv = s.dgv) (h : s.Limited) : CopyLimited (endEpisode t) := by
  by_cases hsteady : t.dgv.state = .steady
  · rw [LeavingRun.endEpisode_steady hsteady]
    exact copyLimited_of_dgv (t := t) hd h
  · intro c hc
    rw [Governing.endEpisode_open hsteady] at hc
    cases hc

/-- What the end of an episode does beside the governor. -/
theorem keeps_endEpisode (s : State) : Keeps s (endEpisode s) :=
  have h := endEpisode_changes s
  { list := fun hs => noneHeld_of_fls hs (h .fls (by decide))
    governor := governorSound_endEpisode rfl
    setpoints := setpointsOff_of_lowered (running_of_rct (h .rct (by decide))) (lowered_of_eq (h .crg (by decide)))
    limited := limited_of_lowered (h .params (by decide)) (Governing.endEpisode_entries s)
      (lowered_of_eq (h .crg (by decide))) (copyLimited_endEpisode rfl)
    tracker := trackerInRange_congr (h .atr (by decide))
    params := paramsInRange_congr (h .params (by decide))
    buffers := buffersInRange_of (by rw [h .trc (by decide)]; exact id)
      (by rw [Governing.endEpisode_history_length]; exact id) (by rw [h .lnk (by decide)]; exact id) }

/-- The state that the governor sees when it takes a change to STANDBY or HALT. -/
def beforeEnd (s : State) : State :=
  if s.order.closeFirst then (takeClose (zeroSetpoints s)).1 else zeroSetpoints s

theorem endRun_eq (s : State) : endRun s = endEpisode (beforeEnd s) := rfl

theorem beforeEnd_changes (s : State) : Changes [.crg, .fls, .ntu, .trc] s (beforeEnd s) := by
  have hzero : Changes [.crg, .fls, .ntu, .trc] s (zeroSetpoints s) := (zeroSetpoints_changes s).mono (by decide)
  unfold beforeEnd
  split
  · exact hzero.trans ((takeClose_changes _).mono (by decide))
  · exact hzero

theorem beforeEnd_ring_le (s : State) (h : s.trc.ring.length ≤ 256) : (beforeEnd s).trc.ring.length ≤ 256 := by
  unfold beforeEnd
  split
  · unfold takeClose
    split
    · exact closeList_ring_le _ h
    · exact h
  · exact h

/-- The run state changed to STANDBY or HALT and taken by every block: the promises hold again once the setpoints are 0 and
the governor has ended its episode. -/
theorem keeps_endRun {s t : State} (h : Changes [.rct, .ntu, .trc] s t)
    (hring : s.trc.ring.length ≤ 256 → t.trc.ring.length ≤ 256) : Keeps s (endRun t) := by
  have hbefore := beforeEnd_changes t
  have hdgv : (beforeEnd t).dgv = s.dgv := (hbefore .dgv (by decide)).trans (h .dgv (by decide))
  have hrun := endRun_changes t
  have hparams : (endRun t).params = s.params := (hrun .params (by decide)).trans (h .params (by decide))
  have hzero (b : Fin 4) : (endRun t).crg.bridges.get b = { s.crg.bridges.get b with setpoint := 0 } := by
    rw [LeavingRun.endRun_crg, LeavingRun.zeroSetpoints_zeroed t b, h .crg (by decide)]
  have hlowered : Lowered s (endRun t) := fun b => by rw [hzero]; exact ⟨le_rfl, Nat.zero_le _⟩
  have hentries : (endRun t).rtb.entries = s.rtb.entries := by
    rw [endRun_eq, Governing.endEpisode_entries, hbefore .rtb (by decide), h .rtb (by decide)]
  exact {
    list := fun hs => endRun_noneHeld (noneHeld_of_fls hs (h .fls (by decide)))
    governor := governorSound_endEpisode hdgv
    setpoints := fun _ _ b => by rw [hzero]
    limited := limited_of_lowered hparams hentries hlowered (copyLimited_endEpisode hdgv)
    tracker := trackerInRange_congr ((hrun .atr (by decide)).trans (h .atr (by decide)))
    params := paramsInRange_congr hparams
    buffers := buffersInRange_of
      (fun hs => by rw [endRun_eq, endEpisode_trc]; exact beforeEnd_ring_le t (hring hs))
      (by rw [endRun_eq, Governing.endEpisode_history_length, hdgv]; exact id)
      (by rw [hrun .lnk (by decide), h .lnk (by decide)]; exact id) }

theorem keeps_toStandby (src? : Option Source) (s : State) : Keeps s (toStandby src? s) := by
  refine keeps_endRun (Changes.occurIf src? ((Changes.withRct s _).mono (by decide)) (by decide)) ?_
  cases src? with
  | none => exact id
  | some src => rw [occurIf, occur_ring]; exact id

theorem keeps_takeHalt (c : HaltCause) (s : State) : Keeps s (takeHalt c s) :=
  .ite (fun _ => keeps_endRun (enterHalt_changes c s) (by rw [enterHalt, occur_ring]; exact id)) fun _ => .refl s

theorem keeps_askHalt (c? : Option HaltCause) (s : State) : Keeps s (askHalt c? s) := by
  cases c? with
  | none => exact .refl s
  | some c => exact keeps_takeHalt c s

theorem keeps_askMisfires (l : List (Fin 24)) (s : State) : Keeps s (askMisfires l s) := by
  induction l generalizing s with
  | nil => exact .refl s
  | cons k rest ih => exact (keeps_takeHalt (.misfire k) s).trans (ih _)

theorem keeps_settle (s : State) : Keeps s (settle s) :=
  (keeps_takeUnblock s).trans ((keeps_takeClose _).trans (keeps_askMisfires _ _))

theorem keeps_settleAt (o : UpdateOrder) (k : Nat) (s : State) : Keeps s (settleAt o k s) :=
  .ite (fun _ => keeps_settle s) fun _ => keeps_takeUnblock s

/-! The governor. -/

/-- An operation of the governor, by what it does to the governor itself. -/
theorem keeps_of_governor {s t : State} (h : Changes [.dgv, .atr, .rtb, .ntu, .trc] s t)
    (hgov : s.GovernorSound → t.GovernorSound) (hcopy : s.Limited → CopyLimited t)
    (hhistory : s.dgv.history.length ≤ 16 → t.dgv.history.length ≤ 16)
    (he : t.rtb.entries = s.rtb.entries) (hatr : s.TrackerInRange → t.TrackerInRange)
    (hring : t.trc.ring = s.trc.ring) : Keeps s t where
  list := fun hs => noneHeld_of_fls hs (h .fls (by decide))
  governor := hgov
  setpoints := setpointsOff_of_lowered (running_of_rct (h .rct (by decide))) (lowered_of_eq (h .crg (by decide)))
  limited := limited_of_lowered (h .params (by decide)) he (lowered_of_eq (h .crg (by decide))) hcopy
  tracker := hatr
  params := paramsInRange_congr (h .params (by decide))
  buffers := buffersInRange_of (by rw [hring]; exact id) hhistory (by rw [h .lnk (by decide)]; exact id)

/-- A change of the governor's counts, extremes, band, start, flags or records that leaves what the promises read. -/
theorem keeps_withDgv {s : State} {d : Dgv} (hgov : s.GovernorSound → (s.withDgv d).GovernorSound)
    (hcopy : s.Limited → CopyLimited (s.withDgv d)) (hhistory : d.history.length = s.dgv.history.length) :
    Keeps s (s.withDgv d) :=
  keeps_of_governor ((Changes.withDgv s d).mono (by decide)) hgov hcopy (fun h => hhistory.trans_le h) rfl id rfl

theorem copyLimited_self {s : State} (h : s.Limited) : CopyLimited s := copyLimited_of_dgv rfl h

theorem keeps_changeOngoing (g : HistoryRecord → HistoryRecord) (s : State) : Keeps s (changeOngoing g s) :=
  keeps_withDgv (fun h => h) copyLimited_self (Governing.changeNewest_length _ _)

theorem keeps_raiseBlock {s : State} (hstate : s.dgv.state = .episode) : Keeps s (raiseBlock s) := by
  refine (keeps_withDgv (d := { s.dgv with block := true }) ?_ copyLimited_self rfl).trans (keeps_changeOngoing _ _)
  rintro ⟨hrun, hride, hcopy, hkind, -⟩
  exact ⟨hrun, hride, hcopy, hkind, fun _ => hstate⟩

/-- Every copy that a search finds keeps the limit of its entry, and the default is 0 (R57, R124). -/
theorem searchResult_limited {s : State} (h : ∀ i, (s.rtb.entries.get i).resp.iLimit ≤ 4096) (k : Kind) (band : Nat) :
    (searchResult k band s).resp.iLimit ≤ 4096 := by
  unfold searchResult
  split
  · exact h _
  · exact Nat.zero_le _

/-- A search in EPISODE, whose copy takes effect: the promises about the copy hold of the one found. -/
theorem keeps_searchAndTake {s t : State} (k : Kind) (band : Nat) (renew : Bool)
    (h : Changes [.dgv, .atr, .rtb, .ntu, .trc] s t) (hrun : s.running = true) (hstate : t.dgv.state = .episode)
    (hride : s.GovernorSound → t.dgv.rideOut = true) (hkind : t.dgv.kind.isSome = true)
    (he : t.rtb.entries = s.rtb.entries) (hatr : t.atr = s.atr) (hring : t.trc.ring = s.trc.ring)
    (hhistory : s.dgv.history.length ≤ 16 → t.dgv.history.length ≤ 16) :
    Keeps s (searchAndTake k band renew t).1 := by
  have hdgv := Governing.searchAndTake_dgv k band renew t
  have hsearch := searchAndTake_changes k band renew t
  have hrunning : (searchAndTake k band renew t).1.running = true :=
    running_of_rct ((hsearch .rct (by decide)).trans (h .rct (by decide))) hrun
  refine keeps_of_governor (h.trans (hsearch.mono (by decide))) ?_ ?_ ?_
    ((Governing.searchAndTake_entries k band renew t).trans he) ?_ ?_
  · intro hs
    refine governorSound_of_episode hrunning ?_ ?_ ?_ ?_ <;> rw [hdgv]
    · exact hstate
    · exact hride hs
    · rfl
    · exact hkind
  · rintro ⟨-, hentries, -⟩ c hc
    rw [hdgv] at hc ⊢
    obtain rfl := Option.some.inj hc
    exact ⟨searchResult_limited (he ▸ hentries) k band, fun hr => absurd (hstate.symm.trans hr) (by decide)⟩
  · intro hs
    rw [hdgv]
    exact (Governing.changeNewest_length _ _).trans_le (hhistory hs)
  · intro hs
    rw [State.TrackerInRange, Governing.searchAndTake_atr, hatr]
    exact hs
  · rw [Governing.searchAndTake_trc, hring]

theorem keeps_onset (u : AngleUpdate) {s : State} (hrun : s.running = true) (hstate : s.dgv.state ≠ .episode) :
    Keeps s (onset u s).1 := by
  have hrecorded : (Governing.recorded u s).dgv.history.length ≤ 16 := Governing.pushHistory_length _ _
  rw [Governing.onset_eq]
  refine .ite_fst (fun _ => ?_) fun _ => ?_
  · have htrip := Governing.tripRepeat_dgv (Governing.recorded u s)
    have hchanges := tripRepeat_changes (Governing.recorded u s)
    refine keeps_of_governor ?_ ?_ ?_ ?_ (by rw [hchanges .rtb (by decide)]; rfl)
      (trackerInRange_congr (hchanges .atr (by decide))) (by simp [tripRepeat, clearRun, Governing.recorded])
    · exact ((Changes.withDgv s _).mono (by decide)).trans (hchanges.mono (by decide))
    · intro hs
      obtain ⟨hblock, hfreeze⟩ := GovernorSound.quiet hs hstate
      exact governorSound_of_steady (by rw [htrip]) (by rw [htrip]) (by rw [htrip]) (by rw [htrip])
        (by rw [htrip]; exact hblock) (by rw [htrip]; exact hfreeze)
    · intro _ c hc
      rw [htrip] at hc
      cases hc
    · intro _
      rw [htrip]
      exact (Governing.changeNewest_length _ _).trans_le hrecorded
  · exact (keeps_searchAndTake (t := Governing.opened u s) _ _ _ ((Changes.withDgv s _).mono (by decide)) hrun rfl
      (fun _ => rfl) rfl rfl rfl rfl fun _ => hrecorded).trans (keeps_occur _ _)

theorem keeps_escalate (u : AngleUpdate) {s : State} (hrun : s.running = true) (hstate : s.dgv.state = .episode) :
    Keeps s (escalate u s).1 := by
  by_cases hrises : Governing.Rises u s
  · rw [Governing.escalate_rises hrises]
    refine .trans ?_ (keeps_occur _ _)
    refine keeps_searchAndTake _ _ _ ((Changes.withDgv s _).mono (by decide)) hrun hstate ?_ rfl rfl rfl rfl ?_
    · rintro ⟨-, hride, -⟩
      exact hride.mpr (by rw [hstate]; decide)
    · exact fun hs => (Governing.changeOngoing_history_length _ _).trans_le hs
  · rw [Governing.escalate_holds hrises]
    exact .refl s

theorem expire_state (s : State) : (expire s).1.dgv.state = s.dgv.state := by
  obtain h | h := Governing.expire_cases s
  · rw [h]; rfl
  · rw [h, occur_dgv]; rfl

theorem keeps_expire {s : State} (hstate : s.dgv.state = .episode) : Keeps s (expire s).1 := by
  have hexpired : Keeps s (Governing.holdExpired s) :=
    (keeps_withDgv (d := { s.dgv with expired := true }) (fun h => h) copyLimited_self rfl).trans (keeps_changeOngoing _ _)
  obtain h | h := Governing.expire_cases s
  · rw [h]; exact hexpired
  · rw [h]; exact hexpired.trans ((keeps_raiseBlock (s := Governing.holdExpired s) hstate).trans (keeps_occur _ _))

theorem keeps_markEntry (ix : EntryIx) (f : Marks → Marks) (s : State) : Keeps s (markEntry ix f s) :=
  have h := markEntry_changes ix f s
  keeps_of_governor (h.mono (by decide)) (governorSound_congr (h .dgv (by decide)) (running_of_rct (h .rct (by decide))))
    (copyLimited_of_dgv (h .dgv (by decide))) (by rw [h .dgv (by decide)]; exact id) (markEntry_entries ix f s)
    (trackerInRange_congr (h .atr (by decide))) (by rw [h .trc (by decide)])

/-- A reseat request raised or withdrawn. -/
theorem keeps_reseatRequest (b : Bool) (s : State) : Keeps s (s.withAtr { s.atr with reseatRequest := b }) :=
  keeps_of_governor ((Changes.withAtr s _).mono (by decide)) (fun h => h) copyLimited_self id rfl id rfl

theorem keeps_ridden (u : AngleUpdate) (s : State) : Keeps s (Governing.ridden u s) :=
  (keeps_changeOngoing (closeRecord .rode u.set.count) s).trans ((keeps_markEntry _ _ _).trans (keeps_reseatRequest false _))

/-- RECOVERY begins with t at 0, which lies within every ramp. -/
theorem keeps_clearEpisode (u : AngleUpdate) {s : State} (hstate : s.dgv.state = .episode) :
    Keeps s (clearEpisode u s) := by
  rw [Governing.clearEpisode_eq]
  refine (keeps_ridden u s).trans (.trans (keeps_withDgv (d := Governing.recovering _) ?_ ?_ rfl) (keeps_occur _ _))
  · rintro ⟨hrun, hride, hcopy, hkind, -⟩
    have hopen : (Governing.ridden u s).dgv.state ≠ .steady := by
      rw [Governing.ridden_dgv, Governing.changeOngoing_dgv]
      simp [hstate]
    have hrecovery : (Governing.recovering (Governing.ridden u s).dgv).state ≠ .steady := by simp [Governing.recovering]
    exact ⟨fun _ => hrun hopen, iff_of_true (hride.mpr hopen) hrecovery, iff_of_true (hcopy.mpr hopen) hrecovery,
      iff_of_true (hkind.mpr hopen) hrecovery, by simp [Governing.recovering]⟩
  · rintro ⟨-, -, hcopy⟩ c hc
    exact ⟨(hcopy c hc).1, fun _ => Nat.zero_le _⟩

theorem takeClose_dgv_state (s : State) : (takeClose s).1.dgv = s.dgv := takeClose_changes s .dgv (by decide)

theorem keeps_takeClear (u : AngleUpdate) {s : State} (hstate : s.dgv.state = .episode) : Keeps s (takeClear u s).1 :=
  (keeps_takeClose s).trans (keeps_clearEpisode u (by rw [takeClose_dgv_state]; exact hstate))

theorem keeps_judgeEpisode (u : AngleUpdate) {s : State} (hstate : s.dgv.state = .episode) :
    Keeps s (judgeEpisode u s).1 := by
  have hexpired : Keeps s (if holdDue u s then expire s else (s, none)).1 :=
    .ite_fst (fun _ => keeps_expire hstate) fun _ => .refl s
  have hepisode : (if holdDue u s then expire s else (s, none)).1.dgv.state = .episode := by
    split
    · rw [expire_state, hstate]
    · exact hstate
  have hcounted := hexpired.trans (keeps_withDgv (s := (if holdDue u s then expire s else (s, none)).1)
    (d := (countC u (if holdDue u s then expire s else (s, none)).1).dgv) (fun h => h) copyLimited_self rfl)
  refine .ite_fst (fun _ => hexpired) fun _ => .ite_fst (fun _ => hexpired) fun _ => .ite_fst (fun _ => ?_) fun _ => hcounted
  exact hcounted.trans (keeps_takeClear u hepisode)

theorem searchAndTake_state (k : Kind) (band : Nat) (renew : Bool) (s : State) :
    (searchAndTake k band renew s).1.dgv.state = s.dgv.state := by
  rw [Governing.searchAndTake_dgv]; rfl

theorem escalate_state (u : AngleUpdate) (s : State) : (escalate u s).1.dgv.state = s.dgv.state := by
  by_cases hrises : Governing.Rises u s
  · rw [Governing.escalate_rises hrises, occur_dgv, searchAndTake_state]; rfl
  · rw [Governing.escalate_holds hrises]

theorem keeps_episodeStep (u : AngleUpdate) {s : State} (hrun : s.running = true) (hstate : s.dgv.state = .episode) :
    Keeps s (episodeStep u s).1 := by
  have hwidened : Keeps s (s.withDgv { s.dgv with extremes := some (widen s.dgv.extremes (extremesOf s u)) }) :=
    keeps_withDgv (fun h => h) copyLimited_self rfl
  have hescalated := hwidened.trans (keeps_escalate u
    (s := s.withDgv { s.dgv with extremes := some (widen s.dgv.extremes (extremesOf s u)) }) hrun hstate)
  refine .ite_fst (fun _ => hescalated) fun _ => hescalated.trans (keeps_judgeEpisode u ?_)
  rw [escalate_state]
  exact hstate

theorem keeps_countD (u : AngleUpdate) (s : State) : Keeps s (countD u s) :=
  .ite (fun _ => keeps_withDgv (fun h => h) copyLimited_self rfl) fun _ => keeps_withDgv (fun h => h) copyLimited_self rfl

theorem keeps_endRecovery {s t : State} (hstate : s.dgv.state = .recovery)
    (ht : t = s.withDgv { s.dgv with recovery := t.dgv.recovery }) : Keeps s (endRecovery t) := by
  rw [ht]
  refine .trans ?_ (keeps_occur _ _)
  refine keeps_withDgv (s := s) ?_ ?_ rfl
  · intro hs
    obtain ⟨hblock, hfreeze⟩ := GovernorSound.quiet hs (by rw [hstate]; decide)
    exact governorSound_of_steady rfl rfl rfl rfl hblock hfreeze
  · intro _ c hc
    cases hc

/-- The recovery count stays within the ramp of the copy held: RECOVERY ends when it gets there (R111). -/
theorem keeps_recoveryStep {s : State} (hstate : s.dgv.state = .recovery) : Keeps s (recoveryStep s) := by
  refine .ite (fun _ => keeps_endRecovery hstate rfl) fun hramp => keeps_withDgv (fun h => h) ?_ rfl
  rintro ⟨-, -, hcopy⟩ c hc
  refine ⟨(hcopy c hc).1, fun _ => ?_⟩
  have hlength : rampLength (s.withDgv { s.dgv with recovery := s.dgv.recovery + 1 }) =
      c.resp.rampMs * Config.updatesPerMs := by
    have hc' : s.dgv.copy = some c := hc
    simp [rampLength, hc']
  rw [hlength] at hramp
  exact (Nat.lt_of_not_le hramp).le

theorem countD_state (u : AngleUpdate) (s : State) : (countD u s).dgv.state = s.dgv.state := by
  unfold countD clearRun
  split <;> rfl

theorem keeps_quietStep (u : AngleUpdate) {s : State} (hrun : s.running = true) (hstate : s.dgv.state ≠ .episode) :
    Keeps s (quietStep u s).1 := by
  have hcount := keeps_countD u s
  have hrunning : (countD u s).running = true := running_of_rct (countD_changes u s .rct (by decide)) hrun
  refine .ite_fst (fun _ => hcount.trans (keeps_onset u hrunning (by rwa [countD_state]))) fun _ =>
    .ite_fst (fun hrec => hcount.trans (keeps_recoveryStep hrec)) fun _ => hcount

theorem keeps_governorStep (u : AngleUpdate) (s : State) : Keeps s (governorStep u s).1 :=
  .ite_fst (fun hrun => .ite_fst (keeps_episodeStep u hrun) (keeps_quietStep u hrun)) fun _ => .refl s

theorem keeps_governorEvent {due : AngleUpdate → State → Bool} {act : AngleUpdate → State → State × Option HaltCause}
    {s : State} (hact : ∀ u, s.running = true → due u s = true → Keeps s (act u s).1) : Keeps s (governorEvent due act s) := by
  unfold governorEvent
  split
  · next u _ =>
    refine .ite (fun hdue => ?_) fun _ => .refl s
    obtain ⟨hrun, hdue⟩ := Bool.and_eq_true_iff.mp hdue
    exact (hact u hrun hdue).trans ((keeps_askHalt _ _).trans (keeps_settle _))
  · exact .refl s

/-! The run controller. -/

theorem keeps_tripCheck (s : State) : Keeps s (tripCheck s) := by
  unfold tripCheck
  split
  · exact keeps_askHalt _ s
  · exact .refl s

/-- A change of the run controller's counts, or of the run state within or into RUN and STOPPING. -/
theorem keeps_withRct {s : State} {r : Rct} (h : s.running = true → (s.withRct r).running = true) :
    Keeps s (s.withRct r) :=
  keeps_of_changes (Changes.withRct s r) id id h

theorem keeps_enterRun (s : State) : Keeps s (enterRun s) :=
  (keeps_withRct fun _ => rfl).trans (keeps_occur _ _)

theorem keeps_judgeSync (s : State) : Keeps s (judgeSync s) :=
  .ite (fun _ => keeps_enterRun s) fun _ => .ite (fun _ => keeps_toStandby _ s) fun _ => .refl s

theorem keeps_judgeStop (s : State) : Keeps s (judgeStop s) :=
  .ite (fun _ => keeps_toStandby _ s) fun _ => .refl s

theorem keeps_lapse (s : State) : Keeps s (lapse s) :=
  (keeps_withRct (r := { s.rct with lapsed := true }) id).trans ((keeps_zeroTargets _).trans (keeps_occur _ _))

theorem keeps_runStep (u : AngleUpdate) (s : State) : Keeps s (runStep u s) := by
  have hcount : Keeps s (countSupervision s) := keeps_withRct id
  unfold runStep
  dsimp only
  split
  · refine hcount.trans (.trans ?_ (keeps_judgeSync _))
    exact keeps_withRct id
  · exact hcount.trans (.ite (fun _ => keeps_lapse _) fun _ => .refl _)
  · refine hcount.trans (.trans ?_ (keeps_judgeStop _))
    exact keeps_withRct id
  · exact hcount
  · exact hcount

/-! The path of an update. -/

theorem keeps_withSsq (v : Ssq) (s : State) : Keeps s (s.withSsq v) := keeps_of_quiet (Changes.withSsq s v) id

theorem keeps_handleSlot (v : View) (u : AngleUpdate) (k : Nat) (s : State) : Keeps s (handleSlot v u k s) :=
  .trans (.ite (fun _ => keeps_dispatch v u k s) fun _ => .refl s) (keeps_withSsq _ _)

theorem keeps_resolveSync (k : Nat) (s : State) : Keeps s (resolveSync k s) :=
  (keeps_withSsq _ s).trans (keeps_takeUnblock _)

theorem keeps_sequencerPoint (v : View) (u : AngleUpdate) (x : Nat) (s : State) : Keeps s (sequencerPoint v u x s) := by
  refine .ite (fun _ => .refl s) fun _ => .ite (fun _ => ?_) fun _ =>
    .ite (fun _ => keeps_handleSlot v u _ s) fun _ => .refl s
  split
  · exact (keeps_resolveSync _ s).trans (keeps_handleSlot v u _ _)
  · exact .refl s

theorem keeps_retireDone (n : Nat) (s : State) : Keeps s (retireDone n s) := by
  induction n generalizing s with
  | zero => exact .refl s
  | succ n ih =>
    unfold retireDone
    split
    · exact .refl s
    · exact .ite (fun _ => (keeps_retireHead s).trans ((keeps_askHalt _ _).trans (ih _))) fun _ => .refl s

theorem keeps_watchUnit (u : AngleUpdate) (n : Fin 4) (s : State) : Keeps s (watchUnit u n s) := by
  have hwatch (w : Wcu) : Keeps s (s.withWcu w) := keeps_of_quiet (Changes.withWcu s w) id
  exact .ite (fun _ => (hwatch _).trans (keeps_occur _ _)) fun _ => hwatch _

theorem keeps_governorDeed (u : AngleUpdate) (s : State) : Keeps s (governorDeed u s) :=
  (keeps_governorStep u s).trans ((keeps_takeUnblock _).trans (keeps_askHalt _ _))

theorem keeps_doDeed (v : View) (u : AngleUpdate) (d : Deed) (s : State) : Keeps s (doDeed v u d s) := by
  cases d with
  | take => exact .refl s
  | path n => exact (keeps_sequencerPoint v u _ s).trans (keeps_firePoint u _ _)
  | listEnd => exact (keeps_sampleWindows u s).trans (keeps_retireDone _ _)
  | trip => exact keeps_tripCheck s
  | governor => exact keeps_governorDeed u s
  | ramp => exact keeps_rampStep s
  | run => exact keeps_runStep u s
  | watch =>
    exact (keeps_watchUnit u 0 s).trans ((keeps_watchUnit u 1 _).trans ((keeps_watchUnit u 2 _).trans
      (keeps_watchUnit u 3 _)))

theorem keeps_doDeeds (o : UpdateOrder) (u : AngleUpdate) (v : View) (l : List (Nat × Deed)) (s : State) :
    Keeps s (doDeeds o u v l s) := by
  induction l generalizing v s with
  | nil => exact keeps_settle s
  | cons x rest ih => exact (keeps_settleAt o x.1 s).trans ((keeps_doDeed _ u x.2 _).trans (ih _ _))

/-! The tracker (R19, R20, R22, R23). -/

theorem angleOf_lt (x : Int) : angleOf x < 23040 := by unfold angleOf; omega

theorem measuredAngle_lt (f : FilteredSet) {s : State} (h : s.atr.thetaMeas < 23040) : measuredAngle f s < 23040 := by
  unfold measuredAngle
  split
  · exact h
  · exact angleOf_lt _

theorem measuredMagnitude_le (f : FilteredSet) (s : State) : measuredMagnitude f s ≤ 8191 := by
  unfold measuredMagnitude
  split
  · exact Nat.zero_le _
  · exact min_le_left _ _

theorem wrapAngle_range (d : Int) : -11520 ≤ wrapAngle d ∧ wrapAngle d ≤ 11519 := by unfold wrapAngle; omega

theorem trackW_range (ki : Int) (w : Nat) (e : Int) : 13271 ≤ trackW ki w e ∧ trackW ki w e ≤ 19169 := by
  unfold trackW clamp
  omega

theorem wNom_range (s : State) : 13271 ≤ s.wNom ∧ s.wNom ≤ 19169 := by
  unfold State.wNom wNominal
  split <;> omega

theorem advanceP_lt (p adv : Nat) : advanceP p adv < 5898240 := Nat.mod_lt _ (by decide)

theorem loopStep_range (v : Verdict) {thetaMeas : Nat} (e : Int) {s : State} (hs : s.TrackerInRange)
    (hmeas : thetaMeas < 23040) : (loopStep s v thetaMeas e).1 < 5898240
      ∧ 13271 ≤ (loopStep s v thetaMeas e).2 ∧ (loopStep s v thetaMeas e).2 ≤ 19169 := by
  obtain ⟨hlow, hhigh, -⟩ := hs
  unfold loopStep
  split
  · exact ⟨by dsimp only; omega, wNom_range s⟩
  · split
    · exact ⟨advanceP_lt _ _, trackW_range _ _ _⟩
    · exact ⟨advanceP_lt _ _, trackW_range _ _ _⟩
    · exact ⟨advanceP_lt _ _, hlow, hhigh⟩
    · exact ⟨advanceP_lt _ _, hlow, hhigh⟩

theorem trackerInRange_update (f : FilteredSet) {s : State} (h : s.TrackerInRange) :
    (trackerUpdate f s).TrackerInRange := by
  obtain ⟨-, -, -, hmeas, -⟩ := id h
  have hangle := measuredAngle_lt f hmeas
  obtain ⟨hp, hlow, hhigh⟩ := loopStep_range (verdictOf f s) (trackingError f s) h hangle
  rw [State.TrackerInRange, OneSet.trackerUpdate_atr]
  refine ⟨hlow, hhigh, hp, hangle, measuredMagnitude_le f s, ?_⟩
  simp only [OneSet.atrAfter, OneSet.updateOf, angleUpdateOf]
  split
  · decide
  · exact wrapAngle_range _

/-- The tracker's own update leaves every other promise's subject alone. -/
theorem keeps_withAtr {a : Atr} {s : State} (h : s.TrackerInRange → (s.withAtr a).TrackerInRange) :
    Keeps s (s.withAtr a) :=
  keeps_of_governor ((Changes.withAtr s a).mono (by decide)) (fun hs => hs) copyLimited_self id rfl h rfl

theorem keeps_trackerUpdate (f : FilteredSet) (s : State) : Keeps s (trackerUpdate f s) := by
  have h := trackerUpdate_changes f s
  refine keeps_of_governor (h.mono (by decide))
    (governorSound_congr (h .dgv (by decide)) (running_of_rct (h .rct (by decide)))) (copyLimited_of_dgv (h .dgv (by decide)))
    (by rw [h .dgv (by decide)]; exact id) (by rw [h .rtb (by decide)]) (trackerInRange_update f) ?_
  rw [trackerUpdate]
  cases (verdictOf f s).notice with
  | none => rfl
  | some src => exact occur_ring src _

/-! One conversion set. -/

theorem keeps_completeSet (raw : RawSet) (s : State) : Keeps s (completeSet raw s) := by
  have hset (m : Mfe) : Keeps s (s.withMfe m) := keeps_of_quiet (Changes.withMfe s m) id
  exact .ite (fun _ => (hset _).trans (keeps_occur _ _)) fun _ => hset _

theorem keeps_filterSet (t : TrimmedSet) (s : State) : Keeps s (filterSet t s) := by
  have hbank (b : Ffb) : Keeps s (s.withFfb b) := keeps_of_quiet (Changes.withFfb s b) id
  exact .ite (fun _ => .ite (fun _ => (hbank _).trans (keeps_occur _ _)) fun _ => hbank _) fun _ => hbank _

theorem keeps_takeUpdate (u : AngleUpdate) (s : State) : Keeps s (takeUpdate u s) :=
  .trans (.ite (fun _ => keeps_withSsq _ s) fun _ => .refl s) (keeps_doDeeds _ _ _ _ _)

theorem keeps_checked (raw : RawSet) (s : State) : Keeps s (OneSet.checked raw s) :=
  .ite (fun _ => (keeps_completeSet raw s).trans ((keeps_tripCheck _).trans (keeps_settleAt _ _ _)))
    fun _ => keeps_completeSet raw s

theorem keeps_dropOrder (s : State) : Keeps s s.dropOrder := keeps_of_quiet (Changes.withOrders s _) id

theorem keeps_conversionSet (raw : RawSet) (s : State) : Keeps s (conversionSet raw s) := by
  rw [OneSet.conversionSet_takes]
  exact (((keeps_checked raw s).trans (keeps_filterSet _ _)).trans (keeps_trackerUpdate _ _)).trans
    ((keeps_takeUpdate _ _).trans (keeps_dropOrder _))

/-! Parameters (R182, R183). -/

/-- The built-in default of a parameter. -/
theorem defaults_get (p : ParamId) : Params.defaults.get p.place = p.info.dflt := by cases p <;> rfl

theorem paramsInRange_withPar {s : State} {p : ParamId} {v : Int} (h : p.inRange v = true) (hs : s.ParamsInRange) :
    (s.withPar p v).ParamsInRange := by
  intro q
  by_cases hq : p = q
  · rw [← hq, State.par_withPar_same]; exact h
  · rw [State.par_withPar_other s p q v hq]; exact hs q

/-- A parameter other than I_MAX moves no limit of the currents. -/
theorem keeps_withPar {s : State} {p : ParamId} {v : Int} (h : p.inRange v = true) (hp : p ≠ .iMax) :
    Keeps s (s.withPar p v) where
  list := fun hs => hs
  governor := fun hs => hs
  setpoints := fun hs => hs
  limited := by
    rintro ⟨hbridges, hentries, hcopy⟩
    refine ⟨fun b => ?_, hentries, hcopy⟩
    rw [State.parN, State.par_withPar_other s p .iMax v hp]
    exact hbridges b
  tracker := fun hs => hs
  params := paramsInRange_withPar h
  buffers := fun hs => hs

/-- Targets and setpoints brought down to I_MAX: they hold their limit whatever stood before (R56). -/
theorem clampToIMax_within (s : State) (b : Fin 4) :
    ((clampToIMax s).crg.bridges.get b).target ≤ (clampToIMax s).parN .iMax
      ∧ ((clampToIMax s).crg.bridges.get b).setpoint ≤ (clampToIMax s).parN .iMax * 256 := by
  simp only [clampToIMax, State.withCrg_crg, Tab.get_map]
  exact ⟨min_le_right _ _, min_le_right _ _⟩

theorem clampToIMax_lowered (s : State) : Lowered s (clampToIMax s) :=
  lowered_map fun _ => ⟨min_le_left _ _, min_le_left _ _⟩

/-- The effects of a write on the firing list and the notices keep every promise (R92, R161). -/
theorem keeps_clampMisfires (s : State) : Keeps s (clampMisfires s) :=
  keeps_of_list ((Changes.withFls s _).mono (by decide)) (fun h => h) id

theorem keeps_judgeAlert (s : State) : Keeps s (judgeAlert s) := keeps_of_quiet (Changes.withNtu s _) id

theorem keeps_writeIMax {s : State} {v : Int} (h : ParamId.inRange .iMax v = true) :
    Keeps s (clampToIMax (s.withPar .iMax v)) :=
  have hclamp := clampToIMax_changes (s.withPar .iMax v)
  { list := fun hs => hs
    governor := fun hs => hs
    setpoints := setpointsOff_of_lowered id (clampToIMax_lowered (s.withPar .iMax v))
    limited := fun ⟨_, hentries, hcopy⟩ => ⟨clampToIMax_within _, hentries, hcopy⟩
    tracker := fun hs => hs
    params := fun hs => paramsInRange_congr (hclamp .params (by decide)) (paramsInRange_withPar h hs)
    buffers := fun hs => hs }

theorem keeps_writePar {s : State} {p : ParamId} {v : Int} (h : p.inRange v = true) : Keeps s (writePar p v s) := by
  unfold writePar
  split
  · exact keeps_writeIMax h
  · exact (keeps_withPar h (by decide)).trans (keeps_clampMisfires _)
  · exact (keeps_withPar h (by decide)).trans (keeps_judgeAlert _)
  · next hp _ _ => exact keeps_withPar h hp

theorem inRange_of_no_fault {s : State} {p : ParamId} {v : Int} (h : paramFault s p v = none) : p.inRange v = true := by
  unfold paramFault at h
  split at h
  · cases h
  · next hr => simpa using hr

theorem keeps_putParam {q : Byte × BitVec 32} {s t : State} (ht : putParam q s = .ok t) : Keeps s t := by
  unfold putParam at ht
  split at ht
  · cases ht
  · split at ht
    · cases ht
    · next hfault =>
      obtain rfl := Except.ok.inj ht
      exact keeps_writePar (inRange_of_no_fault hfault)

theorem keeps_putParams (pairs : List (Byte × BitVec 32)) (s : State) : Keeps s (putParams pairs s).1 := by
  induction pairs generalizing s with
  | nil => exact .refl s
  | cons q rest ih =>
    unfold putParams
    split
    · exact .refl s
    · next t ht => exact (keeps_putParam ht).trans (ih t)

/-! The store and the resets. -/

theorem keeps_installSettings {c : Settings} (hparams : ∀ p : ParamId, p.inRange (c.params.get p.place) = true)
    (hlimits : ∀ i, (c.responses.get i).resp.iLimit ≤ 4096) (s : State) : Keeps s (installSettings c s) where
  list := fun hs => hs
  governor := fun hs => hs
  setpoints := setpointsOff_of_lowered id (lowered_map fun _ => ⟨min_le_left _ _, min_le_left _ _⟩)
  limited := fun ⟨_, _, hcopy⟩ => ⟨clampToIMax_within _, hlimits, hcopy⟩
  tracker := fun hs => hs
  params := fun _ => hparams
  buffers := fun hs => hs

theorem keeps_seedFromParams (s : State) : Keeps s (seedFromParams s) := by
  have hseeded (t : State) : Keeps t (t.withFls { t.fls with refAvg := Tab.fill 4 (t.parN .refavgSeed) }) :=
    keeps_of_list ((Changes.withFls t _).mono (by decide)) (fun hs => hs) id
  have hdelays (t : State) (f : Bridge → Nat) :
      Keeps t (t.withCrg ⟨t.crg.bridges.map fun b => { b with alphaPrev := f b }⟩) :=
    keeps_of_lowered (Changes.withCrg t _) id (lowered_map fun _ => ⟨le_rfl, le_rfl⟩) id
  refine .trans (keeps_withAtr fun hs => ?_) (.trans (hdelays _ _) (hseeded _))
  obtain ⟨hlow, hhigh⟩ := wNom_range s
  exact ⟨hlow, hhigh, hs.2.2⟩

theorem keeps_finishLoad (s : State) : Keeps s (finishLoad s) := by
  have hload := keeps_installSettings (Loading.loadImage_inRange (Loading.readRows s).list)
    (Loading.loadImage_limited _) s
  have hinstalled : Keeps s (Loading.installed s) :=
    Loading.installed_holds hload (hload.trans (keeps_seedFromParams _))
  rw [Loading.finishLoad_eq]
  refine hinstalled.trans (.trans (.trans ?_ (keeps_judgeAlert _)) (keeps_occurTimes _ _ _))
  exact keeps_of_quiet (Changes.withSst _ _) id

theorem keeps_saveRow (n : Fin 512) (errors : BitVec 39) (s : State) : Keeps s (saveRow n errors s) := by
  have hstore (t : State) (v : Sst) : Keeps t (t.withSst v) := keeps_of_quiet (Changes.withSst t v) id
  unfold saveRow nextRow
  dsimp only
  split
  · split
    · exact (hstore s _).trans ((hstore _ _).trans (hstore _ _))
    · exact ((hstore s _).trans ((hstore _ _).trans (hstore _ _))).trans (keeps_occur _ _)
  · exact ((hstore s _).trans (hstore _ _)).trans (keeps_occur _ _)

/-- Every promise, of a state that a reset has brought about. -/
structure Meets (t : State) : Prop where
  list : t.NoneHeld
  governor : t.GovernorSound
  setpoints : t.SetpointsOff
  limited : t.Limited
  tracker : t.TrackerInRange
  params : t.ParamsInRange
  buffers : t.BuffersInRange

theorem Meets.keeps {t : State} (h : Meets t) (s : State) : Keeps s t :=
  ⟨fun _ => h.list, fun _ => h.governor, fun _ => h.setpoints, fun _ => h.limited, fun _ => h.tracker, fun _ => h.params,
    fun _ => h.buffers⟩

theorem meets_powerOn (rows : Tab Row 512) (activity : Activity) (pins : Pins) (tripIn : Bool)
    (orders : List UpdateOrder) (freeCount : Nat) (pending : List Instr) :
    Meets (State.powerOn rows activity pins tripIn orders freeCount pending) where
  list := fun _ => rfl
  governor := governorSound_of_steady rfl rfl rfl rfl rfl rfl
  setpoints := fun _ b => by simp [State.powerOn, Crg.atReset]
  limited := by
    refine ⟨fun b => by simp [State.powerOn, Crg.atReset], fun i => ?_, fun c hc => by cases hc⟩
    simp [State.powerOn, Rtb.atReset, Settings.defaults, ResponseEntry.dflt]
  tracker := by simp [State.powerOn, Atr.atReset, State.TrackerInRange, wNominal]
  params := fun p => by
    show p.inRange (Params.defaults.get p.place) = true
    rw [defaults_get]
    exact Loading.inRange_default p
  buffers := ⟨Nat.zero_le _, Nat.zero_le _, Nat.zero_le _⟩

theorem stopSave_changes (s : State) : Changes [.sst, .freeCount] s (stopSave s) := by
  unfold stopSave
  split
  · exact ((Changes.withSst s _).mono (by decide)).trans ((Changes.withFreeCount _ _).mono (by decide))
  · exact .refl _ s

theorem keeps_softReset (s : State) : Keeps s (softReset s) := by
  have hstop := stopSave_changes s
  have hparams : (softReset s).params = s.params := hstop .params (by decide)
  have hrtb : (stopSave s).rtb = s.rtb := hstop .rtb (by decide)
  have hdgv : (stopSave s).dgv = s.dgv := hstop .dgv (by decide)
  have hentries : (softReset s).rtb.entries = s.rtb.entries := by
    show (stopSave s).rtb.entries = _
    rw [hrtb]
  exact {
    list := fun _ _ => rfl
    governor := fun _ => governorSound_of_steady rfl rfl rfl rfl rfl rfl
    setpoints := fun _ _ b => by simp [softReset, Crg.atReset]
    limited := by
      rintro ⟨-, hlimits, -⟩
      exact ⟨fun b => by simp [softReset, Crg.atReset], hentries ▸ hlimits, fun c hc => by cases hc⟩
    tracker := fun _ => by
      obtain ⟨hlow, hhigh⟩ := wNom_range (stopSave s)
      exact ⟨hlow, hhigh, by simp [softReset, Atr.atReset]⟩
    params := paramsInRange_congr hparams
    buffers := by
      rintro ⟨-, hhistory, -⟩
      refine ⟨Nat.zero_le _, ?_, Nat.zero_le _⟩
      have hlength : (softReset s).dgv.history.length = s.dgv.history.length := by
        rw [← hdgv]; exact List.length_map _
      rw [hlength]
      exact hhistory }

/-! The owners of requests. -/

theorem keeps_putTarget (p : Byte × BitVec 16) (s : State) : Keeps s (putTarget p s) where
  list := fun hs => hs
  governor := fun hs => hs
  setpoints := fun hs hrun b => by
    rw [putTarget, State.withCrg_crg, Tab.modify, Tab.get_set]
    split
    · next h => exact h ▸ hs hrun _
    · exact hs hrun b
  limited := by
    rintro ⟨hbridges, hentries, hcopy⟩
    refine ⟨fun b => ?_, hentries, hcopy⟩
    rw [putTarget, State.withCrg_crg, Tab.modify, Tab.get_set]
    split
    · exact ⟨min_le_right _ _, (hbridges _).2⟩
    · exact hbridges b
  tracker := fun hs => hs
  params := fun hs => hs
  buffers := fun hs => hs

theorem keeps_putTargets (pairs : List (Byte × BitVec 16)) (s : State) : Keeps s (putTargets pairs s) := by
  induction pairs generalizing s with
  | nil => exact .refl s
  | cons p rest ih => exact (keeps_putTarget p s).trans (ih _)

theorem keeps_writeEach {α : Type} {put : Nat → α → State → Option State}
    (hput : ∀ i r {s t : State}, put i r s = some t → Keeps s t) (i : Nat) (recs : List α) (s : State) :
    Keeps s (writeEach put i recs s).1 := by
  induction recs generalizing i s with
  | nil => exact .refl s
  | cons r rest ih =>
    unfold writeEach
    split
    · exact .refl s
    · next t ht => exact (hput i r ht).trans (ih (i + 1) t)

theorem keeps_putSlot (k : Nat) (r : SlotRec) {s t : State} (ht : putSlot k r s = some t) : Keeps s t := by
  unfold putSlot at ht
  split at ht
  · obtain rfl := Option.some.inj ht
    exact keeps_withSsq _ s
  · cases ht

theorem keeps_putResponse (i : Nat) (r : ResponseRec) {s t : State} (ht : putResponse i r s = some t) : Keeps s t := by
  obtain ⟨e, he, rfl⟩ := Option.map_eq_some_iff.mp ht
  exact {
    list := fun hs => hs
    governor := fun hs => hs
    setpoints := fun hs => hs
    limited := by
      rintro ⟨hbridges, hentries, hcopy⟩
      refine ⟨hbridges, fun n => ?_, hcopy⟩
      rw [State.withRtb_rtb, Tab.get_set]
      split
      · exact Loading.responseOfRec_limited he
      · exact hentries n
    tracker := fun hs => hs
    params := fun hs => hs
    buffers := fun hs => hs }

theorem running_false {s : State} (hrun : s.rct.state ≠ .run) (hstop : s.rct.state ≠ .stopping) : s.running = false := by
  simp [State.running, hrun, hstop]

theorem keeps_acceptStart {s : State} (hstate : s.rct.state = .standby) : Keeps s (acceptStart s) := by
  have hoff : s.running = false := running_false (by simp [hstate]) (by simp [hstate])
  have hsync : Keeps s (s.withRct { s.rct with state := .sync, syncTimer := 0, settleCount := 0 }) :=
    keeps_withRct fun hrun => by simp [hoff] at hrun
  have hseeded (t : State) : Keeps t (seedFiring t) :=
    keeps_of_list ((Changes.withFls t _).mono (by decide)) (fun hs => hs) id
  exact hsync.trans ((keeps_zeroSetpoints _).trans ((hseeded _).trans (keeps_withSsq _ _)))

theorem keeps_takeStart (s : State) : Keeps s (takeStart s).1 := by
  refine .ite_fst (fun _ => .refl s) fun hstate => .ite_fst (fun _ => .refl s) fun _ => .ite_fst (fun _ => .refl s) fun _ =>
    .ite_fst (fun _ => .refl s) fun _ => ?_
  split
  · exact .refl s
  · exact keeps_acceptStart (not_not.mp hstate)

theorem keeps_takeStopSoft (s : State) : Keeps s (takeStopSoft s).1 := by
  unfold takeStopSoft
  split
  · exact .refl s
  · exact .refl s
  · exact keeps_toStandby _ s
  · exact (keeps_withRct fun _ => rfl).trans (keeps_zeroTargets _)
  · exact .refl s

theorem keeps_takeGetParam (ids : List Byte) (s : State) : Keeps s (takeGetParam ids s).1 := by
  refine .ite_fst (fun _ => .refl s) fun _ => ?_
  split
  · exact .refl s
  · exact .refl s

theorem keeps_takeSetWatch (unit signal : Byte) (threshold : BitVec 32) (direction mode : Byte) (s : State) :
    Keeps s (takeSetWatch unit signal threshold direction mode s).1 := by
  unfold takeSetWatch
  split
  · exact .ite_fst (fun _ => .refl s) fun _ => .ite_fst (fun _ => .refl s) fun _ =>
      keeps_of_quiet (Changes.withWcu s _) id
  · exact .refl s

theorem keeps_withNtu (v : Ntu) (s : State) : Keeps s (s.withNtu v) := keeps_of_quiet (Changes.withNtu s v) id

theorem keeps_withSst (v : Sst) (s : State) : Keeps s (s.withSst v) := keeps_of_quiet (Changes.withSst s v) id

theorem keeps_withFfb (v : Ffb) (s : State) : Keeps s (s.withFfb v) := keeps_of_quiet (Changes.withFfb s v) id

theorem keeps_withTrc {v : Trc} (s : State) (h : s.trc.ring.length ≤ 256 → v.ring.length ≤ 256) :
    Keeps s (s.withTrc v) := keeps_of_quiet (Changes.withTrc s v) h

/-- The marks of the response table are nobody's promise. -/
theorem keeps_clearMarks (mask : BitVec 32) (s : State) : Keeps s (clearMarks mask s) :=
  keeps_of_governor ((Changes.withRtb s _).mono (by decide)) (fun hs => hs) copyLimited_self id rfl id rfl

theorem keeps_takeTrigger (c : TriggerCause) (s : State) : Keeps s (takeTrigger c s) := by
  have h : Changes [.ntu, .trc] s (takeTrigger c s) := by
    rw [takeTrigger_frame]
    intro f hf
    cases f <;> first | rfl | exact absurd (by decide) hf
  exact keeps_of_quiet h (by rw [takeTrigger_ring]; exact id)

theorem judgeFreeze_changes (s : State) : Changes [.ntu, .trc] s (judgeFreeze s) := by
  rw [judgeFreeze_frame]
  intro f hf
  cases f <;> first | rfl | exact absurd (by decide) hf

theorem keeps_judgeFreeze (s : State) : Keeps s (judgeFreeze s) :=
  keeps_of_quiet (judgeFreeze_changes s) (by rw [judgeFreeze_ring]; exact id)

/-- A request refused after one check, or taken. -/
theorem keeps_checked1 {α : Type} {c : Prop} [Decidable c] {s t : State} {a b : α} (h : Keeps s t) :
    Keeps s (if c then (s, a) else (t, b)).1 := .ite_fst (fun _ => .refl s) fun _ => h

theorem keeps_checked2 {α : Type} {c d : Prop} [Decidable c] [Decidable d] {s t : State} {a b e : α} (h : Keeps s t) :
    Keeps s (if c then (s, a) else if d then (s, b) else (t, e)).1 := .ite_fst (fun _ => .refl s) fun _ => keeps_checked1 h

/-- Every request keeps the promises: its owner writes within the ranges that the promises name. -/
theorem keeps_perform (i : Instr) (s : State) : Keeps s (perform i s).1 := by
  cases i with
  | start => exact keeps_takeStart s
  | stopSoft => exact keeps_takeStopSoft s
  | stopImmediate => exact .ite_fst (fun _ => keeps_toStandby _ s) fun _ => .refl s
  | clearHalt => exact keeps_checked2 (keeps_toStandby _ s)
  | setTargets _ pairs => exact keeps_checked2 (keeps_putTargets pairs s)
  | getParam _ ids => exact keeps_takeGetParam ids s
  | setParam _ pairs => exact keeps_checked2 (keeps_putParams pairs s)
  | writeSlots _ first recs => exact keeps_checked2 (keeps_writeEach keeps_putSlot _ recs s)
  | writeResponses _ first recs => exact keeps_checked2 (keeps_writeEach keeps_putResponse _ recs s)
  | clearMarks _ mask => exact keeps_clearMarks mask s
  | writeFilter _ recs =>
    refine .ite_fst (fun _ => .refl s) fun _ => keeps_checked2 ?_
    rw [TrimFilterMarks.putFilters_eq]
    exact keeps_withFfb _ s
  | writeTrim _ recs =>
    refine keeps_checked2 ?_
    rw [TrimFilterMarks.putTrims_eq]
    exact keeps_of_quiet (Changes.withMfe s _) id
  | filterControlEnable => exact keeps_checked2 (keeps_withFfb _ s)
  | filterControlDisable => exact keeps_checked2 (keeps_withFfb _ s)
  | ackNotices => exact keeps_checked1 ((keeps_withNtu _ s).trans (keeps_judgeAlert _))
  | setNoticeEnableAssign | setNoticeEnableSet | setNoticeEnableClear =>
    exact keeps_checked1 ((keeps_withNtu _ s).trans (keeps_judgeAlert _))
  | setNoticeLevels => exact keeps_checked2 ((keeps_withNtu _ s).trans (keeps_judgeAlert _))
  | setWatch => exact keeps_takeSetWatch _ _ _ _ _ s
  | rearmWatch => exact keeps_of_quiet (Changes.withWcu s _) id
  | traceControlArm => exact keeps_withTrc s fun _ => Nat.zero_le _
  | traceControlDisable => exact keeps_withTrc s id
  | traceControlTrigger => exact .ite_fst (fun _ => keeps_takeTrigger .request s) fun _ => .refl s
  | traceControlSetMask => exact keeps_checked1 (keeps_withTrc s id)
  | saveSettings | loadSettings => exact keeps_checked2 (keeps_withSst _ s)
  | readSlots | readResponses | readTrim | readHistory | readTrace => exact keeps_checked1 (.refl s)
  | _ => exact .refl s

/-! The link (R176 to R180, R185). -/

theorem keeps_handle (f : Frame) (s : State) : Keeps s (handle f s).1 := by
  unfold handle
  split
  · exact keeps_perform _ s
  · exact .refl s

theorem keeps_withLnk {l : Lnk} (s : State) (h : s.lnk.inbox.length ≤ 2 → l.inbox.length ≤ 2) : Keeps s (s.withLnk l) :=
  keeps_of_changes (Changes.withLnk s l) id h id

/-- An operation that begins by writing the link's state. -/
theorem Keeps.afterLink {s t : State} {l : Lnk} (h : Keeps (s.withLnk l) t)
    (hinbox : s.lnk.inbox.length ≤ 2 → l.inbox.length ≤ 2) : Keeps s t := (keeps_withLnk s hinbox).trans h

theorem keeps_sendReply (f : Frame) (c : ResultCode) (payload : List Byte) (s : State) :
    Keeps s (sendReply f c payload s) := keeps_withLnk s id

theorem keeps_arrive (f : Frame) {s : State} (h : s.lnk.inbox.length < 2) : Keeps s (arrive f s) :=
  keeps_of_changes (arrive_changes f s) id (fun _ => by rw [arrive_inbox, List.length_append, List.length_singleton]; omega)
    id

theorem keeps_serve (f : Frame) {owner : State → State × Answer} {s : State} (h : Keeps s (owner s).1) :
    Keeps s (serve f owner s) := by
  have hsettled : Keeps s (settle (owner s).1) := h.trans (keeps_settle _)
  unfold serve
  dsimp only
  split
  · exact hsettled.trans (keeps_sendReply _ _ _ _)
  · exact hsettled

theorem keeps_countLinkFault (s : State) : Keeps s (countLinkFault s) :=
  .afterLink (keeps_occur _ _) id

theorem keeps_dropFrame (s : State) : Keeps s (dropFrame s) :=
  .afterLink (keeps_countLinkFault _) id

theorem keeps_breakFrame (s : State) : Keeps s (breakFrame s) := .ite (fun _ => .refl s) fun _ => keeps_dropFrame s

theorem keeps_arriveAndServe (f : Frame) {owner : State → State × Answer} (s : State)
    (howner : ∀ t, Keeps t (owner t).1) : Keeps s (arriveAndServe f owner s) := by
  refine .ite (fun hempty => ?_) fun _ => .ite (fun hone => keeps_arrive f hone) fun _ =>
    .afterLink (keeps_countLinkFault _) id
  exact (keeps_arrive f (by omega)).trans (keeps_serve f (howner _))

theorem keeps_takeByte (b : Byte) (s : State) : Keeps s (takeByte b s) := by
  unfold takeByte
  split
  · exact .ite (fun _ => keeps_withLnk s id) fun _ => .refl s
  · exact .ite (fun _ => keeps_withLnk s id) fun _ => keeps_dropFrame s
  · exact keeps_withLnk s id
  · refine .ite (fun _ => keeps_withLnk s id) fun _ => .ite (fun _ => ?_) fun _ => keeps_dropFrame s
    exact .afterLink (keeps_arriveAndServe _ _ (keeps_handle _)) id

theorem keeps_replySent (s : State) : Keeps s (replySent s) := by
  unfold replySent
  split
  · exact .refl s
  · refine .ite (fun _ => keeps_softReset s) fun _ => ?_
    have hleft : Keeps s (s.withLnk { s.lnk with reply := none, inbox := s.lnk.inbox.tail }) :=
      keeps_withLnk s fun h => (by rw [List.length_tail]; omega)
    dsimp only
    split
    · exact hleft
    · exact hleft.trans (keeps_serve _ (keeps_handle _ _))

theorem keeps_finishReplies (n : Nat) (s : State) : Keeps s (finishReplies n s) := by
  induction n generalizing s with
  | zero => exact .refl s
  | succ n ih => exact .ite (fun _ => (keeps_replySent s).trans (ih _)) fun _ => .refl s

theorem keeps_request (f? : Option Frame) {owner : State → State × Answer} (s : State)
    (howner : ∀ t, Keeps t (owner t).1) : Keeps s (request f? owner s) := by
  refine .ite (fun _ => .refl s) fun _ => ?_
  split
  · exact (keeps_finishReplies _ s).trans (keeps_arriveAndServe _ _ howner)
  · exact .refl s

theorem keeps_loadEnds (s : State) : Keeps s (loadEnds s) := by
  unfold loadEnds
  split
  · exact .ite (fun _ => .refl s) fun _ => keeps_finishLoad s
  · refine ((keeps_finishLoad s).trans (keeps_settle _)).trans ?_
    unfold replyToLoad
    split
    · exact keeps_sendReply _ _ _ _
    · exact .refl _
  · exact .refl s

/-! The firing list stays settled (R88, R90): a command ends in the union taken, or leaves what the union and the list depend
on as they are. -/

theorem settled_settle {s t : State} (h : s.ListSettled) (k : Keeps s t) : (settle t).ListSettled :=
  settle_settled t (k.list h.2)

/-- What leaves the firing list and the blocks that raise a reason leaves the list settled. -/
theorem settled_of_changes {fs : List Field} {s t : State} (h : s.ListSettled) (k : Changes fs s t)
    (hfs : ∀ f ∈ fs, f ∉ [Field.rct, .atr, .dgv, .ssq, .fls] := by decide) : t.ListSettled := by
  have hkept {f : Field} (hf : f ∈ [Field.rct, .atr, .dgv, .ssq, .fls]) : f ∉ fs := fun hmem => hfs f hmem hf
  have hfls : t.fls = s.fls := k .fls (hkept (by decide))
  exact settled_congr h (k .rct (hkept (by decide))) (k .atr (hkept (by decide))) (k .dgv (hkept (by decide)))
    (k .ssq (hkept (by decide))) (congrArg Fls.blocked hfls) (congrArg Fls.list hfls)

theorem settled_ite {c : Prop} [Decidable c] {s t : State} (ht : t.ListSettled) (hs : s.ListSettled) :
    (if c then t else s).ListSettled := by
  split
  · exact ht
  · exact hs

/-! Conversion sets. -/

theorem settled_doDeeds (o : UpdateOrder) (u : AngleUpdate) (v : View) (l : List (Nat × Deed)) {s : State}
    (h : s.NoneHeld) : (doDeeds o u v l s).ListSettled := by
  induction l generalizing s v with
  | nil => exact settle_settled s h
  | cons x rest ih => exact ih _ (((keeps_settleAt o x.1 s).trans (keeps_doDeed _ u x.2 _)).list h)

theorem settled_takeUpdate (u : AngleUpdate) {s : State} (h : s.NoneHeld) : (takeUpdate u s).ListSettled :=
  settled_doDeeds _ u _ _ ((Keeps.ite (fun _ => keeps_withSsq _ s) fun _ => .refl s).list h)

theorem settled_conversionSet (raw : RawSet) {s : State} (h : s.ListSettled) : (conversionSet raw s).ListSettled := by
  rw [OneSet.conversionSet_takes]
  refine settled_of_changes (settled_takeUpdate _ ?_) (Changes.withOrders _ _)
  exact (keeps_trackerUpdate _ _).list ((keeps_filterSet _ _).list ((keeps_checked raw s).list h.2))

/-! The store and the resets. -/

theorem settled_saveRow (n : Fin 512) (errors : BitVec 39) {s : State} (h : s.ListSettled) :
    (saveRow n errors s).ListSettled := by
  have hstore {t : State} (v : Sst) (ht : t.ListSettled) : (t.withSst v).ListSettled := ht
  unfold saveRow nextRow
  dsimp only
  split
  · split
    · exact hstore _ (hstore _ (hstore _ h))
    · exact settled_of_changes (hstore _ (hstore _ (hstore _ h))) (occur_changes _ _)
  · exact settled_of_changes (hstore _ (hstore _ h)) (occur_changes _ _)

/-- A load leaves the run state, the plant line, the tracker's state, the governor and the pending sync, and so the union. -/
theorem settled_finishLoad {s : State} (h : s.ListSettled) : (finishLoad s).ListSettled :=
  settled_of_changes (Loading.installed_holds (P := State.ListSettled) h h) (Loading.finishLoad_changes s)

/-! The link. -/

theorem settled_serve (f : Frame) {owner : State → State × Answer} {s : State} (h : s.ListSettled)
    (howner : Keeps s (owner s).1) : (serve f owner s).ListSettled := by
  have hsettled : (settle (owner s).1).ListSettled := settled_settle h howner
  unfold serve
  dsimp only
  split
  · exact settled_of_changes hsettled (Changes.withLnk _ _)
  · exact hsettled

theorem settled_countLinkFault {s : State} (h : s.ListSettled) : (countLinkFault s).ListSettled := by
  have hcounted : (s.withLnk { s.lnk with errors := satInc 65535 s.lnk.errors }).ListSettled := h
  exact settled_of_changes hcounted (occur_changes _ _)

theorem settled_arriveAndServe (f : Frame) {owner : State → State × Answer} {s : State} (h : s.ListSettled)
    (howner : ∀ t, Keeps t (owner t).1) : (arriveAndServe f owner s).ListSettled :=
  settled_ite (settled_serve f (arrive_settled f s h) (howner _))
    (settled_ite (arrive_settled f s h) (settled_countLinkFault (s := s.withLnk { s.lnk with overrun := true }) h))

theorem settled_dropFrame {s : State} (h : s.ListSettled) : (dropFrame s).ListSettled :=
  settled_countLinkFault (s := s.withLnk { s.lnk with rx := .hunt, partialFrame := [] }) h

theorem settled_takeByte (b : Byte) {s : State} (h : s.ListSettled) : (takeByte b s).ListSettled := by
  unfold takeByte
  split
  · exact settled_ite (s := s) h h
  · exact settled_ite (settled_of_changes h (Changes.withLnk s _)) (settled_dropFrame h)
  · exact settled_of_changes h (Changes.withLnk s _)
  · refine settled_ite (settled_of_changes h (Changes.withLnk s _)) (settled_ite ?_ (settled_dropFrame h))
    exact settled_arriveAndServe _ (settled_of_changes h (Changes.withLnk s _)) (keeps_handle _)

theorem settled_softReset (s : State) : (softReset s).ListSettled := ⟨rfl, fun _ => rfl⟩

theorem settled_replySent {s : State} (h : s.ListSettled) : (replySent s).ListSettled := by
  unfold replySent
  split
  · exact h
  · refine settled_ite (settled_softReset s) ?_
    have hleft : (s.withLnk { s.lnk with reply := none, inbox := s.lnk.inbox.tail }).ListSettled := h
    dsimp only
    split
    · exact hleft
    · exact settled_serve _ hleft (keeps_handle _ _)

theorem settled_finishReplies (n : Nat) {s : State} (h : s.ListSettled) : (finishReplies n s).ListSettled := by
  induction n generalizing s with
  | zero => exact h
  | succ n ih => exact settled_ite (ih (settled_replySent h)) h

theorem settled_request (f? : Option Frame) {owner : State → State × Answer} {s : State} (h : s.ListSettled)
    (howner : ∀ t, Keeps t (owner t).1) : (request f? owner s).ListSettled := by
  refine settled_ite h ?_
  split
  · exact settled_arriveAndServe _ (settled_finishReplies _ h) howner
  · exact h

theorem settled_loadEnds {s : State} (h : s.ListSettled) : (loadEnds s).ListSettled := by
  unfold loadEnds
  split
  · exact settled_ite h (settled_finishLoad h)
  · have hloaded : (settle (finishLoad s)).ListSettled := settled_settle h (keeps_finishLoad s)
    unfold replyToLoad
    split
    · exact settled_of_changes hloaded (Changes.withLnk _ _)
    · exact hloaded
  · exact h

/-! One step of the queue. -/

/-- What a command keeps: every promise, the firing list's among them. -/
structure Sound (s t : State) : Prop where
  keeps : Keeps s t
  settled : s.ListSettled → t.ListSettled

theorem Sound.refl (s : State) : Sound s s := ⟨.refl s, id⟩

/-- A command whose effects the firing list takes before it ends. -/
theorem Keeps.settled {s t : State} (h : Keeps s t) : Sound s (settle t) :=
  ⟨h.trans (keeps_settle t), fun hs => settled_settle hs h⟩

theorem sound_ite {c : Prop} [Decidable c] {s t : State} (h : c → Sound s t) : Sound s (if c then t else s) := by
  split
  · next hc => exact h hc
  · exact .refl s

theorem sound_whileAwake {f : State → State} {s : State} (h : Sound s (f s)) : Sound s (whileAwake f s) := by
  unfold whileAwake
  split
  · exact .refl s
  · exact h

theorem sound_governorEvent {due : AngleUpdate → State → Bool} {act : AngleUpdate → State → State × Option HaltCause}
    {s : State} (hact : ∀ u, s.running = true → due u s = true → Keeps s (act u s).1) : Sound s (governorEvent due act s) := by
  unfold governorEvent
  split
  · next u _ =>
    refine sound_ite fun hdue => ?_
    obtain ⟨hrun, hdue⟩ := Bool.and_eq_true_iff.mp hdue
    exact ((hact u hrun hdue).trans (keeps_askHalt _ _)).settled
  · exact .refl s

theorem sound_of_next {s t u : State} (h : Sound s u) (e : (.next u : Result) = .next t) : Sound s t := by
  obtain rfl := Host.Outcome.next.inj e
  exact h

/-- A command whose meaning is a request of the table. -/
theorem sound_of_request {i : Instr} {s t : State} (e : exec i s = .next t)
    (hrequest : exec i s = .next (request (frameOf i) (perform i) s)) : Sound s t :=
  sound_of_next ⟨keeps_request _ s (keeps_perform i), fun h => settled_request _ h (keeps_perform i)⟩ (hrequest.symm.trans e)

theorem sound_powerOn (rows : Tab Row 512) (activity : Activity) (pins : Pins) (tripIn : Bool) (orders : List UpdateOrder)
    (freeCount : Nat) (pending : List Instr) (s : State) :
    Sound s (State.powerOn rows activity pins tripIn orders freeCount pending) :=
  ⟨(meets_powerOn _ _ _ _ _ _ _).keeps s, fun _ => ⟨rfl, fun _ => rfl⟩⟩

/-- The union taken of a state whose list is settled is taken already (R88, R90). -/
theorem sound_listClose (s : State) : Sound s (let r := takeClose s; askMisfires r.2 r.1) :=
  ⟨(keeps_takeClose s).trans (keeps_askMisfires _ _), fun h => by rw [takeClose_settled s h.1]; exact h⟩

theorem sound_unblock (s : State) : Sound s (takeUnblock s) :=
  ⟨keeps_takeUnblock s, fun h => by rw [takeUnblock_settled s h.1]; exact h⟩

theorem keeps_enterLocked (s : State) : Keeps s (enterLocked s) := by
  have hlocked : Keeps s (s.withAtr { s.atr with state := .locked, lockCount := 0 }) := keeps_withAtr id
  exact hlocked.trans (keeps_occur _ _)

theorem keeps_enterLost (s : State) : Keeps s (enterLost s) := by
  have hlost : Keeps s (s.withAtr { s.atr with state := .lost }) := keeps_withAtr id
  exact hlost.trans (keeps_occur _ _)

theorem state_of_due {s : State} {d : GovernorState} {b : Bool} (h : (s.dgv.state == d && b) = true) : s.dgv.state = d := by
  simpa using (Bool.and_eq_true_iff.mp h).1

theorem not_episode_of_due {s : State} {b : Bool} (h : (!(s.dgv.state == .episode) && b) = true) :
    s.dgv.state ≠ .episode := by
  simpa using (Bool.and_eq_true_iff.mp h).1

theorem sound_exec (i : Instr) {s t : State} (e : exec i s = .next t) : Sound s t := by
  cases i with
  | powerOnReset | resetNAsserted => exact sound_of_next (sound_powerOn _ _ _ _ _ _ _ s) e
  | loadEnd => exact sound_of_next ⟨keeps_loadEnds s, settled_loadEnds⟩ e
  | softReset => exact sound_of_next (sound_whileAwake ⟨keeps_softReset s, fun _ => settled_softReset s⟩) e
  | conversionSet raw =>
    exact sound_of_next (sound_whileAwake ⟨keeps_conversionSet raw s, settled_conversionSet raw⟩) e
  | trackLocked => exact sound_of_next (sound_whileAwake (sound_ite fun _ => (keeps_enterLocked s).settled)) e
  | trackLost => exact sound_of_next (sound_whileAwake (sound_ite fun _ => (keeps_enterLost s).settled)) e
  | misfireLimitReached => exact sound_of_next (sound_whileAwake (sound_ite fun _ => (keeps_takeHalt _ s).settled)) e
  | traceFrozen =>
    exact sound_of_next (sound_whileAwake ⟨keeps_judgeFreeze s, fun h => settled_of_changes h (judgeFreeze_changes s)⟩) e
  | episodeOnset =>
    exact sound_of_next (sound_whileAwake (sound_governorEvent fun u hrun hdue =>
      keeps_onset u hrun (not_episode_of_due hdue))) e
  | holdExpiry =>
    exact sound_of_next (sound_whileAwake (sound_governorEvent fun _ _ hdue => keeps_expire (state_of_due hdue))) e
  | episodeLong => exact sound_of_next (sound_whileAwake (sound_governorEvent fun _ _ _ => .refl s)) e
  | episodeClear =>
    exact sound_of_next (sound_whileAwake (sound_governorEvent fun u _ hdue =>
      keeps_clearEpisode u (state_of_due hdue))) e
  | recoveryDone =>
    exact sound_of_next (sound_whileAwake (sound_governorEvent fun _ _ hdue =>
      keeps_endRecovery (state_of_due hdue) rfl)) e
  | episodeEnd => exact sound_of_next (sound_whileAwake (sound_ite fun _ => (keeps_endEpisode s).settled)) e
  | listClose => exact sound_of_next (sound_whileAwake (sound_listClose s)) e
  | unblock => exact sound_of_next (sound_whileAwake (sound_unblock s)) e
  | runEntered => exact sound_of_next (sound_whileAwake (sound_ite fun _ => (keeps_enterRun s).settled)) e
  | syncFailed => exact sound_of_next (sound_whileAwake (sound_ite fun _ => (keeps_toStandby _ s).settled)) e
  | stopDone => exact sound_of_next (sound_whileAwake (sound_ite fun _ => (keeps_judgeStop s).settled)) e
  | supervisionLapse => exact sound_of_next (sound_whileAwake (sound_ite fun _ => (keeps_lapse s).settled)) e
  | haltCause c => exact sound_of_next (sound_whileAwake (keeps_takeHalt c s).settled) e
  | tripInAssert =>
    have htrip : Keeps s (s.withRct { s.rct with tripIn := true }) := keeps_withRct id
    exact sound_of_next (Keeps.ite (fun _ => htrip) fun _ => htrip.trans (keeps_takeHalt .tripInput _)).settled e
  | tripInRelease =>
    have hreleased : Keeps s (releaseTripIn s) := keeps_withRct id
    exact sound_of_next hreleased.settled e
  | rxByte b => exact sound_of_next (sound_whileAwake ⟨keeps_takeByte b s, settled_takeByte b⟩) e
  | rxFramingError | frameGapTimeout =>
    exact sound_of_next (sound_whileAwake ⟨keeps_breakFrame s, fun h => settled_ite h (settled_dropFrame h)⟩) e
  | replyTransmitted => exact sound_of_next (sound_whileAwake ⟨keeps_replySent s, settled_replySent⟩) e
  | saveRowWritten errors =>
    refine sound_of_next ?_ e
    split
    · exact ⟨keeps_saveRow _ errors s, settled_saveRow _ errors⟩
    · exact .refl s
  | unknownKind =>
    exact sound_of_next ⟨keeps_request _ s (keeps_handle _), fun h => settled_request _ h (keeps_handle _)⟩ e
  | _ => exact sound_of_request e rfl

theorem sound_step {s t : State} (e : step s = .next t) : Sound s t := by
  unfold step at e
  split at e
  · exact sound_of_next (.refl s) e
  · next c rest _ =>
    obtain ⟨hkeeps, hsettled⟩ := sound_exec c e
    exact ⟨(keeps_of_quiet (Changes.withPending s rest) id).trans hkeeps, hsettled⟩

/-! The statements. -/

/-- A gate line that is ON has an entry that drives it, which a blocked list does not hold (R77, R88). -/
theorem gatesSafe_of_settled {s : State} (h : s.ListSettled) : s.GatesSafe := by
  obtain ⟨hblocked, hlist⟩ := h
  intro g hg
  have hunion : s.union = false := by
    obtain ⟨-, e, he, -⟩ := (EntryLife.gateOn_iff s g).mp hg
    cases hu : s.union with
    | false => rfl
    | true => rw [hlist (hblocked.trans hu)] at he; cases he
  refine ⟨?_, hunion⟩
  cases hrun : s.running with
  | true => rfl
  | false => simp [State.union, State.runReason, hrun] at hunion

/-- Settles O57: a command ends in the union taken, and a settled list drives a gate line only while unblocked. -/
theorem gatesOnlyWhileUnblocked : Obligations.GatesOnlyWhileUnblocked := fun _ _ hs e =>
  have ht := (sound_step e).settled hs
  ⟨ht, gatesSafe_of_settled ht⟩

/-- Settles O58. -/
theorem governorStaysSound : Obligations.GovernorStaysSound := fun _ _ hs e => (sound_step e).keeps.governor hs

/-- Settles O59. -/
theorem currentsStayWithinIMax : Obligations.CurrentsStayWithinIMax :=
  ⟨fun _ _ hs e => (sound_step e).keeps.limited hs, fun _ _ hs e => (sound_step e).keeps.setpoints hs⟩

/-- Settles O60. -/
theorem valuesStayInRange : Obligations.ValuesStayInRange :=
  ⟨fun _ _ hs e => (sound_step e).keeps.tracker hs, fun _ _ hs e => (sound_step e).keeps.params hs,
    fun _ _ hs e => (sound_step e).keeps.buffers hs⟩

/-- Settles O55: the part in reset meets each promise by its reset values. -/
theorem resetMeetsInvariants : Obligations.ResetMeetsInvariants :=
  have h : Meets State.reset := meets_powerOn _ _ _ _ _ _ _
  ⟨AlertLine.alertTrue_of_ntu_atReset rfl, ⟨rfl, fun _ => rfl⟩, h.governor, h.setpoints, h.limited, h.tracker, h.params,
    h.buffers⟩

end Sys2Proof.Promises
end

section
/-!
The queue and the two resets: a step as the front command's own, what a stopped save leaves, the values that each reset gives
a block. The file settles O1, O2, O3 and O4.
-/

namespace Sys2Proof.Resetting

open Sys2Proof.Machine Sys2Proof.Claims

/-- Settles O1: the queue's front is taken off before the command runs. -/
theorem stepRunsFrontCommand : Obligations.StepRunsFrontCommand := fun _ _ _ => rfl

/-- While the part is awake a command that waits for it acts. -/
theorem whileAwake_of_awake {f : State → State} {s : State} (h : s.asleep = false) : whileAwake f s = f s := by
  rw [whileAwake, h]
  rfl

/-- While it is not, the command does nothing. -/
theorem whileAwake_of_asleep {f : State → State} {s : State} (h : s.asleep = true) : whileAwake f s = s := by
  rw [whileAwake, h]
  rfl

/-- Settles O2: the tables, as the part in reset holds them. -/
theorem resetLeaves : Obligations.ResetLeaves :=
  ⟨rfl, rfl, rfl, rfl, rfl, rfl, rfl, rfl, rfl, rfl, rfl, rfl, rfl, rfl, rfl, rfl, rfl,
    fun b => by simp [State.reset, State.powerOn, Crg.atReset], rfl, rfl, rfl, rfl, rfl, rfl, rfl, rfl, rfl,
    fun n => by simp [State.reset, State.powerOn, Ntu.atReset], rfl, rfl, rfl, rfl, rfl, rfl, rfl, rfl, rfl⟩

/-! A save stopped (R193). -/

theorem stopSave_frame (s : State) :
    stopSave s = { s with sst := (stopSave s).sst, freeCount := (stopSave s).freeCount } := by
  unfold stopSave
  split <;> rfl

/-- Only the row that was being written holds another value (log 12). -/
theorem stopSave_rows {s : State} {n : Fin 512} (h : s.sst.activity ≠ .saving n) :
    (stopSave s).sst.rows.get n = s.sst.rows.get n := by
  unfold stopSave
  split
  · next m hm =>
    have hne : m ≠ n := fun e => h (e ▸ hm)
    exact Tab.get_set_other _ m n _ hne
  · rfl

/-- Marks, latch and corrected count are the last load's or save's. -/
theorem stopSave_marks (s : State) : (stopSave s).sst.latch = s.sst.latch ∧ (stopSave s).sst.bad = s.sst.bad
    ∧ (stopSave s).sst.corrected = s.sst.corrected := by
  unfold stopSave
  split <;> exact ⟨rfl, rfl, rfl⟩

/-! The reset line. -/

theorem powerOnReset_eq (s : State) : powerOnReset s =
    .powerOn (stopSave s).sst.rows .powerOnLoad { s.pins with resetLow := false } s.rct.tripIn s.orders
      (stopSave s).freeCount s.pending := by
  unfold powerOnReset
  rw [stopSave_frame]

theorem holdInReset_eq (s : State) : holdInReset s =
    .powerOn (stopSave s).sst.rows .idle { s.pins with resetLow := true } s.rct.tripIn s.orders
      (stopSave s).freeCount s.pending := by
  unfold holdInReset
  rw [stopSave_frame]

theorem exec_powerOnReset (s : State) : exec .powerOnReset s = .next (powerOnReset s) := rfl

theorem exec_resetNAsserted (s : State) : exec .resetNAsserted s = .next (holdInReset s) := rfl

theorem powerOnReset_leaves (s : State) : ∃ t, exec .powerOnReset s = .next t
    ∧ t.sst.activity = .powerOnLoad ∧ t.pins = { s.pins with resetLow := false } ∧ t.rct = Rct.atReset none s.rct.tripIn
    ∧ t.mfe.count = 0 ∧ t.mfe.trimmed = none ∧ t.atr = Atr.atReset 14746 ∧ t.fls.list = [] ∧ t.fls.blocked = true
    ∧ t.dgv = Dgv.atReset [] 0 ∧ t.ntu.alert = false ∧ t.trc = Trc.atReset defaultTriggerMask
    ∧ t.lnk = Lnk.atReset s.pins.baud s.pins.clksel ∧ t.params = Params.defaults ∧ t.pending = s.pending
    ∧ (∀ n, s.sst.activity ≠ .saving n → t.sst.rows.get n = s.sst.rows.get n) := by
  rw [exec_powerOnReset, powerOnReset_eq]
  exact ⟨_, rfl, rfl, rfl, rfl, rfl, rfl, rfl, rfl, rfl, rfl, rfl, rfl, rfl, rfl, rfl, fun _ => stopSave_rows⟩

theorem resetNAsserted_leaves (s : State) : ∃ t, exec .resetNAsserted s = .next t
    ∧ t.pins = { s.pins with resetLow := true } ∧ t.asleep = true ∧ t.sst.activity = .idle
    ∧ t.ntu.alert = false ∧ t.dgv.rideOut = false ∧ (∀ g, t.gateOn g = false) ∧ t.lnk.reply = none
    ∧ (∀ n, (t.ntu.sources.get n).latched = false) ∧ t.pending = s.pending
    ∧ (∀ n, s.sst.activity ≠ .saving n → t.sst.rows.get n = s.sst.rows.get n) := by
  rw [exec_resetNAsserted, holdInReset_eq]
  exact ⟨_, rfl, rfl, rfl, rfl, rfl, rfl, gateOn_empty _ rfl, rfl, fun n => by simp [State.powerOn, Ntu.atReset], rfl,
    fun _ => stopSave_rows⟩

/-- Settles O3. -/
theorem resetLineHoldsAndLoads : Obligations.ResetLineHoldsAndLoads := ⟨powerOnReset_leaves, resetNAsserted_leaves⟩

/-! A soft reset. -/

theorem softReset_eq (s : State) : softReset s = { s with
    mfe := Mfe.atReset s.mfe.trims
    ffb := Ffb.atReset s.ffb.coeffs s.ffb.enabled
    atr := Atr.atReset s.wNom
    ssq := Ssq.atReset s.ssq.config
    crg := Crg.atReset (s.parN .alphaStart)
    fls := Fls.atReset (s.parN .refavgSeed)
    dgv := Dgv.atReset (historyAtReset s.mfe.count s.dgv.history) s.dgv.nextNumber
    rtb := Rtb.atReset s.rtb.entries
    rct := Rct.atReset s.rct.trip s.rct.tripIn
    ntu := Ntu.atReset (s.ntu.sources.map (·.level)) (s.ntu.sources.map (·.enable))
    wcu := Wcu.atReset (s.wcu.units.map (·.config))
    trc := Trc.atReset s.trc.mask
    lnk := Lnk.atReset s.pins.baud s.pins.clksel
    sst := { (stopSave s).sst with activity := .idle }
    freeCount := (stopSave s).freeCount } := by
  unfold softReset
  rw [stopSave_frame]
  rfl

/-- Settles O4: each block's reset value is that of its own table. -/
theorem softResetKeepsSettings : Obligations.SoftResetKeepsSettings := by
  intro s hawake
  obtain ⟨hlatch, hbad, hcorrected⟩ := stopSave_marks s
  refine ⟨softReset s, congrArg Host.Outcome.next (whileAwake_of_awake hawake), ?_⟩
  rw [softReset_eq]
  exact ⟨rfl, rfl, rfl, rfl, rfl, fun i => by simp [Mfe.atReset], rfl, rfl, rfl, fun i => by simp [Ffb.atReset], rfl, rfl,
    rfl, fun b => by simp [Crg.atReset], rfl, rfl, rfl, fun b => by simp [Fls.atReset],
    fun k => by simp [Fls.atReset, SlotStatus.cleared], ⟨rfl, rfl, rfl, rfl, rfl⟩, rfl, rfl, rfl, rfl, rfl, rfl, rfl, rfl,
    rfl, rfl, fun i => by simp [Rtb.atReset], rfl, rfl, fun n => by simp [Ntu.atReset], fun u => by simp [Wcu.atReset],
    rfl, rfl, rfl, hlatch, hbad, hcorrected, fun _ => stopSave_rows⟩

end Sys2Proof.Resetting
end

section
/-!
Occurrences (R155, R156), triggers and the freeze (R167, R168): what each leaves of its source, of the other sources and of
the recorder; that no occurrence touches a level or an enable. The file settles O34.
-/

namespace Sys2Proof.Occurrences

open Sys2Proof.Machine Sys2Proof.Claims

/-! Levels and enables. -/

/-- The notice sources of two states agree in what the settings give them. -/
def SettingsKept (s t : State) : Prop := ∀ n, (t.ntu.sources.get n).level = (s.ntu.sources.get n).level
    ∧ (t.ntu.sources.get n).enable = (s.ntu.sources.get n).enable

theorem SettingsKept.trans {s t u : State} (h : SettingsKept s t) (k : SettingsKept t u) : SettingsKept s u := fun n =>
  ⟨(k n).1.trans (h n).1, (k n).2.trans (h n).2⟩

theorem latch_settingsKept (src : Source) (s : State) : SettingsKept s (latch src s) := fun n => by
  rw [latch_sources, Tab.modify, Tab.get_set]
  split
  · next h => subst h; exact ⟨rfl, rfl⟩
  · exact ⟨rfl, rfl⟩

theorem judgeFreeze_settingsKept (s : State) : SettingsKept s (judgeFreeze s) := by
  unfold judgeFreeze
  split
  · exact latch_settingsKept .traceFrozen (s.withTrc { s.trc with state := .frozen })
  · exact fun _ => ⟨rfl, rfl⟩

theorem takeTrigger_settingsKept (c : TriggerCause) (s : State) : SettingsKept s (takeTrigger c s) := by
  unfold takeTrigger
  split
  · exact judgeFreeze_settingsKept (s.withTrc _)
  · exact fun _ => ⟨rfl, rfl⟩

theorem occur_settingsKept (src : Source) (s : State) : SettingsKept s (occur src s) := by
  unfold occur
  dsimp only
  split
  · exact (latch_settingsKept src s).trans (takeTrigger_settingsKept _ _)
  · exact latch_settingsKept src s

/-! One occurrence. -/

theorem raised_occur {src : Source} (s : State) (h : src ≠ .traceFrozen) : Raised src s (occur src s) :=
  occur_source_same src s h

theorem quiet_occur (src : Source) (s : State) : QuietBut [src, .traceFrozen] s (occur src s) := fun src' hmem =>
  occur_source_other src s _ (fun e => hmem (by simp [Source.num_injective e]))
    (fun e => hmem (by simp [Source.num_injective e]))

theorem latch_raised (src : Source) (s : State) : Raised src s (latch src s) := Tab.get_modify_same _ _ _

theorem latch_quiet (src : Source) (s : State) : QuietBut [src] s (latch src s) := fun src' hmem =>
  Tab.get_modify_other _ _ _ _ fun e => hmem (by simp [Source.num_injective e])

/-- An occurrence whose trigger nobody takes is the latch alone. -/
theorem occur_eq_latch {src : Source} {s : State}
    (h : s.trc.mask.getLsbD src.num.1 = false ∨ s.trc.state ≠ .recording) : occur src s = latch src s := by
  unfold occur
  dsimp only
  split
  · next hmask =>
    obtain hnot | hstate := h
    · rw [hmask] at hnot; cases hnot
    · exact if_neg hstate
  · rfl

/-- An occurrence that the mask names is the latch and a trigger. -/
theorem occur_eq_trigger {src : Source} {s : State} (h : s.trc.mask.getLsbD src.num.1 = true) :
    occur src s = takeTrigger (.source src.num) (latch src s) := if_pos h

/-! Triggers. -/

theorem takeTrigger_ignored (c : TriggerCause) {s : State} (h : s.trc.state ≠ .recording) : takeTrigger c s = s := if_neg h

/-- With TRACE_POST = 0 the freeze follows a trigger at once. -/
theorem takeTrigger_freezes (c : TriggerCause) {s : State} (h : s.trc.state = .recording) (hpost : s.parN .tracePost = 0) :
    Raised .traceFrozen s (takeTrigger c s) := by
  rw [takeTrigger, if_pos h, judgeFreeze, if_pos ⟨rfl, hpost.le⟩]
  exact latch_raised .traceFrozen (s.withTrc _)

theorem takeTrigger_waits (c : TriggerCause) {s : State} (hpost : s.parN .tracePost ≠ 0) :
    (takeTrigger c s).ntu = s.ntu := by
  unfold takeTrigger
  split
  · rw [judgeFreeze, if_neg fun hdue => hpost (Nat.le_zero.mp hdue.2)]
    rfl
  · rfl

theorem Raised.of_latch {src : Source} {s t : State} (h : Raised .traceFrozen (latch src s) t) (hne : src ≠ .traceFrozen) :
    Raised .traceFrozen s t := by
  rw [Raised, latch_quiet src s .traceFrozen (by simpa using hne.symm)] at h
  exact h

/-! The freeze. -/

theorem judgeFreeze_due {s : State} (hstate : s.trc.state = .triggered) (hpost : s.parN .tracePost ≤ s.trc.post) :
    judgeFreeze s = latch .traceFrozen (s.withTrc { s.trc with state := .frozen }) := if_pos ⟨hstate, hpost⟩

theorem judgeFreeze_not_due {s : State} (h : s.trc.state ≠ .triggered ∨ s.trc.post < s.parN .tracePost) :
    judgeFreeze s = s := by
  refine if_neg fun hdue => ?_
  obtain ⟨hstate, hpost⟩ := hdue
  obtain hnot | hshort := h
  · exact hnot hstate
  · omega

theorem exec_traceFrozen {s : State} (h : s.asleep = false) : exec .traceFrozen s = .next (judgeFreeze s) :=
  congrArg Host.Outcome.next (Resetting.whileAwake_of_awake h)

/-! The statement. -/

theorem occurrence_latches {src : Source} (s : State) (h : src ≠ .traceFrozen) :
    let t := occur src s
    Raised src s t ∧ QuietBut [src, .traceFrozen] s t ∧ t.ntu.alert = t.alertDue
    ∧ t = { s with ntu := t.ntu, trc := t.trc } ∧ t.trc.ring = s.trc.ring ∧ t.trc.mask = s.trc.mask
    ∧ ((s.trc.mask.getLsbD src.num.1 = false ∨ s.trc.state ≠ .recording) → t.trc = s.trc ∧ QuietBut [src] s t)
    ∧ (s.trc.mask.getLsbD src.num.1 = true → s.trc.state = .recording →
        t.trc = { s.trc with
          state := if s.parN .tracePost = 0 then .frozen else .triggered
          post := 0, position := s.trc.ring.getLast?.map (·.seq), cause := some (.source src.num)
          time := some s.mfe.count }
        ∧ (s.parN .tracePost = 0 → Raised .traceFrozen s t) ∧ (s.parN .tracePost ≠ 0 → QuietBut [src] s t))
    ∧ (t.alertDue = true ↔ ∃ n, (t.ntu.sources.get n).latched = true ∧ (t.ntu.sources.get n).enable = true
        ∧ s.parN .alertFloor ≤ (t.ntu.sources.get n).level) := by
  refine ⟨raised_occur s h, quiet_occur src s, occur_alert src s, occur_frame src s, occur_ring src s, occur_mask src s,
    fun hidle => ?idle, fun hmask hstate => ?taken, ?due⟩
  case idle =>
    rw [occur_eq_latch hidle]
    exact ⟨rfl, latch_quiet src s⟩
  case taken =>
    rw [occur_eq_trigger hmask]
    refine ⟨TraceControl.takeTrigger_trc _ hstate,
      fun hpost => Raised.of_latch (takeTrigger_freezes _ hstate hpost) h, fun hpost src' hmem => ?_⟩
    rw [takeTrigger_waits (s := latch src s) _ hpost]
    exact latch_quiet src s src' hmem
  case due =>
    have hpar : (occur src s).parN .alertFloor = s.parN .alertFloor := by simp [State.parN, State.par]
    rw [AlertLine.alertDue_iff, hpar]

theorem trigger_freeze (c : TriggerCause) (s : State) :
    (s.trc.state ≠ .recording → takeTrigger c s = s)
    ∧ (s.trc.state = .recording →
        (takeTrigger c s).trc = { s.trc with
          state := if s.parN .tracePost = 0 then .frozen else .triggered
          post := 0, position := s.trc.ring.getLast?.map (·.seq), cause := some c, time := some s.mfe.count })
    ∧ (s.asleep = false → s.trc.state = .triggered → s.parN .tracePost ≤ s.trc.post →
        ∃ t, exec .traceFrozen s = .next t ∧ Raised .traceFrozen s t ∧ QuietBut [.traceFrozen] s t
          ∧ t = { s with trc := { s.trc with state := .frozen }, ntu := t.ntu })
    ∧ (s.asleep = false → (s.trc.state ≠ .triggered ∨ s.trc.post < s.parN .tracePost) → exec .traceFrozen s = .next s) := by
  refine ⟨takeTrigger_ignored c, TraceControl.takeTrigger_trc c, fun hawake hstate hpost => ?due, fun hawake hidle => ?idle⟩
  case due =>
    rw [exec_traceFrozen hawake, judgeFreeze_due hstate hpost]
    exact ⟨_, rfl, latch_raised .traceFrozen (s.withTrc _), latch_quiet .traceFrozen (s.withTrc _), rfl⟩
  case idle => rw [exec_traceFrozen hawake, judgeFreeze_not_due hidle]

/-- Settles O34: an occurrence by the trigger that the mask lets through, a trigger and the freeze by the recorder's state. -/
theorem occurrenceLatchesAndTriggers : Obligations.OccurrenceLatchesAndTriggers :=
  ⟨fun _ s h => occurrence_latches s h, trigger_freeze⟩

end Sys2Proof.Occurrences
end

section
/-!
The end of a load (R190, R191): the working copies it leaves, the store's marks, what comes down to the limits in force, what
power-on adds, and one STORE_FAULT per bad row. The file settles O5.
-/

namespace Sys2Proof.LoadEnd

open Sys2Proof.Machine Sys2Proof.Claims Sys2Proof.Loading

/-! Tables. -/

theorem tab_list_eq {α : Type} {n : Nat} (t : Tab α n) : t.list = (List.finRange n).map t.get := by
  refine List.ext_getElem (by simp [t.size]) fun i hi _ => ?_
  simp [Tab.get]

theorem tab_countP {α : Type} {n : Nat} (t : Tab α n) (p : α → Bool) :
    t.list.countP p = (List.finRange n).countP fun i => p (t.get i) := by
  rw [tab_list_eq, List.countP_map]
  rfl

theorem tab_any_iff {n : Nat} (t : Tab Bool n) : t.list.any id = true ↔ ∃ i, t.get i = true := by
  simp [tab_list_eq]

/-! Occurrences in a row. -/

theorem occurTimes_settingsKept (n : Nat) (src : Source) (s : State) : Occurrences.SettingsKept s (occurTimes n src s) := by
  induction n generalizing s with
  | zero => exact fun _ => ⟨rfl, rfl⟩
  | succ n ih => exact (Occurrences.occur_settingsKept src s).trans (ih _)

theorem occurTimes_mask (n : Nat) (src : Source) (s : State) : (occurTimes n src s).trc.mask = s.trc.mask := by
  induction n generalizing s with
  | zero => rfl
  | succ n ih => exact (ih _).trans (occur_mask src s)

theorem occurTimes_other (n : Nat) {src other : Source} (s : State) (h : other ≠ src) (hf : other ≠ .traceFrozen) :
    (occurTimes n src s).ntu.sources.get other.num = s.ntu.sources.get other.num := by
  induction n generalizing s with
  | zero => rfl
  | succ n ih =>
    refine (ih _).trans (occur_source_other src s _ (fun e => h (Source.num_injective e)) fun e => hf ?_)
    exact Source.num_injective e

/-- A source that occurs so many times is latched, counted up to 255 and stamped; with none it stays as it was. -/
theorem occurTimes_same (n : Nat) {src : Source} (s : State) (h : src ≠ .traceFrozen) :
    let o := s.ntu.sources.get src.num
    let p := (occurTimes n src s).ntu.sources.get src.num
    (n = 0 → p.latched = o.latched ∧ p.count = o.count ∧ p.last = o.last)
    ∧ (0 < n → p.latched = true ∧ p.count = min 255 (o.count + n) ∧ p.last = some s.mfe.count) := by
  induction n generalizing s with
  | zero => exact ⟨fun _ => ⟨rfl, rfl, rfl⟩, fun hpos => absurd hpos (lt_irrefl 0)⟩
  | succ n ih =>
    obtain ⟨hnone, hsome⟩ := ih (occur src s)
    rw [occur_source_same src s h] at hnone hsome
    rw [occur_mfe] at hsome
    refine ⟨fun h0 => absurd h0 (Nat.succ_ne_zero n), fun _ => ?_⟩
    rcases Nat.eq_zero_or_pos n with rfl | hpos
    · exact hnone rfl
    · obtain ⟨hlatched, hcount, hlast⟩ := hsome hpos
      refine ⟨hlatched, hcount.trans ?_, hlast⟩
      simp only [Notice.occur, satInc]
      omega

/-! The blocks of the installed state. -/

theorem tab_map_ofFn_get {α β : Type} {n : Nat} {f : Fin n → α} {g : α → β} {t : Tab β n} (h : ∀ i, g (f i) = t.get i) :
    (Tab.ofFn f).map g = t := Tab.ext_get fun i => by rw [Tab.get_map, Tab.get_ofFn, h]

/-- The working copies after the installation are the image. -/
theorem settingsOf_installSettings (c : Settings) (s : State) : settingsOf (installSettings c s) = c := by
  cases c
  rw [settingsOf, Settings.mk.injEq]
  exact ⟨rfl, rfl, rfl, rfl, rfl, rfl, tab_map_ofFn_get fun _ => rfl, tab_map_ofFn_get fun _ => rfl,
    tab_map_ofFn_get fun _ => rfl, rfl⟩

/-- The working copies are the same where each block's settings are. -/
theorem settingsOf_congr {s t : State} (hparams : t.params = s.params) (htrims : t.mfe.trims = s.mfe.trims)
    (hcoeffs : t.ffb.coeffs = s.ffb.coeffs) (henabled : t.ffb.enabled = s.ffb.enabled)
    (hslots : t.ssq.config = s.ssq.config) (hentries : t.rtb.entries = s.rtb.entries)
    (hntu : Occurrences.SettingsKept s t) (hwatches : ∀ n, (t.wcu.units.get n).config = (s.wcu.units.get n).config)
    (hmask : t.trc.mask = s.trc.mask) : settingsOf t = settingsOf s := by
  rw [settingsOf, settingsOf, Settings.mk.injEq]
  refine ⟨hparams, htrims, hcoeffs, henabled, hslots, hentries, ?_, ?_, ?_, hmask⟩
  · exact Tab.ext_get fun n => by rw [Tab.get_map, Tab.get_map, (hntu n).1]
  · exact Tab.ext_get fun n => by rw [Tab.get_map, Tab.get_map, (hntu n).2]
  · exact Tab.ext_get fun n => by rw [Tab.get_map, Tab.get_map, hwatches n]

theorem settingsOf_installed (s : State) : settingsOf (installed s) = (imageOf s).1 :=
  have h := settingsOf_installSettings (imageOf s).1 s
  installed_holds (P := fun t => settingsOf t = (imageOf s).1) h h

theorem finished_changes (s : State) : Changes [.sst, .ntu] (installed s) (finished s) := by
  unfold finished
  generalize installed s = u
  exact ((Changes.withSst u _).mono (by decide)).trans ((Changes.withNtu _ _).mono (by decide))

theorem finished_sources (s : State) : (finished s).ntu.sources = (installed s).ntu.sources := by
  unfold finished
  generalize installed s = u
  rfl

theorem finishLoad_settingsKept (s : State) : Occurrences.SettingsKept (installed s) (finishLoad s) := by
  rw [finishLoad_eq]
  intro n
  rw [← finished_sources]
  exact occurTimes_settingsKept _ _ (finished s) n

theorem finishLoad_mask (s : State) : (finishLoad s).trc.mask = (installed s).trc.mask := by
  rw [finishLoad_eq, occurTimes_mask, finished_changes s .trc (by decide)]

theorem settingsOf_finishLoad (s : State) : settingsOf (finishLoad s) = (imageOf s).1 := by
  have h := finishLoad_changes s
  rw [← settingsOf_installed s]
  exact settingsOf_congr (h .params (by decide)) (congrArg Mfe.trims (h .mfe (by decide)))
    (congrArg Ffb.coeffs (h .ffb (by decide))) (congrArg Ffb.enabled (h .ffb (by decide)))
    (congrArg Ssq.config (h .ssq (by decide))) (congrArg Rtb.entries (h .rtb (by decide))) (finishLoad_settingsKept s)
    (fun n => congrArg (fun w : Wcu => (w.units.get n).config) (h .wcu (by decide))) (finishLoad_mask s)

theorem finishLoad_params (s : State) : (finishLoad s).params = (imageOf s).1.params := by
  rw [← settingsOf_finishLoad]
  generalize finishLoad s = t
  rfl

/-- The parameters in force after the load. -/
theorem finishLoad_par (s : State) (p : ParamId) : (finishLoad s).par p = (imageOf s).1.params.get p.place := by
  rw [State.par, finishLoad_params]

theorem finishLoad_parN (s : State) (p : ParamId) : (finishLoad s).parN p = ((imageOf s).1.params.get p.place).toNat := by
  rw [State.parN, finishLoad_par]

/-! The store's part. -/

theorem installed_sst (s : State) : (installed s).sst = s.sst := installed_changes s .sst (by decide)

theorem finishLoad_store (s : State) : (finishLoad s).sst = sstAfterLoad s.sst (readRows s) (imageOf s).2 := by
  rw [finishLoad_sst, ← installed_sst s]
  unfold finished
  generalize installed s = u
  rfl

theorem finishLoad_bad (s : State) (n : Fin 512) : (finishLoad s).sst.bad.get n =
    (decide (readRow (s.sst.rows.get n) = .uncorrectable) || (imageOf s).2.contains n.1) := by
  rw [finishLoad_store, sstAfterLoad, badMarks, Tab.get_ofFn, readRows, Tab.get_map]
  cases readRow (s.sst.rows.get n) <;> rfl

theorem finishLoad_latch (s : State) :
    (finishLoad s).sst.latch = true ↔ ∃ n, (finishLoad s).sst.bad.get n = true := by
  rw [finishLoad_store]
  generalize readRows s = rs
  generalize (imageOf s).2 = l
  simp only [sstAfterLoad]
  exact tab_any_iff (badMarks rs l)

/-! The bridges, the slots, the averages and the tracker. -/

theorem finishLoad_bridge (s : State) (b : Fin 4) : (finishLoad s).crg.bridges.get b = { s.crg.bridges.get b with
    target := min (s.crg.bridges.get b).target ((finishLoad s).parN .iMax)
    setpoint := min (s.crg.bridges.get b).setpoint ((finishLoad s).parN .iMax * 256)
    alphaPrev :=
      if s.sst.activity = .powerOnLoad then (finishLoad s).parN .alphaStart else (s.crg.bridges.get b).alphaPrev } := by
  rw [finishLoad_changes s .crg (by decide), finishLoad_parN, finishLoad_parN]
  unfold installed
  split
  · simp [seedFromParams, installSettings, clampMisfires, clampToIMax, State.parN, State.par]
  · simp [installSettings, clampMisfires, clampToIMax, State.parN, State.par]

theorem finishLoad_status (s : State) (k : Fin 24) : (finishLoad s).fls.status.get k = { s.fls.status.get k with
    consecutive := min (s.fls.status.get k).consecutive ((finishLoad s).parN .misfireLimit) } := by
  rw [finishLoad_changes s .fls (by decide), finishLoad_parN]
  refine installed_holds (P := fun t : State => t.fls.status.get k = _) ?_ ?_ <;>
    simp [seedFromParams, installSettings, clampMisfires, clampToIMax, State.parN, State.par]

theorem finishLoad_refAvg (s : State) (b : Fin 4) : (finishLoad s).fls.refAvg.get b =
    if s.sst.activity = .powerOnLoad then (finishLoad s).parN .refavgSeed else s.fls.refAvg.get b := by
  rw [finishLoad_changes s .fls (by decide), finishLoad_parN]
  unfold installed
  split
  · simp [seedFromParams, installSettings, clampMisfires, clampToIMax, State.parN, State.par]
  · simp [installSettings, clampMisfires, clampToIMax]

theorem finishLoad_atr (s : State) : (finishLoad s).atr = if s.sst.activity = .powerOnLoad
    then { s.atr with w := if (finishLoad s).par .nominalFreq = 60 then 17695 else 14746 } else s.atr := by
  rw [finishLoad_changes s .atr (by decide), finishLoad_par]
  unfold installed
  split
  · rfl
  · rfl

/-! The notices. -/

theorem finished_source (s : State) (n : Fin 24) : let o := s.ntu.sources.get n
    let p := (finished s).ntu.sources.get n
    p.latched = o.latched ∧ p.count = o.count ∧ p.last = o.last := by
  dsimp only
  rw [finished_sources]
  exact installed_holds (P := fun t : State => (t.ntu.sources.get n).latched = (s.ntu.sources.get n).latched
    ∧ (t.ntu.sources.get n).count = (s.ntu.sources.get n).count
    ∧ (t.ntu.sources.get n).last = (s.ntu.sources.get n).last) (by simp [installSettings, clampMisfires, clampToIMax])
    (by simp [seedFromParams, installSettings, clampMisfires, clampToIMax])

theorem finished_mfe_count (s : State) : (finished s).mfe.count = s.mfe.count := by
  rw [finished_changes s .mfe (by decide)]
  exact installed_holds (P := fun t : State => t.mfe.count = s.mfe.count) rfl rfl

theorem finishLoad_alert (s : State) : (finishLoad s).ntu.alert = (finishLoad s).alertDue := by
  rw [finishLoad_eq]
  exact occurTimes_alert _ _ _ (judgeAlert_alert _)

theorem finishLoad_storeFault (s : State) :
    let n := (List.finRange 512).countP fun n => (finishLoad s).sst.bad.get n
    let o := s.ntu.sources.get Source.storeFault.num
    let p := (finishLoad s).ntu.sources.get Source.storeFault.num
    (n = 0 → p.latched = o.latched ∧ p.count = o.count ∧ p.last = o.last)
    ∧ (0 < n → p.latched = true ∧ p.count = min 255 (o.count + n) ∧ p.last = some s.mfe.count) := by
  have hcount : (List.finRange 512).countP (fun n => (finishLoad s).sst.bad.get n) = (finished s).sst.bad.list.countP id := by
    rw [tab_countP, finishLoad_sst]
    simp only [id]
  obtain ⟨hlatched, hcounted, hlast⟩ := finished_source s Source.storeFault.num
  obtain ⟨hnone, hsome⟩ := occurTimes_same ((finished s).sst.bad.list.countP id) (finished s)
    (src := .storeFault) (by decide)
  rw [hlatched, hcounted, hlast] at hnone
  rw [hcounted, finished_mfe_count] at hsome
  dsimp only
  rw [hcount, finishLoad_eq]
  exact ⟨hnone, hsome⟩

theorem finishLoad_others (s : State) {src : Source} (h : src ≠ .storeFault) (hf : src ≠ .traceFrozen) :
    let o := s.ntu.sources.get src.num
    let p := (finishLoad s).ntu.sources.get src.num
    p.latched = o.latched ∧ p.count = o.count ∧ p.last = o.last := by
  dsimp only
  rw [finishLoad_eq, occurTimes_other _ _ h hf]
  exact finished_source s src.num

/-! The blocks that hold no settings, or keep a part beside them. -/

theorem finishLoad_kept (s : State) :
    (finishLoad s).ffb.stages = clearedStages ∧ (finishLoad s).ffb.saturations = s.ffb.saturations
    ∧ (finishLoad s).mfe.clips = s.mfe.clips ∧ (finishLoad s).rtb.marks = s.rtb.marks ∧ (finishLoad s).rct = s.rct
    ∧ (finishLoad s).dgv = s.dgv ∧ (finishLoad s).lnk = s.lnk := by
  have h := finishLoad_changes s
  rw [h .ffb (by decide), h .mfe (by decide), h .rtb (by decide), h .rct (by decide), h .dgv (by decide), h .lnk (by decide)]
  unfold installed
  generalize (imageOf s).1 = c
  split
  · exact ⟨rfl, rfl, rfl, rfl, rfl, rfl, rfl⟩
  · exact ⟨rfl, rfl, rfl, rfl, rfl, rfl, rfl⟩

/-! LOAD_END. -/

theorem exec_loadEnd (s : State) : exec .loadEnd s = .next (loadEnds s) := rfl

theorem loadEnds_powerOn {s : State} (hload : s.sst.activity = .powerOnLoad) (hpins : s.pins.resetLow = false) :
    loadEnds s = finishLoad s := by
  simp only [loadEnds, hload, hpins, Bool.false_eq_true, if_false]

/-- The list takes nothing of what LOAD_SETTINGS brings (R88). -/
theorem loadEnds_loading {s : State} (hs : s.ListSettled) (hload : s.sst.activity = .loading) :
    loadEnds s = replyToLoad (finishLoad s) := by
  simp only [loadEnds, hload, settle_of_settled _ (Promises.settled_finishLoad hs)]

theorem loadEnds_other {s : State} (hload : s.sst.activity ≠ .loading) (hpower : s.sst.activity ≠ .powerOnLoad) :
    loadEnds s = s := by
  unfold loadEnds
  split
  · next h => exact absurd h hpower
  · next h => exact absurd h hload
  · rfl

theorem withLnk_self (s : State) : s.withLnk s.lnk = s := rfl

/-- The reply writes the link's state alone. -/
theorem replyToLoad_eq (s : State) : ∃ l, replyToLoad s = s.withLnk l := by
  unfold replyToLoad
  split
  · exact ⟨_, rfl⟩
  · exact ⟨s.lnk, rfl⟩

theorem loadEnds_eq {s : State} (hs : s.ListSettled)
    (h : s.sst.activity = .loading ∨ (s.sst.activity = .powerOnLoad ∧ s.pins.resetLow = false)) :
    ∃ l, loadEnds s = (finishLoad s).withLnk l := by
  obtain hload | ⟨hload, hpins⟩ := h
  · rw [loadEnds_loading hs hload]
    exact replyToLoad_eq _
  · rw [loadEnds_powerOn hload hpins]
    exact ⟨_, (withLnk_self _).symm⟩

/-- The link after the load at power-on, where no request waits. -/
theorem loadEnds_lnk_powerOn {s : State} (hload : s.sst.activity = .powerOnLoad) : (loadEnds s).lnk = s.lnk := by
  cases hpins : s.pins.resetLow with
  | false =>
    obtain ⟨-, -, -, -, -, -, hlnk⟩ := finishLoad_kept s
    rw [loadEnds_powerOn hload hpins, hlnk]
  | true => simp only [loadEnds, hload, hpins, if_true]

/-- The reply of LOAD_SETTINGS, built from the state that the load leaves (R178, R179). -/
theorem loadEnds_lnk_loading {s : State} {f : Frame} {rest : List Frame} (hs : s.ListSettled)
    (hload : s.sst.activity = .loading) (hinbox : s.lnk.inbox = f :: rest) (hkind : f.kind = 0x3D) :
    (loadEnds s).lnk = { s.lnk with
      reply := some ⟨0xBD, f.tag, .ok, ({ loadEnds s with lnk := s.lnk } : State).conditionByte, []⟩
      overrun := false } := by
  obtain ⟨-, -, -, -, -, -, hlnk⟩ := finishLoad_kept s
  rw [loadEnds_loading hs hload]
  generalize finishLoad s = t at hlnk
  have hreply : replyKind f.kind = 0xBD := by rw [hkind]; rfl
  rw [← hlnk] at hinbox ⊢
  simp only [replyToLoad, hinbox, sendReply, hreply]
  rfl

theorem loadEnd_installs {s : State} (hs : s.ListSettled)
    (h : s.sst.activity = .loading ∨ (s.sst.activity = .powerOnLoad ∧ s.pins.resetLow = false)) :
      ∃ t, exec .loadEnd s = .next t
        ∧ settingsOf t = (loadImage (s.sst.rows.map readRow).list).1
        ∧ t.sst.rows = s.sst.rows ∧ t.sst.activity = .idle
        ∧ (∀ n, t.sst.bad.get n = (decide (readRow (s.sst.rows.get n) = .uncorrectable)
            || (loadImage (s.sst.rows.map readRow).list).2.contains n.1))
        ∧ (t.sst.latch = true ↔ ∃ n, t.sst.bad.get n = true)
        ∧ t.sst.corrected = (s.sst.rows.map readRow).list.countP RowRead.isCorrected
        ∧ t.ffb.stages = clearedStages ∧ t.ffb.saturations = s.ffb.saturations ∧ t.mfe.clips = s.mfe.clips
        ∧ t.rtb.marks = s.rtb.marks ∧ t.rct = s.rct ∧ t.dgv = s.dgv
        ∧ (∀ b, t.crg.bridges.get b = { s.crg.bridges.get b with
            target := min (s.crg.bridges.get b).target (t.parN .iMax)
            setpoint := min (s.crg.bridges.get b).setpoint (t.parN .iMax * 256)
            alphaPrev :=
              if s.sst.activity = .powerOnLoad then t.parN .alphaStart else (s.crg.bridges.get b).alphaPrev })
        ∧ (∀ k, t.fls.status.get k = { s.fls.status.get k with
            consecutive := min (s.fls.status.get k).consecutive (t.parN .misfireLimit) })
        ∧ (∀ b, t.fls.refAvg.get b =
            if s.sst.activity = .powerOnLoad then t.parN .refavgSeed else s.fls.refAvg.get b)
        ∧ t.atr = (if s.sst.activity = .powerOnLoad
            then { s.atr with w := if t.par .nominalFreq = 60 then 17695 else 14746 } else s.atr)
        ∧ (let n := (List.finRange 512).countP fun n => t.sst.bad.get n
          let o := s.ntu.sources.get Source.storeFault.num
          let p := t.ntu.sources.get Source.storeFault.num
          (n = 0 → p.latched = o.latched ∧ p.count = o.count ∧ p.last = o.last)
          ∧ (0 < n → p.latched = true ∧ p.count = min 255 (o.count + n) ∧ p.last = some s.mfe.count))
        ∧ (∀ src : Source, src ≠ .storeFault → src ≠ .traceFrozen →
            let o := s.ntu.sources.get src.num
            let p := t.ntu.sources.get src.num
            p.latched = o.latched ∧ p.count = o.count ∧ p.last = o.last)
        ∧ t.ntu.alert = t.alertDue
        ∧ (s.sst.activity = .powerOnLoad → t.lnk = s.lnk)
        ∧ (∀ f rest, s.sst.activity = .loading → s.lnk.inbox = f :: rest → f.kind = 0x3D →
            t.lnk = { s.lnk with
              reply := some ⟨0xBD, f.tag, .ok, ({ t with lnk := s.lnk } : State).conditionByte, []⟩
              overrun := false }) := by
  have hpower := loadEnds_lnk_powerOn (s := s)
  have hreply := fun f rest => loadEnds_lnk_loading (s := s) (f := f) (rest := rest) hs
  have hsettings := settingsOf_finishLoad s
  have hstore := finishLoad_store s
  have hbad := finishLoad_bad s
  have hlatch := finishLoad_latch s
  obtain ⟨hstages, hsaturations, hclips, hmarks, hrct, hdgv, -⟩ := finishLoad_kept s
  have hbridge := finishLoad_bridge s
  have hstatus := finishLoad_status s
  have hrefAvg := finishLoad_refAvg s
  have hatr := finishLoad_atr s
  have hfault := finishLoad_storeFault s
  have hothers := fun src => finishLoad_others s (src := src)
  have halert := finishLoad_alert s
  obtain ⟨l, hl⟩ := loadEnds_eq hs h
  rw [hl] at hpower hreply
  rw [exec_loadEnd, hl]
  generalize finishLoad s = t at *
  have hrows : t.sst.rows = s.sst.rows := by simp only [hstore, sstAfterLoad]
  have hidle : t.sst.activity = .idle := by simp only [hstore, sstAfterLoad]
  have hcorrected : t.sst.corrected = (readRows s).list.countP RowRead.isCorrected := by simp only [hstore, sstAfterLoad]
  exact ⟨_, rfl, hsettings, hrows, hidle, hbad, hlatch, hcorrected, hstages, hsaturations, hclips, hmarks, hrct, hdgv,
    hbridge, hstatus, hrefAvg, hatr, hfault, hothers, halert, hpower, hreply⟩

/-- Settles O5: a load's end, and nothing outside one. -/
theorem loadEndInstallsImage : Obligations.LoadEndInstallsImage := fun s hs =>
  ⟨loadEnd_installs hs,
    fun hidle => congrArg Host.Outcome.next (loadEnds_other (by rw [hidle]; decide) (by rw [hidle]; decide)),
    fun n hsaving => congrArg Host.Outcome.next
      (loadEnds_other (by rw [hsaving]; exact Activity.noConfusion) (by rw [hsaving]; exact Activity.noConfusion))⟩

end Sys2Proof.LoadEnd
end

section
/-!
Halts, and the events of the run controller and the governor that are sent as commands of their own (log 1): what a halt
leaves once the close after it is taken, the events that lift or raise no more than one reason, and an update in every run
state. The file settles O24, O25, O27, O28 and O29.
-/

namespace Sys2Proof.Halting

open Sys2Proof.Machine Sys2Proof.Claims Sys2Proof.LeavingRun Sys2Proof.Requests Sys2Proof.Resetting
  Sys2Proof.Occurrences

/-! States that agree. -/

/-- A state is its fields. -/
theorem state_ext {s t : State} (h : ∀ f : Field, f.same s t) : t = s := by
  cases s
  cases t
  obtain rfl := h .mfe
  obtain rfl := h .ffb
  obtain rfl := h .atr
  obtain rfl := h .ssq
  obtain rfl := h .crg
  obtain rfl := h .fls
  obtain rfl := h .dgv
  obtain rfl := h .rtb
  obtain rfl := h .rct
  obtain rfl := h .ntu
  obtain rfl := h .wcu
  obtain rfl := h .trc
  obtain rfl := h .lnk
  obtain rfl := h .sst
  obtain rfl := h .params
  obtain rfl := h .pins
  obtain rfl := h .orders
  obtain rfl := h .freeCount
  obtain rfl := h .pending
  rfl

/-- What enters RUN and lifts the union. -/
theorem frame_of_entered {s t : State} (h : Changes [.rct, .ntu, .trc, .fls, .crg] s t) :
    t = { s with rct := t.rct, ntu := t.ntu, trc := t.trc, fls := t.fls, crg := t.crg } :=
  state_ext fun f => by have hf := h f; cases f <;> first | rfl | exact hf (by simp)

/-! The union (R88). -/

/-- The union by what it reads of each block. -/
theorem union_of_reasons {s t : State} (hrun : t.running = s.running) (htrip : t.rct.tripIn = s.rct.tripIn)
    (hatr : t.atr.state = s.atr.state) (hblock : t.dgv.block = s.dgv.block)
    (hsync : t.ssq.pendingSync = s.ssq.pendingSync) : t.union = s.union := by
  simp only [State.union, State.runReason, State.trackerReason, hrun, htrip, hatr, hblock, hsync]

/-- While neither RUN nor STOPPING a settled list is blocked and empty. -/
theorem shut_of_settled {s : State} (h : s.ListSettled) (hrun : s.running = false) : Shut s := by
  obtain ⟨hblocked, hlist⟩ := h
  have hb : s.fls.blocked = true := hblocked.trans (union_of_not_running s hrun)
  exact ⟨hb, hlist hb, gateOn_empty s (hlist hb)⟩

/-- What is shut and not running is settled. -/
theorem settled_of_shut {s : State} (hblocked : s.fls.blocked = true) (hlist : s.fls.list = [])
    (hrun : s.running = false) : s.ListSettled := ⟨hblocked.trans (union_of_not_running s hrun).symm, fun _ => hlist⟩

theorem running_of_inactive {s : State} (h : ¬ Running3 s) : s.running = false :=
  running_of_not_active s (by rwa [← Bool.not_eq_true, active_iff])

/-! A halt, once the close after it is taken. -/

/-- A halt cause taken, and then what the run-state reason brings about (R89, R145 to R147). -/
def halted (c : HaltCause) (s : State) : State := settle (takeHalt c s)

theorem halted_eq (c : HaltCause) (s : State) : halted c s = (takeClose (takeHalt c s)).1 :=
  settle_inactive _ (takeHalt_not_active c s)

theorem halted_changes (c : HaltCause) (s : State) :
    Changes [.rct, .crg, .fls, .dgv, .rtb, .ntu, .trc] s (halted c s) :=
  (takeHalt_changes c s).trans (settle_changes _)

theorem halted_rct (c : HaltCause) {s : State} (h : s.active = true) :
    (halted c s).rct = { s.rct.enter .halt with trip := some (tripRecordOf c s) } := by
  rw [halted_eq, takeClose_rct, takeHalt_rct_active c s h]

theorem takeHalt_source (c : HaltCause) (s : State) {n : Fin 24} (hm : n ≠ Source.slotMisfire.num)
    (hf : n ≠ Source.traceFrozen.num) (hh : n ≠ Source.haltEntered.num) :
    (takeHalt c s).ntu.sources.get n = s.ntu.sources.get n := by
  unfold takeHalt
  split
  · rw [endRun_source _ hm hf, enterHalt, occur_source_other _ _ _ hh hf]
    rfl
  · rfl

/-- A halt occurs as HALT_ENTERED, and its close as SLOT_MISFIRE or TRACE_FROZEN at most. -/
theorem halted_source (c : HaltCause) (s : State) {n : Fin 24} (hm : n ≠ Source.slotMisfire.num)
    (hf : n ≠ Source.traceFrozen.num) (hh : n ≠ Source.haltEntered.num) :
    (halted c s).ntu.sources.get n = s.ntu.sources.get n := by
  rw [halted_eq, takeClose_source _ hm hf, takeHalt_source c s hm hf hh]

theorem halted_raised (c : HaltCause) {s : State} (h : s.active = true) : Raised .haltEntered s (halted c s) := by
  rw [Raised, halted_eq, takeClose_source _ (by decide) (by decide), takeHalt_active c s h,
    endRun_source _ (by decide) (by decide), enterHalt, occur_source_same _ _ (by decide)]
  rfl

theorem halted_shut (c : HaltCause) {s : State} (h : s.NoneHeld) : Shut (halted c s) := by
  obtain ⟨hblocked, hlist⟩ := settle_shut _ (running_of_not_active _ (takeHalt_not_active c s)) (takeHalt_noneHeld c h)
  exact ⟨hblocked, hlist, gateOn_empty _ hlist⟩

theorem halted_crg (c : HaltCause) {s : State} (h : s.active = true) : (halted c s).crg = (zeroSetpoints s).crg := by
  rw [halted_eq, takeClose_crg, takeHalt_active c s h, endRun_crg, zeroSetpoints, enterHalt, occur_crg]
  rfl

theorem halted_setpointsZeroed (c : HaltCause) {s : State} (h : s.active = true) : SetpointsZeroed s (halted c s) := by
  intro b
  rw [halted_crg c h]
  exact zeroSetpoints_zeroed s b

/-- What the governor ends: the state that enters HALT with its close taken first or not (log 29). -/
def haltEnding (c : HaltCause) (s : State) : State :=
  let z := zeroSetpoints (enterHalt c s)
  if (enterHalt c s).order.closeFirst then (takeClose z).1 else z

theorem takeHalt_eq (c : HaltCause) {s : State} (h : s.active = true) : takeHalt c s = endEpisode (haltEnding c s) :=
  takeHalt_active c s h

/-- It agrees with the state before but for the run controller, the setpoints, the list and the notices. -/
theorem haltEnding_changes (c : HaltCause) (s : State) : Changes [.rct, .crg, .fls, .ntu, .trc] s (haltEnding c s) := by
  have hz : Changes [.rct, .crg, .fls, .ntu, .trc] s (zeroSetpoints (enterHalt c s)) :=
    ((enterHalt_changes c s).mono (by decide)).trans ((zeroSetpoints_changes _).mono (by decide))
  exact Changes.ite (hz.trans ((takeClose_changes _).mono (by decide))) hz

theorem haltEnding_rct (c : HaltCause) (s : State) :
    (haltEnding c s).rct = { s.rct.enter .halt with trip := some (tripRecordOf c s) } := by
  have henter : (enterHalt c s).rct = { s.rct.enter .halt with trip := some (tripRecordOf c s) } := by
    rw [enterHalt, occur_rct]; rfl
  unfold haltEnding
  dsimp only
  split
  · rw [takeClose_rct]; exact henter
  · exact henter

theorem halted_dgv (c : HaltCause) {s : State} (h : s.active = true) :
    (halted c s).dgv = (endEpisode (haltEnding c s)).dgv := by
  rw [halted_eq, takeClose_dgv, takeHalt_eq c h]

theorem halted_rtb (c : HaltCause) {s : State} (h : s.active = true) :
    (halted c s).rtb = (endEpisode (haltEnding c s)).rtb := by
  rw [halted_eq, takeClose_rtb, takeHalt_eq c h]

theorem halted_governorIdle (c : HaltCause) {s : State} (h : s.active = true) (hstate : s.dgv.state ≠ .steady) :
    GovernorIdle (halted c s) := by
  have hd : (haltEnding c s).dgv = s.dgv := haltEnding_changes c s .dgv (by decide)
  rw [GovernorIdle, halted_dgv c h]
  exact endEpisode_governorIdle (by rwa [hd])

/-- In STEADY a halt leaves the governor's counts alone to clear. -/
theorem halted_steady (c : HaltCause) {s : State} (h : s.active = true) (hstate : s.dgv.state = .steady) :
    (halted c s).dgv = (clearRun s).dgv ∧ (halted c s).rtb = s.rtb := by
  have hd : (haltEnding c s).dgv = s.dgv := haltEnding_changes c s .dgv (by decide)
  have hr : (haltEnding c s).rtb = s.rtb := haltEnding_changes c s .rtb (by decide)
  rw [halted_dgv c h, halted_rtb c h, endEpisode_steady (by rwa [hd]), clearRun, State.withDgv_dgv, State.withDgv_rtb, hd,
    hr]
  exact ⟨rfl, rfl⟩

theorem halted_entries (c : HaltCause) {s : State} (h : s.active = true) : (halted c s).rtb.entries = s.rtb.entries := by
  rw [halted_rtb c h, Governing.endEpisode_entries, haltEnding_changes c s .rtb (by decide)]

/-! HALT_CAUSE and MISFIRE_LIMIT_REACHED. -/

theorem exec_haltCause (c : HaltCause) {s : State} (h : s.asleep = false) : exec (.haltCause c) s = .next (halted c s) :=
  congrArg Host.Outcome.next (whileAwake_of_awake h)

/-- Outside SYNC, RUN and STOPPING a halt cause is ignored. -/
theorem halted_ignored (c : HaltCause) {s : State} (hs : s.ListSettled) (h : ¬ Running3 s) : halted c s = s := by
  rw [halted, takeHalt_inactive c s (by rwa [← Bool.not_eq_true, active_iff]), settle_of_settled s hs]

theorem haltCause_enters (c : HaltCause) (s : State) (hawake : s.asleep = false) (hs : s.ListSettled) :
    (Running3 s → ∃ t, exec (.haltCause c) s = .next t
      ∧ t.rct = { s.rct with
          state := .halt, syncTimer := 0, settleCount := 0, stopCount := 0
          trip := some { cause := c, time := s.mfe.count, left := s.rct.state, m := s.atr.m, w := s.atr.w
                         currents := Tab.ofFn s.lastCurrent, episode := s.dgv.kind.map fun k => (k, s.dgv.band) } }
      ∧ Raised .haltEntered s t ∧ SetpointsZeroed s t ∧ Shut t
      ∧ (s.dgv.state ≠ .steady → GovernorIdle t)
      ∧ t.mfe = s.mfe ∧ t.ffb = s.ffb ∧ t.atr = s.atr ∧ t.ssq = s.ssq ∧ t.wcu = s.wcu ∧ t.lnk = s.lnk ∧ t.sst = s.sst
      ∧ t.params = s.params ∧ t.rtb.entries = s.rtb.entries)
    ∧ (¬ Running3 s → exec (.haltCause c) s = .next s) := by
  refine ⟨fun hrun => ?_, fun hidle => ?_⟩
  · have h : s.active = true := (active_iff s).mpr hrun
    have hk := halted_changes c s
    exact ⟨halted c s, exec_haltCause c hawake, halted_rct c h, halted_raised c h, halted_setpointsZeroed c h,
      halted_shut c hs.2, halted_governorIdle c h, hk .mfe (by decide), hk .ffb (by decide), hk .atr (by decide),
      hk .ssq (by decide), hk .wcu (by decide), hk .lnk (by decide), hk .sst (by decide), hk .params (by decide),
      halted_entries c h⟩
  · rw [exec_haltCause c hawake, halted_ignored c hs hidle]

theorem exec_misfireLimit {k : Fin 24} {l : LastRetirement} {s : State} (hawake : s.asleep = false)
    (hlast : (s.fls.status.get k).last = some l) (hmisfire : l.outcome = .misfire)
    (hlimit : s.parN .misfireLimit ≤ (s.fls.status.get k).consecutive) :
    exec (.misfireLimitReached k) s = .next (halted (.misfire k) s) := by
  have hdue : misfireDue k s = true := by simp [misfireDue, hlast, hmisfire, hlimit]
  refine congrArg Host.Outcome.next ((whileAwake_of_awake hawake).trans ?_)
  exact if_pos hdue

/-- Settles O25: a halt cause and a misfire limit are the same halt. -/
theorem haltCauseEntersHalt : Obligations.HaltCauseEntersHalt := by
  refine ⟨haltCause_enters, fun k l s hawake hs hlast hmisfire hlimit => ?_⟩
  rw [exec_misfireLimit hawake hlast hmisfire hlimit]
  refine ⟨fun hrun => ?_, fun hidle => by rw [halted_ignored _ hs hidle]⟩
  have hrct := halted_rct (.misfire k) ((active_iff s).mpr hrun)
  exact ⟨_, _, rfl, by rw [hrct]; rfl, by rw [hrct], rfl, halted_shut _ hs.2⟩

/-! TRIP_IN. -/

/-- TRIP_IN at a level. -/
def withTripIn (b : Bool) (s : State) : State := s.withRct { s.rct with tripIn := b }

theorem active_withTripIn (b : Bool) (s : State) : (withTripIn b s).active = s.active := rfl

/-- Outside RUN and STOPPING the line's level changes the union no more (R88). -/
theorem settle_withTripIn (b : Bool) {s : State} (hs : s.ListSettled) (h : ¬ Running3 s) :
    settle (withTripIn b s) = withTripIn b s := by
  have hrun : s.running = false := running_of_inactive h
  obtain ⟨hblocked, hlist, -⟩ := shut_of_settled hs hrun
  exact settle_of_settled _ (settled_of_shut hblocked hlist hrun)

theorem exec_tripInAssert_idle {s : State} (hs : s.ListSettled) (h : ¬ Running3 s) :
    exec .tripInAssert s = .next (withTripIn true s) := by
  have hidle : takeHalt .tripInput (withTripIn true s) = withTripIn true s :=
    takeHalt_inactive _ _ (by rwa [active_withTripIn, ← Bool.not_eq_true, active_iff])
  have hlevel : (if s.asleep = true then withTripIn true s else assertTripIn s) = withTripIn true s := by
    rw [show assertTripIn s = withTripIn true s from hidle, ite_self]
  show Host.Outcome.next (settle (if s.asleep = true then withTripIn true s else assertTripIn s)) = _
  rw [hlevel, settle_withTripIn true hs h]

/-- Settles O27. -/
theorem tripInActs : Obligations.TripInActs := by
  refine fun s hs => ⟨fun hawake hrun => ?halts, exec_tripInAssert_idle hs, fun hidle => ?releases, fun r hr g => ?gates⟩
  case halts =>
    have h : (withTripIn true s).active = true := (active_iff s).mpr hrun
    have hrct := halted_rct .tripInput h
    refine ⟨halted .tripInput (withTripIn true s), tripRecordOf .tripInput (withTripIn true s), ?_, by rw [hrct]; rfl,
      by rw [hrct]; rfl, by rw [hrct], rfl, halted_shut _ hs.2, halted_raised .tripInput h⟩
    show Host.Outcome.next (settle (if s.asleep = true then _ else assertTripIn s)) = _
    rw [if_neg (by simp [hawake])]
    rfl
  case releases => exact congrArg Host.Outcome.next (settle_withTripIn false hs hidle)
  case gates => simp [State.gateOn, hr]

/-! The governor's events. -/

/-- An event of the governor that is due: what it does, the halt it asks for, and the union taken. -/
theorem governorEvent_due {due : AngleUpdate → State → Bool} {act : AngleUpdate → State → State × Option HaltCause}
    {s : State} {u : AngleUpdate} (hlast : s.atr.last = some u) (hrun : s.running = true) (hdue : due u s = true) :
    governorEvent due act s = settle (askHalt (act u s).2 (act u s).1) := by
  simp only [governorEvent, hlast, hrun, hdue, Bool.and_self, if_true]

/-- A change of the governor that leaves the episode block and the list leaves a settled list settled. -/
theorem settled_of_governor {fs : List Field} {s t : State} (hs : s.ListSettled) (h : Changes fs s t)
    (hblock : t.dgv.block = s.dgv.block) (hrct : Field.rct ∉ fs := by decide) (hatr : Field.atr ∉ fs := by decide)
    (hssq : Field.ssq ∉ fs := by decide) (hfls : Field.fls ∉ fs := by decide) : t.ListSettled := by
  have hr : t.rct = s.rct := h .rct hrct
  have hf : t.fls = s.fls := h .fls hfls
  have hu : t.union = s.union := union_of_reasons (by rw [State.running, hr]; rfl) (by rw [hr])
    (by rw [h .atr hatr]) hblock (by rw [h .ssq hssq])
  rw [State.ListSettled, hu, hf]
  exact hs

theorem endRecovery_dgv (s : State) : (endRecovery s).dgv =
    { s.dgv with state := .steady, copy := none, kind := none, rideOut := false, recovery := 0 } := by
  rw [endRecovery, occur_dgv]; rfl

theorem endRecovery_raised (s : State) : Raised .recoveryDone s (endRecovery s) :=
  raised_occur (s.withDgv { s.dgv with state := .steady, copy := none, kind := none, rideOut := false, recovery := 0 })
    (by decide)

theorem endRecovery_quiet (s : State) : QuietBut [.recoveryDone, .traceFrozen] s (endRecovery s) :=
  quiet_occur .recoveryDone
    (s.withDgv { s.dgv with state := .steady, copy := none, kind := none, rideOut := false, recovery := 0 })

theorem endRecovery_frame (s : State) : endRecovery s =
    { s with dgv := (endRecovery s).dgv, ntu := (endRecovery s).ntu, trc := (endRecovery s).trc } := by
  rw [endRecovery_dgv, endRecovery, occur_frame]; rfl

/-- With no copy held the limit is I_MAX again (R57). -/
theorem limit_of_steady {s : State} (h : s.dgv.state = .steady) : s.limit = s.parN .iMax := by
  rw [State.limit, h]

theorem endRecovery_limit (s : State) : (endRecovery s).limit = s.parN .iMax := by
  rw [limit_of_steady (by rw [endRecovery_dgv]), State.parN, State.par, endRecovery, occur_params]
  rfl

theorem exec_recoveryDone {s : State} {u : AngleUpdate} {c : GoverningCopy} (hawake : s.asleep = false)
    (hs : s.ListSettled) (hlast : s.atr.last = some u) (hrun : s.running = true) (hstate : s.dgv.state = .recovery)
    (hcopy : s.dgv.copy = some c) (hlong : c.resp.rampMs * 20 ≤ s.dgv.recovery) :
    exec .recoveryDone s = .next (endRecovery s) := by
  have hdue : recoveryDue u s = true := by
    simp [recoveryDue, rampLength, hstate, hcopy, Config.updatesPerMs, hlong]
  have hended : (endRecovery s).ListSettled :=
    settled_of_governor hs (endRecovery_changes s) (by rw [endRecovery_dgv])
  refine congrArg Host.Outcome.next ((whileAwake_of_awake hawake).trans ?_)
  rw [governorEvent_due hlast hrun hdue]
  exact settle_of_settled _ hended

/-! The end of an episode with the run (R113). -/

/-- An open record is closed, and the older ones stay. -/
theorem endEpisode_record {s : State} {rec0 : HistoryRecord} {rest : List HistoryRecord}
    (hstate : s.dgv.state = .episode) (hhistory : s.dgv.history = rec0 :: rest) (hopen : rec0.outcome = .ongoing) :
    (endEpisode s).dgv.history = closeRecord (if endsTripped s then .tripped else .ended) s.mfe.count rec0 :: rest := by
  rw [Governing.endEpisode_open (by rw [hstate]; decide)]
  simp only [hstate, hhistory, changeNewest, hopen, if_true]

/-- A recovery has no open record and no mark to set. -/
theorem endEpisode_of_recovery {s : State} (hstate : s.dgv.state = .recovery) :
    (endEpisode s).dgv.history = s.dgv.history ∧ (endEpisode s).rtb = s.rtb := by
  simp [endEpisode, hstate]

theorem endEpisode_frame (s : State) : endEpisode s = { s with dgv := (endEpisode s).dgv, rtb := (endEpisode s).rtb } := by
  unfold endEpisode
  split
  · rfl
  · dsimp only
    split
    · split
      · unfold markEntry
        split <;> rfl
      · rfl
    · rfl

theorem endsTripped_iff (s : State) : endsTripped s = true ↔ s.rct.state = .halt ∧ ∃ r, s.rct.trip = some r
    ∧ ((∃ ix, r.cause = .response ix) ∨ (∃ ix, r.cause = .expiry ix) ∨ r.cause = .episodeLong ∨ r.cause = .repeated) := by
  have hcause (c : HaltCause) : tripsEpisode c = true ↔
      (∃ ix, c = .response ix) ∨ (∃ ix, c = .expiry ix) ∨ c = .episodeLong ∨ c = .repeated := by
    cases c <;> simp [tripsEpisode]
  rw [endsTripped, Bool.and_eq_true, beq_iff_eq]
  refine and_congr_right fun _ => ?_
  cases htrip : s.rct.trip with
  | none => simp
  | some r => simp [hcause]

theorem exec_episodeEnd {s : State} (hawake : s.asleep = false) (hs : s.ListSettled)
    (hover : s.rct.state = .standby ∨ s.rct.state = .halt) : exec .episodeEnd s = .next (endEpisode s) := by
  have hdue : runOver s = true := by simpa [runOver] using hover
  have hrun : s.running = false := by
    rcases hover with h | h <;> simp [State.running, h]
  obtain ⟨hblocked, hlist, -⟩ := shut_of_settled hs hrun
  have hended : (endEpisode s).ListSettled := settled_of_shut (by rwa [endEpisode_fls]) (by rwa [endEpisode_fls])
    (by rwa [State.running, endEpisode_rct])
  refine congrArg Host.Outcome.next ((whileAwake_of_awake hawake).trans ?_)
  exact (if_pos hdue).trans (settle_of_settled _ hended)

/-- Settles O24: a recovery that has run its length, and an episode that outlived the run. -/
theorem episodeReturnsSteady : Obligations.EpisodeReturnsSteady := by
  refine ⟨fun s u c hawake hs hlast hrun hstate hcopy hlong => ?recovered, fun s hawake hs hover hstate => ?ended⟩
  case recovered =>
    have hd := endRecovery_dgv s
    exact ⟨endRecovery s, exec_recoveryDone hawake hs hlast hrun hstate hcopy hlong, endRecovery_raised s,
      endRecovery_quiet s, by rw [hd], by rw [hd], by rw [hd], by rw [hd], endRecovery_limit s, endRecovery_frame s⟩
  case ended =>
    have hd := Governing.endEpisode_open hstate
    exact ⟨endEpisode s, exec_episodeEnd hawake hs hover, endEpisode_governorIdle hstate, by rw [hd], by rw [hd],
      endEpisode_ntu s, endEpisode_frame s, endEpisode_of_recovery, fun _ _ => endEpisode_record, endsTripped_iff s⟩

/-! Supervision (R150, R151). -/

theorem lapse_rct (s : State) : (lapse s).rct = { s.rct with lapsed := true } := by
  rw [lapse, occur_rct]; rfl

theorem lapse_targetsZeroed (s : State) : TargetsZeroed s (lapse s) := by
  intro b
  rw [lapse, occur_crg]
  exact zeroTargets_zeroed (s.withRct { s.rct with lapsed := true }) b

theorem lapse_raised (s : State) : Raised .supervisionLapse s (lapse s) :=
  raised_occur (zeroTargets (s.withRct { s.rct with lapsed := true })) (by decide)

theorem lapse_quiet (s : State) : QuietBut [.supervisionLapse, .traceFrozen] s (lapse s) :=
  quiet_occur .supervisionLapse (zeroTargets (s.withRct { s.rct with lapsed := true }))

theorem lapse_frame (s : State) : lapse s =
    { s with rct := (lapse s).rct, crg := (lapse s).crg, ntu := (lapse s).ntu, trc := (lapse s).trc } := by
  rw [lapse, occur_frame]; rfl

/-- A lapse leaves every block reason. -/
theorem lapse_settled {s : State} (hs : s.ListSettled) : (lapse s).ListSettled := by
  have hu : (lapse s).union = s.union := by
    refine union_of_reasons ?_ ?_ ?_ ?_ ?_
    · rw [State.running, lapse_rct]; rfl
    · rw [lapse_rct]
    all_goals rw [lapse_frame]
  have hf : (lapse s).fls = s.fls := lapse_changes s .fls (by decide)
  rw [State.ListSettled, hu, hf]
  exact hs

theorem lapseDue_iff (s : State) : lapseDue s = true ↔ s.rct.state = .run ∧ s.par .supervision ≠ 0
    ∧ s.rct.lapsed = false ∧ s.parN .supervision * 20 ≤ s.rct.supervision := by
  rw [lapseDue, Bool.and_eq_true, Bool.and_eq_true, Bool.and_eq_true, beq_iff_eq, decide_eq_true_iff, decide_eq_true_iff,
    Bool.not_eq_true', and_assoc, and_assoc]
  exact Iff.rfl

/-- Settles O29. -/
theorem supervisionLapseZeroesTargets : Obligations.SupervisionLapseZeroesTargets := by
  intro s hawake hs hstate hpar hlapsed hsilence
  refine ⟨lapse s, ?_, lapse_rct s, lapse_targetsZeroed s, lapse_raised s, lapse_quiet s, lapse_frame s⟩
  refine congrArg Host.Outcome.next ((whileAwake_of_awake hawake).trans ?_)
  exact (if_pos ((lapseDue_iff s).mpr ⟨hstate, hpar, hlapsed, hsilence⟩)).trans (settle_of_settled _ (lapse_settled hs))

/-! An update in every run state (R139, R140, R142). -/

/-- The state with the silence counted (R150). -/
theorem countSupervision_eq (s : State) :
    countSupervision s = s.withRct { s.rct with supervision := min 1200000 (s.rct.supervision + 1) } := rfl

theorem runStep_idle (u : AngleUpdate) {s : State} (h : s.rct.state = .standby ∨ s.rct.state = .halt) :
    runStep u s = countSupervision s := by
  rcases h with h | h <;> simp [runStep, countSupervision_eq, h]

theorem runStep_sync (u : AngleUpdate) {s : State} (h : s.rct.state = .sync) :
    runStep u s = syncStep u (countSupervision s) := by
  simp [runStep, countSupervision_eq, h]

theorem runStep_stopping (u : AngleUpdate) {s : State} (h : s.rct.state = .stopping) :
    runStep u s = stopStep u (countSupervision s) := by
  simp [runStep, countSupervision_eq, h]

theorem runStep_run (u : AngleUpdate) {s : State} (h : s.rct.state = .run) :
    runStep u s = if lapseDue (countSupervision s) then lapse (countSupervision s) else countSupervision s := by
  simp [runStep, countSupervision_eq, h]

theorem enterRun_rct (s : State) :
    (enterRun s).rct = { s.rct with state := .run, syncTimer := 0, settleCount := 0 } := by
  rw [enterRun, occur_rct]; rfl

/-- SYNC enters RUN, or STANDBY once the timer has run out, or stays (R139, R140). -/
theorem judgeSync_settled {s : State} (h : s.parN .syncSettle ≤ s.rct.settleCount) : judgeSync s = enterRun s :=
  if_pos (by simp [settled, h])

theorem judgeSync_timedOut {s : State} (h : s.rct.settleCount < s.parN .syncSettle)
    (htime : s.parN .syncTimeout * 20 ≤ s.rct.syncTimer) : judgeSync s = toStandby (some .syncFailed) s := by
  have htimed : syncTimedOut s = true := decide_eq_true htime
  rw [judgeSync, if_neg (by simp [settled, h]), if_pos htimed]

theorem judgeSync_waits {s : State} (h : s.rct.settleCount < s.parN .syncSettle)
    (htime : s.rct.syncTimer < s.parN .syncTimeout * 20) : judgeSync s = s := by
  have htimed : ¬ syncTimedOut s = true := fun hdue => absurd (of_decide_eq_true hdue) (Nat.not_le.mpr htime)
  rw [judgeSync, if_neg (by simp [settled, h]), if_neg htimed]

/-- The qualifying test of SYNC (R139). -/
theorem syncQualifies_iff (u : AngleUpdate) (s : State) : syncQualifies u s = true ↔
    u.state = .locked ∧ s.parN .mSag + s.parN .mHyst ≤ u.m ∧ (u.m : Int) ≤ (s.parN .mSwell : Int) - s.parN .mHyst
      ∧ s.ssq.pendingSync = false := by
  rw [syncQualifies, clearMagnitude, Bool.and_eq_true, Bool.and_eq_true, Bool.and_eq_true, beq_iff_eq, decide_eq_true_iff,
    decide_eq_true_iff, Bool.not_eq_true', and_assoc, and_assoc]
  have hswell : u.m + s.parN .mHyst ≤ s.parN .mSwell ↔ (u.m : Int) ≤ (s.parN .mSwell : Int) - s.parN .mHyst := by omega
  rw [hswell]

/-- The qualifying test of STOPPING (R142). -/
theorem stopQualifies_iff (u : AngleUpdate) (s : State) : stopQualifies u s = true ↔
    (∀ b, (s.crg.bridges.get b).setpoint = 0)
      ∧ ∀ b : Fin 4, b.1 < s.parN .bridges → (u.set.idc.get b).toInt < s.par .iZero := by
  rw [stopQualifies, Bool.and_eq_true, LoadEnd.tab_list_eq]
  refine and_congr (by simp) ?_
  simp only [List.all_eq_true, List.mem_finRange, forall_const, Bool.or_eq_true, Bool.not_eq_true', decide_eq_false_iff_not,
    decide_eq_true_iff, ← imp_iff_not_or]

/-- A count that a test advances and otherwise clears. -/
theorem counted_eq {p : Prop} {b : Bool} {n c : Nat} (hb : b = true ↔ p) (hgood : p → n = c + 1) (hbad : ¬ p → n = 0) :
    (if b = true then c + 1 else 0) = n := by
  split
  · next h => exact (hgood (hb.mp h)).symm
  · next h => exact (hbad fun hp => h (hb.mpr hp)).symm

theorem toStandby_raised {src : Source} (s : State) (hm : src ≠ .slotMisfire) (hf : src ≠ .traceFrozen) :
    Raised src s (toStandby (some src) s) := by
  have hm' : src.num ≠ Source.slotMisfire.num := fun e => hm (Source.num_injective e)
  have hf' : src.num ≠ Source.traceFrozen.num := fun e => hf (Source.num_injective e)
  rw [Raised, toStandby, endRun_source _ hm' hf', occurIf, occur_source_same src _ hf]
  rfl

/-- The update that SYNC judges: timer and settle count advanced. -/
def synced (n : Nat) (s : State) : State := s.withRct { s.rct with
  supervision := min 1200000 (s.rct.supervision + 1), syncTimer := s.rct.syncTimer + 1, settleCount := n }

theorem syncStep_eq (u : AngleUpdate) (s : State) {n : Nat}
    (h : (if syncQualifies u s = true then s.rct.settleCount + 1 else 0) = n) :
    syncStep u (countSupervision s) = judgeSync (synced n s) := by
  rw [← h]
  rfl

/-- The update that STOPPING judges: the stop count advanced. -/
def counting (n : Nat) (s : State) : State := s.withRct { s.rct with
  supervision := min 1200000 (s.rct.supervision + 1), stopCount := n }

theorem stopStep_eq (u : AngleUpdate) (s : State) {n : Nat}
    (h : (if stopQualifies u s = true then s.rct.stopCount + 1 else 0) = n) :
    stopStep u (countSupervision s) = judgeStop (counting n s) := by
  rw [← h]
  rfl

theorem judgeSync_supervision (s : State) : (judgeSync s).rct.supervision = s.rct.supervision := by
  unfold judgeSync
  split
  · rw [enterRun_rct]
  · split
    · rw [toStandby_rct]; rfl
    · rfl

theorem judgeStop_supervision (s : State) : (judgeStop s).rct.supervision = s.rct.supervision := by
  unfold judgeStop
  split
  · rw [toStandby_rct]; rfl
  · rfl

/-- Every run state counts the silence (R150). -/
theorem runStep_supervision (u : AngleUpdate) (s : State) :
    (runStep u s).rct.supervision = min 1200000 (s.rct.supervision + 1) := by
  cases h : s.rct.state with
  | standby => rw [runStep_idle u (.inl h)]; rfl
  | halt => rw [runStep_idle u (.inr h)]; rfl
  | sync =>
    rw [runStep_sync u h, syncStep_eq u s rfl, judgeSync_supervision]
    rfl
  | stopping =>
    rw [runStep_stopping u h, stopStep_eq u s rfl, judgeStop_supervision]
    rfl
  | run =>
    rw [runStep_run u h]
    split
    · rw [lapse_rct]; rfl
    · rfl

theorem runStep_settles (u : AngleUpdate) {s : State} (h : s.rct.state = .sync) {n : Nat}
    (hn : (if syncQualifies u s = true then s.rct.settleCount + 1 else 0) = n) :
    let t := runStep u s
    let silence := min 1200000 (s.rct.supervision + 1)
    (s.parN .syncSettle ≤ n → Raised .runEntered s t ∧ QuietBut [.runEntered, .traceFrozen] s t
      ∧ t = { s with
          rct := { s.rct with state := .run, syncTimer := 0, settleCount := 0, supervision := silence }
          ntu := t.ntu, trc := t.trc })
    ∧ (n < s.parN .syncSettle → s.parN .syncTimeout * 20 ≤ s.rct.syncTimer + 1 → Raised .syncFailed s t
      ∧ t.rct = { s.rct with
          state := .standby, syncTimer := 0, settleCount := 0, stopCount := 0, supervision := silence })
    ∧ (n < s.parN .syncSettle → s.rct.syncTimer + 1 < s.parN .syncTimeout * 20 →
      t = { s with rct := { s.rct with
        syncTimer := s.rct.syncTimer + 1, settleCount := n, supervision := silence } }) := by
  dsimp only
  rw [runStep_sync u h, syncStep_eq u s hn]
  refine ⟨fun hdone => ?entered, fun hshort htime => ?failed, fun hshort htime => judgeSync_waits hshort htime⟩
  case entered =>
    rw [judgeSync_settled (s := synced n s) hdone]
    refine ⟨raised_occur ((synced n s).withRct _) (by decide), quiet_occur .runEntered ((synced n s).withRct _), ?_⟩
    rw [enterRun, occur_frame]
    rfl
  case failed =>
    rw [judgeSync_timedOut (s := synced n s) hshort htime, toStandby_rct]
    exact ⟨toStandby_raised (synced n s) (by decide) (by decide), rfl⟩

theorem runStep_stops (u : AngleUpdate) {s : State} (h : s.rct.state = .stopping) {n : Nat}
    (hn : (if stopQualifies u s = true then s.rct.stopCount + 1 else 0) = n) :
    let t := runStep u s
    let silence := min 1200000 (s.rct.supervision + 1)
    (20 ≤ n → Raised .stopDone s t ∧ t.rct = { s.rct with
        state := .standby, syncTimer := 0, settleCount := 0, stopCount := 0, supervision := silence })
    ∧ (n < 20 → t = { s with rct := { s.rct with stopCount := n, supervision := silence } }) := by
  dsimp only
  rw [runStep_stopping u h, stopStep_eq u s hn]
  refine ⟨fun hdone => ?_, fun hshort => if_neg (Nat.not_le.mpr hshort)⟩
  rw [judgeStop, if_pos (show 20 ≤ (counting n s).rct.stopCount from hdone), toStandby_rct]
  exact ⟨toStandby_raised (counting n s) (by decide) (by decide), rfl⟩

theorem runStep_lapses (u : AngleUpdate) {s : State} (h : s.rct.state = .run) :
    let t := runStep u s
    let silence := min 1200000 (s.rct.supervision + 1)
    let due : Prop := s.par .supervision ≠ 0 ∧ s.rct.lapsed = false ∧ s.parN .supervision * 20 ≤ silence
    (due → Raised .supervisionLapse s t ∧ TargetsZeroed s t
      ∧ t.rct = { s.rct with supervision := silence, lapsed := true })
    ∧ (¬ due → t = { s with rct := { s.rct with supervision := silence } }) := by
  have hdue := lapseDue_iff (countSupervision s)
  dsimp only
  rw [runStep_run u h]
  refine ⟨fun hlapses => ?_, fun hstays => if_neg fun hl => hstays ?_⟩
  · rw [if_pos (hdue.mpr ⟨h, hlapses⟩), lapse_rct]
    exact ⟨lapse_raised (countSupervision s), lapse_targetsZeroed (countSupervision s), rfl⟩
  · obtain ⟨-, hall⟩ := hdue.mp hl
    exact hall

/-! The three events as commands of their own. -/

/-- The union lifted after RUN is entered from a shut SYNC (R88): what it changes. -/
theorem exec_runEntered {s : State} (hawake : s.asleep = false) (hstate : s.rct.state = .sync)
    (hdone : s.parN .syncSettle ≤ s.rct.settleCount) : exec .runEntered s = .next (settle (enterRun s)) := by
  have hdue : settled s = true := decide_eq_true hdone
  exact congrArg Host.Outcome.next ((whileAwake_of_awake hawake).trans (if_pos ⟨hstate, hdue⟩))

/-- A shut list whose union may have been lifted: taken, it is blocked as the union says, and nothing is retired (R88). -/
theorem settle_of_shut {s : State} (hblocked : s.fls.blocked = true) :
    settle s = takeUnblock s ∧ (settle s).fls = { s.fls with blocked := s.union } := by
  cases hu : s.union with
  | true =>
    have hsame : takeUnblock s = s := takeUnblock_risen s hu
    have hset : settle s = s := by rw [settle, hsame, takeClose_blocked hblocked]; rfl
    rw [hset, hsame]
    refine ⟨rfl, ?_⟩
    rw [← hblocked]
  | false =>
    have hopen : (takeUnblock s).fls = { s.fls with blocked := false } := by rw [takeUnblock_lifted s hu hblocked]; rfl
    have hset : settle s = takeUnblock s := by
      rw [settle, takeClose_settled _ (by rw [hopen, takeUnblock_union, hu])]
      rfl
    rw [hset, hopen]
    exact ⟨rfl, rfl⟩

theorem runEntered_enters {s : State} (hawake : s.asleep = false) (hs : s.ListSettled) (hstate : s.rct.state = .sync)
    (hdone : s.parN .syncSettle ≤ s.rct.settleCount) : ∃ t, exec .runEntered s = .next t
      ∧ t.rct = { s.rct with state := .run, syncTimer := 0, settleCount := 0 }
      ∧ Raised .runEntered s t ∧ QuietBut [.runEntered, .traceFrozen] s t
      ∧ t = { s with rct := t.rct, ntu := t.ntu, trc := t.trc, fls := t.fls, crg := t.crg }
      ∧ t.fls = { s.fls with blocked := t.union } := by
  obtain ⟨hblocked, -, -⟩ := shut_of_settled hs (by simp [State.running, hstate])
  have hfls : (enterRun s).fls = s.fls := enterRun_changes s .fls (by decide)
  obtain ⟨hopen, hlist⟩ := settle_of_shut (s := enterRun s) (by rwa [hfls])
  have hntu : (takeUnblock (enterRun s)).ntu = (enterRun s).ntu := takeUnblock_changes _ .ntu (by decide)
  refine ⟨settle (enterRun s), exec_runEntered hawake hstate hdone, ?_, ?_, ?_, ?_, ?_⟩
  · rw [hopen, takeUnblock_changes _ .rct (by decide), enterRun_rct]
  · rw [Raised, hopen, hntu]
    exact raised_occur (s.withRct _) (by decide)
  · rw [hopen, QuietBut, hntu]
    exact quiet_occur .runEntered (s.withRct _)
  · rw [hopen]
    exact frame_of_entered (((enterRun_changes s).mono (by simp)).trans ((takeUnblock_changes _).mono (by simp)))
  · rw [hlist, hfls, hopen, takeUnblock_union]

/-- An entry to STANDBY from a shut state: what the close after it still finds is nothing. -/
theorem settle_toStandby_of_shut (src? : Option Source) {s : State} (hblocked : s.fls.blocked = true) :
    settle (toStandby src? s) = toStandby src? s := by
  have hfls : (toStandby src? s).fls.blocked = true := by
    rw [toStandby, endRun_fls _ (by rwa [occurIf_fls]), occurIf_fls]
    exact hblocked
  rw [settle_toStandby, takeClose_blocked hfls]

/-- In a shut state the entry occurs as its own notice alone. -/
theorem toStandby_quiet {src : Source} {s : State} (hblocked : s.fls.blocked = true) :
    QuietBut [src, .traceFrozen] s (toStandby (some src) s) := by
  have hntu : (toStandby (some src) s).ntu = (occurIf (some src) (s.withRct (s.rct.enter .standby))).ntu := by
    rw [toStandby, endRun_blocked (by rwa [occurIf_fls]), endEpisode_ntu, zeroSetpoints_ntu]
  rw [QuietBut, hntu]
  exact quiet_occur src (s.withRct (s.rct.enter .standby))

/-- In STEADY the entry leaves the history. -/
theorem toStandby_history (src? : Option Source) {s : State} (hblocked : s.fls.blocked = true)
    (hsteady : s.dgv.state = .steady) : (toStandby src? s).dgv.history = s.dgv.history := by
  rw [toStandby, endRun_quiet (by rwa [occurIf_fls]) (by rwa [occurIf_dgv]), clearRun, State.withDgv_dgv, zeroSetpoints_dgv,
    occurIf_dgv]
  rfl

theorem exec_syncFailed {s : State} (hawake : s.asleep = false) (hs : s.ListSettled) (hstate : s.rct.state = .sync)
    (hshort : s.rct.settleCount < s.parN .syncSettle) (htime : s.parN .syncTimeout * 20 ≤ s.rct.syncTimer) :
    exec .syncFailed s = .next (toStandby (some .syncFailed) s) := by
  obtain ⟨hblocked, -, -⟩ := shut_of_settled hs (by simp [State.running, hstate])
  have htimed : syncTimedOut s = true := decide_eq_true htime
  have hunsettled : (!settled s) = true := by simp [settled, hshort]
  refine congrArg Host.Outcome.next ((whileAwake_of_awake hawake).trans ((if_pos ⟨hstate, htimed, hunsettled⟩).trans ?_))
  exact settle_toStandby_of_shut _ hblocked

theorem syncFailed_enters {s : State} (hawake : s.asleep = false) (hs : s.ListSettled) (hstate : s.rct.state = .sync)
    (hshort : s.rct.settleCount < s.parN .syncSettle) (htime : s.parN .syncTimeout * 20 ≤ s.rct.syncTimer)
    (hsteady : s.dgv.state = .steady) : ∃ t, exec .syncFailed s = .next t
        ∧ t.rct = { s.rct with state := .standby, syncTimer := 0, settleCount := 0, stopCount := 0 }
        ∧ Raised .syncFailed s t ∧ QuietBut [.syncFailed, .traceFrozen] s t ∧ SetpointsZeroed s t ∧ Shut t
        ∧ t.dgv.history = s.dgv.history ∧ t.ssq = s.ssq ∧ t.atr = s.atr := by
  obtain ⟨hblocked, hlist, -⟩ := shut_of_settled hs (by simp [State.running, hstate])
  have hshut := settle_toStandby_shut (some .syncFailed) hs.2
  rw [settle_toStandby_of_shut _ hblocked] at hshut
  exact ⟨_, exec_syncFailed hawake hs hstate hshort htime, toStandby_rct _ s, toStandby_raised s (by decide) (by decide),
    toStandby_quiet hblocked, toStandby_setpointsZeroed _ s, hshut, toStandby_history _ hblocked hsteady,
    toStandby_changes _ s .ssq (by decide), toStandby_changes _ s .atr (by decide)⟩

theorem exec_stopDone {s : State} (hawake : s.asleep = false) (hstate : s.rct.state = .stopping)
    (hdone : 20 ≤ s.rct.stopCount) : exec .stopDone s = .next (settle (toStandby (some .stopDone) s)) := by
  have hjudged : judgeStop s = toStandby (some .stopDone) s := if_pos hdone
  rw [← hjudged]
  exact congrArg Host.Outcome.next ((whileAwake_of_awake hawake).trans (if_pos hstate))

theorem stopDone_enters {s : State} (hawake : s.asleep = false) (hs : s.ListSettled) (hstate : s.rct.state = .stopping)
    (hdone : 20 ≤ s.rct.stopCount) : ∃ t, exec .stopDone s = .next t
      ∧ t.rct = { s.rct with state := .standby, syncTimer := 0, settleCount := 0, stopCount := 0 }
      ∧ Raised .stopDone s t ∧ SetpointsZeroed s t ∧ Shut t ∧ (s.dgv.state ≠ .steady → GovernorIdle t)
      ∧ t.ssq = s.ssq ∧ t.atr = s.atr ∧ t.mfe = s.mfe ∧ t.params = s.params := by
  have hk := (toStandby_changes (some .stopDone) s).trans (settle_changes _)
  refine ⟨_, exec_stopDone hawake hstate hdone, ?_, settle_toStandby_raised (by decide) (by decide) s, ?_,
    settle_toStandby_shut _ hs.2, fun hopen => ?_, hk .ssq (by decide), hk .atr (by decide), hk .mfe (by decide),
    hk .params (by decide)⟩
  · rw [settle_toStandby, takeClose_rct, toStandby_rct]
    rfl
  · intro b
    rw [settle_toStandby, takeClose_crg, toStandby_setpointsZeroed]
  · have hidle : GovernorIdle (toStandby (some .stopDone) s) := endRun_governorIdle (by rwa [occurIf_dgv])
    rwa [settle_toStandby, GovernorIdle, takeClose_dgv]

/-- Settles O28: an update by the run state, then the three events. -/
theorem syncAndStopEnd : Obligations.SyncAndStopEnd := by
  refine ⟨fun s u => ⟨runStep_supervision u s, runStep_idle u, fun hsync n hgood hbad => ?sync,
    fun hstopping n hgood hbad => ?stopping, runStep_lapses u⟩,
    fun s hawake hs hstate => ⟨runEntered_enters hawake hs hstate, syncFailed_enters hawake hs hstate⟩,
    fun s => stopDone_enters⟩
  case sync => exact runStep_settles u hsync (counted_eq (syncQualifies_iff u s) hgood hbad)
  case stopping => exact runStep_stops u hstopping (counted_eq (stopQualifies_iff u s) hgood hbad)

end Sys2Proof.Halting
end

section
/-!
The governor's conditions, an update in STEADY and RECOVERY, and an onset with what the union brings about after it (R95 to
R100, R111, R116). The file settles O20 and O21.
-/

namespace Sys2Proof.Onsets

open Sys2Proof.Machine Sys2Proof.Claims Sys2Proof.Governing Sys2Proof.Halting Sys2Proof.Resetting Sys2Proof.Occurrences

/-! Conditions, kind and band. -/

theorem disturbanceD_iff (s : State) (u : AngleUpdate) : disturbanceD s u = true ↔ u.m < s.parN .mSag
    ∨ s.parN .mSwell < u.m ∨ s.parN .eJump ≤ u.e.natAbs ∨ s.parN .wBand < ((u.w : Int) - s.wNom).natAbs := by
  simp only [disturbanceD, Bool.or_eq_true, decide_eq_true_eq, or_assoc]
  exact Iff.rfl

theorem clearC_iff (s : State) (u : AngleUpdate) : clearC s u = true ↔
    s.parN .mSag + s.parN .mHyst ≤ u.m ∧ (u.m : Int) ≤ (s.parN .mSwell : Int) - s.parN .mHyst
    ∧ 2 * u.e.natAbs < s.parN .eJump ∧ ((u.w : Int) - s.wNom).natAbs ≤ s.parN .wBand
    ∧ (u.state = .locked ∨ (u.state = .hold ∧ s.dgv.freeze = true)) := by
  have hswell : u.m + s.parN .mHyst ≤ s.parN .mSwell ↔ (u.m : Int) ≤ (s.parN .mSwell : Int) - s.parN .mHyst := by omega
  simp only [clearC, clearMagnitude, Bool.and_eq_true, Bool.or_eq_true, decide_eq_true_eq, beq_iff_eq, and_assoc, hswell]
  exact Iff.rfl

theorem classify_loss {s : State} {u : AngleUpdate} (h : u.m < s.parN .mLoss) : classify s u = .loss := if_pos h

/-- The kinds below LOSS, in rank order. -/
theorem classify_rest {s : State} {u : AngleUpdate} (h : s.parN .mLoss ≤ u.m) : classify s u =
    if u.m < s.parN .mSag then (if s.parN .unbalTh ≤ u.uLast then .sagAsym else .sagSym)
    else if s.parN .mSwell < u.m then .swell
    else if s.parN .eJump ≤ u.e.natAbs then .phaseJump
    else .freqDev := if_neg (Nat.not_lt.mpr h)

theorem conditions (s : State) (u : AngleUpdate) :
    let dw := ((u.w : Int) - s.wNom).natAbs
    (disturbanceD s u = true ↔
      u.m < s.parN .mSag ∨ s.parN .mSwell < u.m ∨ s.parN .eJump ≤ u.e.natAbs ∨ s.parN .wBand < dw)
    ∧ (clearC s u = true ↔
      s.parN .mSag + s.parN .mHyst ≤ u.m ∧ (u.m : Int) ≤ (s.parN .mSwell : Int) - s.parN .mHyst
      ∧ 2 * u.e.natAbs < s.parN .eJump ∧ dw ≤ s.parN .wBand
      ∧ (u.state = .locked ∨ (u.state = .hold ∧ s.dgv.freeze = true)))
    ∧ (u.m < s.parN .mLoss → classify s u = .loss)
    ∧ (s.parN .mLoss ≤ u.m →
      (u.m < s.parN .mSag → s.parN .unbalTh ≤ u.uLast → classify s u = .sagAsym)
      ∧ (u.m < s.parN .mSag → u.uLast < s.parN .unbalTh → classify s u = .sagSym)
      ∧ (s.parN .mSag ≤ u.m → s.parN .mSwell < u.m → classify s u = .swell)
      ∧ (s.parN .mSag ≤ u.m → u.m ≤ s.parN .mSwell → s.parN .eJump ≤ u.e.natAbs → classify s u = .phaseJump)
      ∧ (s.parN .mSag ≤ u.m → u.m ≤ s.parN .mSwell → u.e.natAbs < s.parN .eJump → classify s u = .freqDev)) := by
  refine ⟨disturbanceD_iff s u, clearC_iff s u, classify_loss, fun hm => ?_⟩
  rw [classify_rest hm]
  refine ⟨fun hsag hun => ?_, fun hsag hun => ?_, fun hsag hsw => ?_, fun hsag hsw he => ?_, fun hsag hsw he => ?_⟩
  · rw [if_pos hsag, if_pos hun]
  · rw [if_pos hsag, if_neg (Nat.not_le.mpr hun)]
  · rw [if_neg (Nat.not_lt.mpr hsag), if_pos hsw]
  · rw [if_neg (Nat.not_lt.mpr hsag), if_neg (Nat.not_lt.mpr hsw), if_pos he]
  · rw [if_neg (Nat.not_lt.mpr hsag), if_neg (Nat.not_lt.mpr hsw), if_neg (Nat.not_le.mpr he)]

theorem bands (x : Extremes) :
    (x.mMin ≤ 4096 → ∀ k ∈ [Kind.loss, .sagAsym, .sagSym], (bandOf k x : Int) = min 7 ((4096 - (x.mMin : Int)) / 512))
    ∧ (4096 ≤ x.mMax → (bandOf .swell x : Int) = min 7 (((x.mMax : Int) - 4096) / 128))
    ∧ bandOf .phaseJump x = min 7 (x.eMax / 320) ∧ bandOf .freqDev x = min 7 (x.dwMax / 147) := by
  refine ⟨fun hlow k hk => ?_, fun hhigh => ?_, rfl, rfl⟩
  · have hband : bandOf k x = min 7 ((4096 - x.mMin) / 512) := by
      simp only [List.mem_cons, List.not_mem_nil, or_false] at hk
      rcases hk with rfl | rfl | rfl <;> rfl
    rw [hband]
    omega
  · rw [bandOf]
    omega

/-! An update in STEADY and RECOVERY. -/

/-- The governor's count of a disturbed run, and its extremes (R96). -/
theorem countD_eq (u : AngleUpdate) (s : State) : countD u s =
    if disturbanceD s u = true then { s with dgv := { s.dgv with
      dCount := s.dgv.dCount + 1, runExtremes := some (extremesWith s.dgv.runExtremes (ownExtremes s u)) } }
    else { s with dgv := { s.dgv with dCount := 0, runExtremes := none } } := by
  have hwiden : widen s.dgv.runExtremes (extremesOf s u) = extremesWith s.dgv.runExtremes (ownExtremes s u) := by
    cases s.dgv.runExtremes <;> rfl
  rw [countD, hwiden]
  rfl

theorem countD_changes_run (u : AngleUpdate) (s : State) : (countD u s).dgv =
    { s.dgv with dCount := (countD u s).dgv.dCount, runExtremes := (countD u s).dgv.runExtremes } := by
  unfold countD
  split <;> rfl

theorem governorStep_stopped (u : AngleUpdate) {s : State} (h : s.running = false) : governorStep u s = (s, none) :=
  if_neg (by simp [h])

theorem governorStep_quiet (u : AngleUpdate) {s : State} (hrun : s.running = true) (h : s.dgv.state ≠ .episode) :
    governorStep u s = quietStep u s := by
  rw [governorStep, if_pos hrun, if_neg h]

theorem governorStep_episode (u : AngleUpdate) {s : State} (hrun : s.running = true) (h : s.dgv.state = .episode) :
    governorStep u s = episodeStep u s := by
  rw [governorStep, if_pos hrun, if_pos h]

theorem countD_parN (u : AngleUpdate) (s : State) (p : ParamId) : (countD u s).parN p = s.parN p := by
  rw [State.parN, State.par, countD_changes u s .params (by decide)]
  rfl

/-- The three ways of an update outside an episode. -/
theorem quietStep_onset {u : AngleUpdate} {s : State} (h : ¬ (countD u s).dgv.dCount < s.parN .onsetCount) :
    quietStep u s = onset u (countD u s) := if_pos (by rw [countD_parN]; exact Nat.not_lt.mp h)

theorem quietStep_steady {u : AngleUpdate} {s : State} (h : (countD u s).dgv.dCount < s.parN .onsetCount)
    (hstate : s.dgv.state = .steady) : quietStep u s = (countD u s, none) := by
  rw [quietStep, countD_parN, if_neg (Nat.not_le.mpr h), countD_changes_run, if_neg (by simp [hstate])]

theorem quietStep_recovery {u : AngleUpdate} {s : State} (h : (countD u s).dgv.dCount < s.parN .onsetCount)
    (hstate : s.dgv.state = .recovery) : quietStep u s = (recoveryStep (countD u s), none) := by
  rw [quietStep, countD_parN, if_neg (Nat.not_le.mpr h), countD_changes_run, if_pos hstate]

/-- An update in RECOVERY: the count advanced, and the end once it has run its length (R111). -/
theorem recoveryStep_short {s : State} {c : GoverningCopy} (hcopy : s.dgv.copy = some c)
    (h : s.dgv.recovery + 1 < c.resp.rampMs * 20) :
    recoveryStep s = s.withDgv { s.dgv with recovery := s.dgv.recovery + 1 } := by
  refine if_neg (Nat.not_le.mpr ?_)
  simp only [rampLength, State.withDgv_dgv, hcopy]
  exact h

theorem recoveryStep_done {s : State} {c : GoverningCopy} (hcopy : s.dgv.copy = some c)
    (h : c.resp.rampMs * 20 ≤ s.dgv.recovery + 1) :
    recoveryStep s = endRecovery (s.withDgv { s.dgv with recovery := s.dgv.recovery + 1 }) := by
  refine if_pos ?_
  simp only [rampLength, State.withDgv_dgv, hcopy]
  exact h

theorem countD_raised {src : Source} {u : AngleUpdate} {s t : State} (h : Raised src (countD u s) t) : Raised src s t := by
  rw [Raised, countD_changes u s .ntu (by decide), countD_changes u s .mfe (by decide)] at h
  exact h

theorem quietUpdate (s : State) (u : AngleUpdate) :
    let counted : State := { s with dgv := { s.dgv with
      dCount := s.dgv.dCount + 1, runExtremes := some (extremesWith s.dgv.runExtremes (ownExtremes s u)) } }
    let calm : State := { s with dgv := { s.dgv with dCount := 0, runExtremes := none } }
    let base := if disturbanceD s u = true then counted else calm
    let quiet : Prop := base.dgv.dCount < s.parN .onsetCount
    (s.running = false → governorStep u s = (s, none))
    ∧ (s.running = true → s.dgv.state ≠ .episode → ¬ quiet → governorStep u s = onset u base)
    ∧ (s.running = true → s.dgv.state = .steady → quiet → governorStep u s = (base, none))
    ∧ (∀ c, s.running = true → s.dgv.state = .recovery → s.dgv.copy = some c → quiet →
      let r := governorStep u s
      (s.dgv.recovery + 1 < c.resp.rampMs * 20 →
        r = ({ base with dgv := { base.dgv with recovery := s.dgv.recovery + 1 } }, none))
      ∧ (c.resp.rampMs * 20 ≤ s.dgv.recovery + 1 →
        r.2 = none ∧ r.1.dgv.state = .steady ∧ r.1.dgv.copy = none ∧ r.1.dgv.rideOut = false
        ∧ Raised .recoveryDone s r.1 ∧ r.1.limit = s.parN .iMax)) := by
  dsimp only
  rw [← countD_eq]
  have hrecovery : (countD u s).dgv.recovery = s.dgv.recovery := by rw [countD_changes_run]
  have hcopies : (countD u s).dgv.copy = s.dgv.copy := by rw [countD_changes_run]
  refine ⟨governorStep_stopped u, fun hrun hstate hloud => ?_, fun hrun hstate hquiet => ?_,
    fun c hrun hstate hcopy hquiet => ⟨fun hshort => ?short, fun hdone => ?done⟩⟩
  · rw [governorStep_quiet u hrun hstate, quietStep_onset hloud]
  · rw [governorStep_quiet u hrun (by rw [hstate]; decide), quietStep_steady hquiet hstate]
  case short =>
    rw [governorStep_quiet u hrun (by rw [hstate]; decide), quietStep_recovery hquiet hstate,
      recoveryStep_short (hcopies.trans hcopy) (by rwa [hrecovery]), hrecovery]
    rfl
  case done =>
    rw [governorStep_quiet u hrun (by rw [hstate]; decide), quietStep_recovery hquiet hstate,
      recoveryStep_done (hcopies.trans hcopy) (by rwa [hrecovery])]
    refine ⟨rfl, ?_, ?_, ?_, countD_raised (endRecovery_raised ((countD u s).withDgv _)), ?_⟩
    · rw [endRecovery_dgv]
    · rw [endRecovery_dgv]
    · rw [endRecovery_dgv]
    · rw [endRecovery_limit]
      exact countD_parN u s .iMax

/-! What the union does after an event in RUN or STOPPING: it is lifted or closed, and a close may halt the group (R87). -/

theorem settle_keeps_or_halts {s : State} (h : s.active = true) :
    (settle s).rct.state = .halt ∨ Changes [.fls, .crg, .ntu, .trc] s (settle s) := by
  have hk : Changes [.fls, .crg, .ntu, .trc] s (takeClose (takeUnblock s)).1 :=
    ((takeUnblock_changes s).mono (by simp)).trans ((takeClose_changes _).mono (by simp))
  unfold settle
  dsimp only
  cases hasked : (takeClose (takeUnblock s)).2 with
  | nil => exact .inr hk
  | cons k rest =>
    refine .inl ?_
    have hactive : (takeClose (takeUnblock s)).1.active = true := by
      rw [active_eq, hk .rct (by decide), ← active_eq]; exact h
    rw [askMisfires_cons, takeHalt_rct_active _ _ hactive]
    rfl

theorem askMisfires_source (l : List (Fin 24)) (s : State) {n : Fin 24} (hm : n ≠ Source.slotMisfire.num)
    (hf : n ≠ Source.traceFrozen.num) (hh : n ≠ Source.haltEntered.num) :
    (askMisfires l s).ntu.sources.get n = s.ntu.sources.get n := by
  cases l with
  | nil => rfl
  | cons k rest => rw [askMisfires_cons, takeHalt_source _ s hm hf hh]

theorem settle_source (s : State) {n : Fin 24} (hm : n ≠ Source.slotMisfire.num) (hf : n ≠ Source.traceFrozen.num)
    (hh : n ≠ Source.haltEntered.num) : (settle s).ntu.sources.get n = s.ntu.sources.get n := by
  unfold settle
  rw [askMisfires_source _ _ hm hf hh, LeavingRun.takeClose_source _ hm hf, takeUnblock_changes s .ntu (by decide)]

/-- What has occurred before the union is taken has occurred once it is. -/
theorem Raised.settle {src : Source} {s t : State} (h : Raised src s t) (hm : src ≠ .slotMisfire)
    (hf : src ≠ .traceFrozen) (hh : src ≠ .haltEntered) : Raised src s (settle t) := by
  rw [Raised, settle_source t (fun e => hm (Source.num_injective e)) (fun e => hf (Source.num_injective e))
    fun e => hh (Source.num_injective e)]
  exact h

theorem active_of_running {s : State} (h : s.running = true) : s.active = true := by
  rw [← Bool.not_eq_false]
  intro hidle
  rw [running_of_not_active s hidle] at h
  cases h

theorem running_iff (s : State) : s.running = true ↔ s.rct.state = .run ∨ s.rct.state = .stopping := by
  simp [State.running]

/-! An onset (R98 to R100). -/

/-- The repeat test's count: the onset's own record, and those within the window among the fifteen it joins (R99). -/
theorem recordsInWindow_recorded (u : AngleUpdate) (s : State) : recordsInWindow (recorded u s) u.set.count =
    ((s.dgv.history.take 15).countP fun r => decide ((u.set.count - r.start).toNat < s.parN .repeatWindow * 20))
      + if 0 < s.parN .repeatWindow then 1 else 0 := by
  have hown : elapsed u.set.count (onsetRecord u s).start = 0 := by simp [elapsed, onsetRecord]
  show (pushHistory s.dgv.history (onsetRecord u s)).countP
    (fun r => decide (elapsed u.set.count r.start < s.parN .repeatWindow * 20)) = _
  rw [pushHistory_eq, List.countP_cons, hown]
  congr 1
  have hpos : (0 < s.parN .repeatWindow * 20) ↔ 0 < s.parN .repeatWindow := by omega
  simp only [decide_eq_true_eq, hpos]

/-- The onset that the repeat test lets through, its copy taken. -/
def onsetTaken (u : AngleUpdate) (s : State) : State :=
  (searchAndTake (classify s u) (onsetBand u s) false (opened u s)).1

/-- The copy that an onset's search finds. -/
def onsetCopy (u : AngleUpdate) (s : State) : GoverningCopy := searchResult (classify s u) (onsetBand u s) s

theorem onset_opens {u : AngleUpdate} {s : State}
    (h : recordsInWindow (recorded u s) u.set.count ≤ s.parN .repeatMax) (htrip : (onsetCopy u s).resp.action ≠ .trip) :
    onset u s = (occur .episodeOnset (onsetTaken u s), none) := by
  rw [onset_eq, if_neg (Nat.not_lt.mpr h), searchAndTake_asks]
  exact congrArg (Prod.mk _) (if_neg htrip)

theorem onset_repeats {u : AngleUpdate} {s : State}
    (h : s.parN .repeatMax < recordsInWindow (recorded u s) u.set.count) : onset u s = tripRepeat (recorded u s) := by
  rw [onset_eq, if_pos h]

theorem onsetTaken_dgv (u : AngleUpdate) (s : State) :
    (onsetTaken u s).dgv = dgvUnder (onsetCopy u s) (opened u s).dgv := searchAndTake_dgv _ _ _ _

theorem onsetTaken_atr (u : AngleUpdate) (s : State) :
    (onsetTaken u s).atr = atrUnder (onsetCopy u s) false s.atr := searchAndTake_atr _ _ _ _

theorem onsetTaken_changes (u : AngleUpdate) (s : State) : Changes [.dgv, .atr, .rtb] s (onsetTaken u s) :=
  ((Changes.withDgv s (opened u s).dgv).mono (by simp)).trans (searchAndTake_changes _ _ _ _)

theorem onset_raised (u : AngleUpdate) (s : State) : Raised .episodeOnset s (occur .episodeOnset (onsetTaken u s)) := by
  have h := raised_occur (onsetTaken u s) (src := .episodeOnset) (by decide)
  have hk := onsetTaken_changes u s
  rw [Raised, hk .ntu (by decide), hk .mfe (by decide)] at h
  exact h

theorem exec_episodeOnset {s : State} {u : AngleUpdate} (hawake : s.asleep = false) (hlast : s.atr.last = some u)
    (hrun : s.running = true) (hstate : s.dgv.state ≠ .episode) (hcount : s.parN .onsetCount ≤ s.dgv.dCount) :
    exec .episodeOnset s = .next (settle (askHalt (onset u s).2 (onset u s).1)) := by
  have hdue : onsetDue u s = true := by simp [onsetDue, hstate, hcount]
  exact congrArg Host.Outcome.next ((whileAwake_of_awake hawake).trans (governorEvent_due hlast hrun hdue))

/-- The onset as the union leaves it, where its close has not halted the group. -/
theorem onset_opened {s : State} {u : AngleUpdate} (hawake : s.asleep = false)
    (hlast : s.atr.last = some u) (hrun : s.running = true) (hstate : s.dgv.state ≠ .episode)
    (hcount : s.parN .onsetCount ≤ s.dgv.dCount)
    (hrepeat : ((s.dgv.history.take 15).countP fun r =>
      decide ((u.set.count - r.start).toNat < s.parN .repeatWindow * 20)) + 1 ≤ s.parN .repeatMax)
    (htrip : (onsetCopy u s).resp.action ≠ .trip) :
    let k := classify s u
    let band := bandOf k (s.dgv.runExtremes.getD (extremesOf s u))
    let c := searchResult k band s
    ∃ t, exec .episodeOnset s = .next t ∧ (t.rct.state = .run ∨ t.rct.state = .stopping ∨ t.rct.state = .halt)
      ∧ Raised .episodeOnset s t
      ∧ (t.rct.state ≠ .halt →
          t.dgv.state = .episode ∧ t.dgv.kind = some k ∧ t.dgv.band = band ∧ t.dgv.copy = some c ∧ t.dgv.rideOut = true
          ∧ t.dgv.start = u.set.count ∧ t.dgv.dCount = 0 ∧ t.dgv.cCount = 0 ∧ t.dgv.expired = false
          ∧ t.dgv.nextNumber = s.dgv.nextNumber + 1
          ∧ (t.dgv.block = true ↔ c.resp.action = .block ∨ c.resp.mode = .reseat)
          ∧ (t.dgv.freeze = true ↔ c.resp.mode = .freeze)
          ∧ (t.atr.reseatRequest = true ↔ c.resp.mode = .reseat ∨ s.atr.reseatRequest = true)
          ∧ t.dgv.history =
              ⟨s.dgv.nextNumber, u.set.count, k, k, band, c.ix, false, t.dgv.block, .ongoing, none⟩
                :: s.dgv.history.take 15) := by
  have hwindow : recordsInWindow (recorded u s) u.set.count ≤ s.parN .repeatMax := by
    rw [recordsInWindow_recorded]
    split <;> omega
  have hk : Changes [.dgv, .atr, .rtb, .ntu, .trc] s (occur .episodeOnset (onsetTaken u s)) :=
    ((onsetTaken_changes u s).mono (by simp)).trans ((occur_changes _ _).mono (by simp))
  have hexec := exec_episodeOnset hawake hlast hrun hstate hcount
  rw [onset_opens hwindow htrip] at hexec
  have hactive : (occur .episodeOnset (onsetTaken u s)).active = true := by
    rw [active_eq, hk .rct (by decide), ← active_eq]; exact active_of_running hrun
  refine ⟨_, hexec, ?_, Raised.settle (onset_raised u s) (by decide) (by decide) (by decide), fun hnot => ?_⟩
  · obtain hhalt | hsame := settle_keeps_or_halts hactive
    · exact .inr (.inr hhalt)
    · have hr : (settle (occur .episodeOnset (onsetTaken u s))).rct = s.rct := (hsame .rct (by decide)).trans (hk .rct (by decide))
      have hrun' := (running_iff s).mp hrun
      rw [askHalt, hr]
      exact hrun'.imp_right .inl
  · have hsame := (settle_keeps_or_halts hactive).resolve_left hnot
    have hd : (settle (occur .episodeOnset (onsetTaken u s))).dgv = dgvUnder (onsetCopy u s) (opened u s).dgv := by
      rw [hsame .dgv (by decide), occur_dgv, onsetTaken_dgv]
    have ha : (settle (occur .episodeOnset (onsetTaken u s))).atr = atrUnder (onsetCopy u s) false s.atr := by
      rw [hsame .atr (by decide), occur_atr, onsetTaken_atr]
    rw [askHalt, hd, ha]
    refine ⟨rfl, rfl, rfl, rfl, rfl, rfl, rfl, rfl, rfl, rfl, ?_, ?_, ?_, ?_⟩
    · show (false || blocks (onsetCopy u s)) = true ↔ _
      rw [Bool.false_or]
      exact decide_eq_true_iff
    · exact beq_iff_eq
    · show (s.atr.reseatRequest || requests (onsetCopy u s) false) = true ↔ _
      simp only [requests, Bool.or_eq_true, Bool.not_false, Bool.and_true, beq_iff_eq]
      exact or_comm
    · rfl

/-- Settles O20: the conditions, the band, an update outside an episode, and the onset as a command of its own. -/
theorem onsetOpensEpisode : Obligations.OnsetOpensEpisode :=
  ⟨conditions, bands, quietUpdate, fun _ _ hawake _ hlast hrun hstate hcount hrepeat htrip =>
    onset_opened hawake hlast hrun hstate hcount hrepeat htrip⟩

/-! The repeat test (R99). -/

/-- The state that the repeat test leaves, before the halt it asks for. -/
def repeated (u : AngleUpdate) (s : State) : State := (tripRepeat (recorded u s)).1

theorem repeated_changes (u : AngleUpdate) (s : State) : Changes [.dgv, .ntu, .trc] s (repeated u s) :=
  ((Changes.withDgv s (recorded u s).dgv).mono (by simp)).trans (tripRepeat_changes (recorded u s))

/-- The onset's record, closed at once. -/
theorem repeated_history (u : AngleUpdate) (s : State) : (repeated u s).dgv.history =
    { onsetRecord u s with outcome := .tripped, entry := .none, duration := some 0 } :: s.dgv.history.take 15 := by
  rw [repeated, tripRepeat_dgv]
  rfl

/-- The governor is idle there, since block and freeze are present in EPISODE alone (R101). -/
theorem repeated_governorIdle (u : AngleUpdate) {s : State} (h : s.GovernorSound) (hstate : s.dgv.state ≠ .episode) :
    GovernorIdle (repeated u s) := by
  obtain ⟨hblock, hfreeze⟩ := Promises.GovernorSound.quiet h hstate
  rw [GovernorIdle, repeated, tripRepeat_dgv]
  exact ⟨rfl, rfl, rfl, hblock, hfreeze⟩

theorem repeated_eq (u : AngleUpdate) (s : State) : ∃ d e, repeated u s = (occur .episodeOnset (s.withDgv d)).withDgv e :=
  ⟨_, _, rfl⟩

theorem repeated_source (u : AngleUpdate) (s : State) :
    Raised .episodeOnset s (repeated u s) ∧ QuietBut [.episodeOnset, .traceFrozen] s (repeated u s) := by
  obtain ⟨d, e, h⟩ := repeated_eq u s
  rw [h]
  exact ⟨raised_occur (s.withDgv d) (by decide), quiet_occur .episodeOnset (s.withDgv d)⟩

/-- Settles O21: the onset's record, the halt that the test asks for, and the close after it. -/
theorem repeatTestHalts : Obligations.RepeatTestHalts := by
  intro s u hawake hs hsound hlast hrun hstate hcount hwindow hrepeat
  have htrips : s.parN .repeatMax < recordsInWindow (recorded u s) u.set.count := by
    rwa [recordsInWindow_recorded, if_pos hwindow]
  have hk := repeated_changes u s
  have hactive : (repeated u s).active = true := by
    rw [active_eq, hk .rct (by decide), ← active_eq]; exact active_of_running hrun
  obtain ⟨hraised, hquiet⟩ := repeated_source u s
  obtain ⟨hsteady, hcopy, hride, hblock, hfreeze⟩ := repeated_governorIdle u hsound hstate
  obtain ⟨hdgv, hrtb⟩ := halted_steady .repeated hactive hsteady
  have hrct := halted_rct .repeated hactive
  have hhistory : (halted .repeated (repeated u s)).dgv.history = (repeated u s).dgv.history := by rw [hdgv]; rfl
  refine ⟨halted .repeated (repeated u s), tripRecordOf .repeated (repeated u s), ?_, by rw [hrct]; rfl, by rw [hrct], rfl,
    ?_, halted_shut _ (noneHeld_of_fls hs.2 (hk .fls (by decide))), ?_, ?_, ?_, _, _, hhistory.trans (repeated_history u s),
    rfl, rfl, rfl, rfl, rfl, rfl⟩
  · rw [exec_episodeOnset hawake hlast hrun hstate hcount, onset_repeats htrips]
    rfl
  · rw [GovernorIdle, hdgv]
    exact ⟨hsteady, hcopy, hride, hblock, hfreeze⟩
  · rw [Raised, halted_source _ _ (by decide) (by decide) (by decide)]
    exact hraised
  · have h := halted_raised .repeated hactive
    rw [Raised, hquiet .haltEntered (by decide), hk .mfe (by decide)] at h
    exact h
  · rw [hrtb, hk .rtb (by decide)]

end Sys2Proof.Onsets
end

section
/-!
An update in EPISODE: escalation, expiry, length, clear (R104 to R109), and the three events that stand for them as commands
of their own (log 1). The file settles O22 and O23.
-/

namespace Sys2Proof.Episodes

open Sys2Proof.Machine Sys2Proof.Claims Sys2Proof.Governing Sys2Proof.Halting Sys2Proof.Resetting Sys2Proof.Occurrences
  Sys2Proof.Onsets

/-! The extremes and the escalation (R104, R105). -/

theorem episodeStep_eq (s : State) (u : AngleUpdate) (hrun : s.running = true) (hstate : s.dgv.state = .episode) :
    let r := escalate u { s with dgv := { s.dgv with
      extremes := some (extremesWith s.dgv.extremes (ownExtremes s u)) } }
    governorStep u s = if r.2.isSome = true then r else judgeEpisode u r.1 := by
  have hwiden : widen s.dgv.extremes (extremesOf s u) = extremesWith s.dgv.extremes (ownExtremes s u) := by
    cases s.dgv.extremes <;> rfl
  rw [governorStep_episode u hrun hstate, episodeStep, hwiden]
  rfl

/-- The copy that an escalation's search finds. -/
def risenCopy (u : AngleUpdate) (s : State) : GoverningCopy := searchResult (seenKind u s) (seenBand u s) s

/-- The escalation's copy taken, its notice still to come. -/
def escalated (u : AngleUpdate) (s : State) : State :=
  (searchAndTake (seenKind u s) (seenBand u s) (copyReseats (risen u s)) (risen u s)).1

theorem escalated_changes (u : AngleUpdate) (s : State) : Changes [.dgv, .atr, .rtb] s (escalated u s) :=
  ((Changes.withDgv s (risen u s).dgv).mono (by simp)).trans (searchAndTake_changes _ _ _ _)

theorem escalated_dgv (u : AngleUpdate) (s : State) : (escalated u s).dgv = dgvUnder (risenCopy u s) (risen u s).dgv :=
  searchAndTake_dgv _ _ _ _

theorem escalated_atr (u : AngleUpdate) (s : State) :
    (escalated u s).atr = atrUnder (risenCopy u s) (copyReseats s) s.atr := searchAndTake_atr _ _ _ _

theorem escalated_rtb (u : AngleUpdate) (s : State) :
    (escalated u s).rtb = (markEntry (risenCopy u s).ix (fun m => { m with used := true }) s).rtb := by
  rw [escalated, searchAndTake_eq, takeCopy_eq, State.withAtr_rtb, State.withDgv_rtb]
  show (markEntry (risenCopy u s).ix _ (risen u s)).rtb = _
  cases (risenCopy u s).ix <;> rfl

theorem escalate_eq {u : AngleUpdate} {s : State} (h : Rises u s) : escalate u s =
    (occur .episodeEscalate (escalated u s),
      if (risenCopy u s).resp.action = .trip then some (.response (risenCopy u s).ix) else none) := by
  rw [escalate_rises h, searchAndTake_asks]
  rfl

/-- A mark is set of the entry that an index names, and of no other. -/
theorem markEntry_marks (i : Fin 32) (f : Marks → Marks) (s : State) (j : Fin 32) :
    (markEntry (.entry i) f s).rtb.marks.get j = if j = i then f (s.rtb.marks.get j) else s.rtb.marks.get j := by
  show (s.rtb.marks.modify i f).get j = _
  rw [Tab.modify, Tab.get_set]
  by_cases h : i = j
  · rw [if_pos h, if_pos h.symm, h]
  · rw [if_neg h, if_neg (Ne.symm h)]

theorem copyReseats_iff (s : State) : copyReseats s = true ↔ s.dgv.copy.map (·.resp.mode) = some .reseat := by
  unfold copyReseats
  cases s.dgv.copy <;> simp

/-- What rises of a record under an escalation. -/
theorem escalated_history {u : AngleUpdate} {s : State} {rec0 : HistoryRecord} {rest : List HistoryRecord}
    (hhistory : s.dgv.history = rec0 :: rest) (hopen : rec0.outcome = .ongoing) : (escalated u s).dgv.history =
      { rec0 with kind := seenKind u s, band := seenBand u s, entry := (risenCopy u s).ix
                  blocked := rec0.blocked || blocks (risenCopy u s) } :: rest := by
  rw [escalated_dgv]
  show changeNewest (governed (risenCopy u s)) (risen u s).dgv.history = _
  rw [risen, changeOngoing_dgv, State.withDgv_dgv]
  simp [hhistory, changeNewest, governed, hopen]

/-- What the governor's operations with a notice change. -/
theorem frame_of_governed {s t : State} (h : Changes [.dgv, .atr, .rtb, .ntu, .trc] s t) :
    t = { s with dgv := t.dgv, atr := t.atr, rtb := t.rtb, ntu := t.ntu, trc := t.trc } :=
  state_ext fun f => by have hf := h f; cases f <;> first | rfl | exact hf (by simp)

theorem escalation (s : State) (u : AngleUpdate) (old : Kind) (x : Extremes) (hkind : s.dgv.kind = some old)
    (hextremes : s.dgv.extremes = some x) :
    let seen := classify s u
    let k := if disturbanceD s u = true ∧ seen.rank < old.rank then seen else old
    let band := max s.dgv.band (bandOf k x)
    let c := searchResult k band s
    let r := escalate u s
    let t := r.1
    let shuts := decide (c.resp.action = .block ∨ c.resp.mode = .reseat)
    (k = old → band = s.dgv.band → r = (s, none))
    ∧ ((k ≠ old ∨ s.dgv.band < band) →
      Raised .episodeEscalate s t ∧ QuietBut [.episodeEscalate, .traceFrozen] s t
      ∧ r.2 = (if c.resp.action = .trip then some (.response c.ix) else none)
      ∧ t.dgv = { s.dgv with
          kind := some k, band := band, copy := some c, freeze := decide (c.resp.mode = .freeze)
          block := s.dgv.block || shuts, history := t.dgv.history }
      ∧ t.atr = { s.atr with reseatRequest :=
          (s.atr.reseatRequest || decide (c.resp.mode = .reseat ∧ s.dgv.copy.map (·.resp.mode) ≠ some .reseat)) }
      ∧ (∀ rec0 rest, s.dgv.history = rec0 :: rest → rec0.outcome = .ongoing →
          t.dgv.history =
            { rec0 with kind := k, band := band, entry := c.ix, blocked := rec0.blocked || shuts } :: rest)
      ∧ (∀ i, c.ix = .entry i → ∀ j, t.rtb.marks.get j =
          if j = i then { s.rtb.marks.get j with used := true } else s.rtb.marks.get j)
      ∧ (c.ix = .dflt → t.rtb = s.rtb) ∧ t.rtb.entries = s.rtb.entries
      ∧ t = { s with dgv := t.dgv, atr := t.atr, rtb := t.rtb, ntu := t.ntu, trc := t.trc }) := by
  have hseen : seenKind u s = if disturbanceD s u = true ∧ (classify s u).rank < old.rank then classify s u else old := by
    rw [seenKind, hkind]; rfl
  have hband : seenBand u s = max s.dgv.band (bandOf (seenKind u s) x) := by rw [seenBand, hextremes]; rfl
  dsimp only
  rw [← hseen, ← hband]
  have hrises : Rises u s ↔ seenKind u s ≠ old ∨ s.dgv.band < seenBand u s := by rw [Rises, hkind]; rfl
  refine ⟨fun hsame hlevel => escalate_holds fun h => ?_, fun hup => ?_⟩
  · obtain hk | hb := hrises.mp h
    · exact hk hsame
    · omega
  rw [escalate_eq (hrises.mpr hup)]
  have hk := escalated_changes u s
  have hraised := raised_occur (escalated u s) (src := .episodeEscalate) (by decide)
  have hquiet := quiet_occur .episodeEscalate (escalated u s)
  rw [Raised, hk .ntu (by decide), hk .mfe (by decide)] at hraised
  rw [QuietBut, hk .ntu (by decide)] at hquiet
  have hrtb : (occur .episodeEscalate (escalated u s)).rtb = (markEntry (risenCopy u s).ix _ s).rtb :=
    (occur_rtb _ _).trans (escalated_rtb u s)
  refine ⟨hraised, hquiet, rfl, ?_, ?_, fun rec0 rest hhistory hopen => ?_, fun i hix j => ?_, fun hix => ?_, ?_,
    frame_of_governed ((hk.mono (by simp)).trans ((occur_changes _ _).mono (by simp)))⟩
  · rw [occur_dgv, escalated_dgv]
    rfl
  · rw [occur_atr, escalated_atr, atrUnder]
    congr 2
    rw [Bool.eq_iff_iff, decide_eq_true_iff, ne_eq, ← copyReseats_iff]
    simp [requests, risenCopy]
  · rw [occur_dgv, escalated_history hhistory hopen]
    rfl
  · rw [hrtb, show (risenCopy u s).ix = .entry i from hix]
    exact markEntry_marks i _ s j
  · rw [hrtb, show (risenCopy u s).ix = .dflt from hix]
    rfl
  · rw [hrtb]
    cases (risenCopy u s).ix <;> rfl

/-! Expiry, length and clear (R106 to R109). -/

theorem holdDue_iff {u : AngleUpdate} {s : State} {c : GoverningCopy} (hcopy : s.dgv.copy = some c) :
    holdDue u s = true ↔ s.dgv.expired = false ∧ c.resp.holdMs * 20 ≤ (u.set.count - s.dgv.start).toNat := by
  unfold holdDue
  rw [hcopy]
  simp only [Bool.and_eq_true, Bool.not_eq_true', decide_eq_true_eq]
  exact Iff.rfl

/-- Steps 4 and 5, once the expiry has acted or is not due. -/
def judgeLength (u : AngleUpdate) (s : State) : State × Option HaltCause :=
  if tooLong u s then (s, some .episodeLong)
  else if (countC u s).parN .clearCount ≤ (countC u s).dgv.cCount then takeClear u (countC u s) else (countC u s, none)

theorem judgeEpisode_not_due {u : AngleUpdate} {s : State} (h : ¬ holdDue u s = true) :
    judgeEpisode u s = judgeLength u s := by
  simp only [judgeEpisode, if_neg h]
  rfl

theorem judgeEpisode_asks {u : AngleUpdate} {s t : State} {c : HaltCause} (h : holdDue u s = true)
    (he : expire s = (t, some c)) : judgeEpisode u s = (t, some c) := by
  simp only [judgeEpisode, if_pos h, he]
  rfl

theorem judgeEpisode_quiet {u : AngleUpdate} {s t : State} (h : holdDue u s = true) (he : expire s = (t, none)) :
    judgeEpisode u s = judgeLength u t := by
  simp only [judgeEpisode, if_pos h, he]
  rfl

theorem tooLong_iff (u : AngleUpdate) (s : State) :
    tooLong u s = true ↔ s.parN .episodeMax * 20 ≤ (u.set.count - s.dgv.start).toNat := decide_eq_true_iff

theorem judgeLength_long {u : AngleUpdate} {s : State}
    (h : s.parN .episodeMax * 20 ≤ (u.set.count - s.dgv.start).toNat) : judgeLength u s = (s, some .episodeLong) :=
  if_pos ((tooLong_iff u s).mpr h)

theorem judgeLength_counts {u : AngleUpdate} {s : State}
    (h : (u.set.count - s.dgv.start).toNat < s.parN .episodeMax * 20) :
    let n := if clearC s u = true then s.dgv.cCount + 1 else 0
    let t : State := { s with dgv := { s.dgv with cCount := n } }
    (n < s.parN .clearCount → judgeLength u s = (t, none)) ∧ (s.parN .clearCount ≤ n → judgeLength u s = takeClear u t) := by
  have hshort : judgeLength u s =
      if (countC u s).parN .clearCount ≤ (countC u s).dgv.cCount then takeClear u (countC u s) else (countC u s, none) :=
    if_neg fun hl => absurd ((tooLong_iff u s).mp hl) (Nat.not_le.mpr h)
  rw [hshort]
  exact ⟨fun hfew => if_neg (Nat.not_le.mpr hfew), fun hmany => if_pos hmany⟩

/-- The expiry of a copy whose on_expiry is BLOCK. -/
def expiredBlocked (s : State) : State := occur .episodeExpired (raiseBlock (holdExpired s))

theorem frame_of_expired {s t : State} (h : Changes [.dgv, .ntu, .trc] s t) :
    t = { s with dgv := t.dgv, ntu := t.ntu, trc := t.trc } :=
  state_ext fun f => by have hf := h f; cases f <;> first | rfl | exact hf (by simp)

theorem expiredBlocked_changes (s : State) : Changes [.dgv, .ntu, .trc] s (expiredBlocked s) :=
  ((Changes.withDgv s (raiseBlock (holdExpired s)).dgv).mono (by simp)).trans ((occur_changes _ _).mono (by simp))

theorem expiredBlocked_dgv (s : State) : (expiredBlocked s).dgv =
    { s.dgv with expired := true, block := true, history := (expiredBlocked s).dgv.history } := by
  rw [expiredBlocked, occur_dgv]
  rfl

theorem expiredBlocked_history {s : State} {rec0 : HistoryRecord} {rest : List HistoryRecord}
    (hhistory : s.dgv.history = rec0 :: rest) (hopen : rec0.outcome = .ongoing) :
    (expiredBlocked s).dgv.history = { rec0 with expired := true, blocked := true } :: rest := by
  rw [expiredBlocked, occur_dgv, raiseBlock, changeOngoing_dgv, State.withDgv_dgv, holdExpired, changeOngoing_dgv,
    State.withDgv_dgv]
  simp [hhistory, changeNewest, hopen]

theorem expiredBlocked_raised (s : State) : Raised .episodeExpired s (expiredBlocked s) :=
  raised_occur (raiseBlock (holdExpired s)) (by decide)

theorem expiry (s : State) (u : AngleUpdate) (c : GoverningCopy) (hcopy : s.dgv.copy = some c) :
    let elapsed := (u.set.count - s.dgv.start).toNat
    let due : Prop := s.dgv.expired = false ∧ c.resp.holdMs * 20 ≤ elapsed
    let r := judgeEpisode u s
    (due → c.resp.onExpiry = .trip → r.2 = some (.expiry c.ix) ∧ r.1.dgv.expired = true ∧ r.1.ntu = s.ntu
        ∧ r.1.dgv.cCount = s.dgv.cCount)
    ∧ (due → c.resp.onExpiry = .block → ∃ t, r = judgeEpisode u t ∧ Raised .episodeExpired s t
        ∧ t = { s with dgv := { s.dgv with expired := true, block := true, history := t.dgv.history }
                       ntu := t.ntu, trc := t.trc }
        ∧ ∀ rec0 rest, s.dgv.history = rec0 :: rest → rec0.outcome = .ongoing →
            t.dgv.history = { rec0 with expired := true, blocked := true } :: rest)
    ∧ (¬ due → s.parN .episodeMax * 20 ≤ elapsed → r = (s, some .episodeLong))
    ∧ (¬ due → elapsed < s.parN .episodeMax * 20 →
        let n := if clearC s u = true then s.dgv.cCount + 1 else 0
        let t : State := { s with dgv := { s.dgv with cCount := n } }
        (n < s.parN .clearCount → r = (t, none)) ∧ (s.parN .clearCount ≤ n → r = takeClear u t)) := by
  have hdue := holdDue_iff (u := u) hcopy
  dsimp only
  rw [← hdue]
  refine ⟨fun h htrip => ?_, fun h hblock => ⟨expiredBlocked s, ?_, expiredBlocked_raised s, ?_, fun _ _ => expiredBlocked_history⟩,
    fun h hlong => ?_, fun h hshort => ?_⟩
  · rw [judgeEpisode_asks h (expire_trip hcopy htrip)]
    exact ⟨rfl, rfl, rfl, rfl⟩
  · rw [judgeEpisode_quiet h (expire_block hcopy hblock)]
    refine (judgeEpisode_not_due fun hagain => ?_).symm
    have hcopies : (expiredBlocked s).dgv.copy = some c := by rw [expiredBlocked_dgv]; exact hcopy
    obtain ⟨hexpired, -⟩ := (holdDue_iff hcopies).mp hagain
    rw [expiredBlocked_dgv] at hexpired
    cases hexpired
  · rw [← expiredBlocked_dgv]
    exact frame_of_expired (expiredBlocked_changes s)
  · rw [judgeEpisode_not_due h, judgeLength_long hlong]
  · rw [judgeEpisode_not_due h]
    exact judgeLength_counts hshort

/-! HOLD_EXPIRY and EPISODE_LONG as commands of their own. -/

theorem union_of_block {s : State} (h : s.dgv.block = true) : s.union = true := by
  simp [State.union, h]

/-- A union that is present, taken: the list is shut (R89, R90). -/
theorem settle_shut_of_union {s : State} (hu : s.union = true) (hs : s.NoneHeld) : Shut (settle s) := by
  obtain ⟨hlist, hblocked⟩ := takeClose_empties s hu hs
  have hfls : (settle s).fls = (takeClose s).1.fls := by
    rw [settle, takeUnblock_risen s hu]
    exact askMisfires_fls _ _ hblocked
  refine ⟨by rw [hfls, hblocked], by rw [hfls, hlist], gateOn_empty _ (by rw [hfls, hlist])⟩

theorem exec_holdExpiry {s : State} {u : AngleUpdate} {c : GoverningCopy} (hawake : s.asleep = false)
    (hlast : s.atr.last = some u) (hrun : s.running = true) (hstate : s.dgv.state = .episode)
    (hcopy : s.dgv.copy = some c) (hexpired : s.dgv.expired = false)
    (hlong : c.resp.holdMs * 20 ≤ (u.set.count - s.dgv.start).toNat) :
    exec .holdExpiry s = .next (settle (askHalt (expire s).2 (expire s).1)) := by
  have hdue : expiryDue u s = true := by
    rw [expiryDue, hstate, (holdDue_iff hcopy).mpr ⟨hexpired, hlong⟩]
    rfl
  exact congrArg Host.Outcome.next ((whileAwake_of_awake hawake).trans (governorEvent_due hlast hrun hdue))

theorem holdExpiry_acts (s : State) (u : AngleUpdate) (c : GoverningCopy) (hawake : s.asleep = false) (hs : s.ListSettled)
    (hlast : s.atr.last = some u) (hrun : s.running = true) (hstate : s.dgv.state = .episode)
    (hcopy : s.dgv.copy = some c) (hexpired : s.dgv.expired = false)
    (hlong : c.resp.holdMs * 20 ≤ (u.set.count - s.dgv.start).toNat) :
    (c.resp.onExpiry = .trip → ∃ t r, exec .holdExpiry s = .next t ∧ t.rct.state = .halt ∧ t.rct.trip = some r
      ∧ r.cause = .expiry c.ix ∧ GovernorIdle t ∧ Shut t)
    ∧ (c.resp.onExpiry = .block → ∃ t, exec .holdExpiry s = .next t ∧ Raised .episodeExpired s t ∧ Shut t
      ∧ (t.rct.state ≠ .halt → t.dgv.state = .episode ∧ t.dgv.expired = true ∧ t.dgv.block = true)) := by
  rw [exec_holdExpiry hawake hlast hrun hstate hcopy hexpired hlong]
  refine ⟨fun htrip => ?trips, fun hblock => ?blocks⟩
  case trips =>
    rw [expire_trip hcopy htrip]
    have hactive : (holdExpired s).active = true := active_of_running hrun
    have hrct := halted_rct (.expiry c.ix) hactive
    have hepisode : (holdExpired s).dgv.state ≠ .steady := by rw [show (holdExpired s).dgv.state = _ from hstate]; decide
    exact ⟨halted (.expiry c.ix) (holdExpired s), tripRecordOf (.expiry c.ix) (holdExpired s), rfl, by rw [hrct]; rfl,
      by rw [hrct], rfl, halted_governorIdle _ hactive hepisode, halted_shut _ hs.2⟩
  case blocks =>
    rw [expire_block hcopy hblock]
    have hk := expiredBlocked_changes s
    have hd := expiredBlocked_dgv s
    have hunion : (expiredBlocked s).union = true := union_of_block (by rw [hd])
    have hactive : (expiredBlocked s).active = true := by
      rw [active_eq, hk .rct (by decide), ← active_eq]; exact active_of_running hrun
    refine ⟨settle (expiredBlocked s), rfl, Raised.settle (expiredBlocked_raised s) (by decide) (by decide) (by decide),
      settle_shut_of_union hunion (noneHeld_of_fls hs.2 (hk .fls (by decide))), fun hnot => ?_⟩
    rw [(settle_keeps_or_halts hactive).resolve_left hnot .dgv (by decide), hd]
    exact ⟨hstate, rfl, rfl⟩

theorem exec_episodeLong {s : State} {u : AngleUpdate} (hawake : s.asleep = false) (hlast : s.atr.last = some u)
    (hrun : s.running = true) (hstate : s.dgv.state = .episode)
    (hlong : s.parN .episodeMax * 20 ≤ (u.set.count - s.dgv.start).toNat) :
    exec .episodeLong s = .next (halted .episodeLong s) := by
  have hdue : longDue u s = true := by
    rw [longDue, hstate, (tooLong_iff u s).mpr hlong]
    rfl
  exact congrArg Host.Outcome.next ((whileAwake_of_awake hawake).trans (governorEvent_due hlast hrun hdue))

/-- A halt of the governor closes the open record as TRIPPED (R113). -/
theorem halted_record {c : HaltCause} {s : State} (hactive : s.active = true) (hc : tripsEpisode c = true)
    (hstate : s.dgv.state = .episode) {rec0 : HistoryRecord} {rest : List HistoryRecord}
    (hhistory : s.dgv.history = rec0 :: rest) (hopen : rec0.outcome = .ongoing) :
    (halted c s).dgv.history = closeRecord .tripped s.mfe.count rec0 :: rest := by
  have hk := haltEnding_changes c s
  have hd : (haltEnding c s).dgv = s.dgv := hk .dgv (by decide)
  have htripped : endsTripped (haltEnding c s) = true := by
    rw [endsTripped, haltEnding_rct]
    exact hc
  rw [halted_dgv c hactive, endEpisode_record (by rwa [hd]) (by rwa [hd]) hopen, if_pos htripped, hk .mfe (by decide)]

/-- Settles O22: an update's steps in their order, then the two limits as commands of their own. -/
theorem episodeLimitsAct : Obligations.EpisodeLimitsAct := by
  refine ⟨episodeStep_eq, escalation, expiry, holdExpiry_acts, fun s u hawake hs hlast hrun hstate hlong => ?_⟩
  have hactive := active_of_running hrun
  have hrct := halted_rct .episodeLong hactive
  exact ⟨halted .episodeLong s, tripRecordOf .episodeLong s, exec_episodeLong hawake hlast hrun hstate hlong,
    by rw [hrct]; rfl, by rw [hrct], rfl, rfl, rfl, halted_governorIdle _ hactive (by rw [hstate]; decide),
    halted_shut _ hs.2, halted_raised _ hactive, fun _ _ => halted_record hactive rfl hstate⟩

/-! The clear (R109). -/

theorem clearEpisode_dgv (u : AngleUpdate) (s : State) : (clearEpisode u s).dgv = { s.dgv with
    state := .recovery, recovery := 0, freeze := false, block := false, cCount := 0, extremes := none
    history := (clearEpisode u s).dgv.history } := by
  rw [clearEpisode_eq, occur_dgv, State.withDgv_dgv, ridden_dgv]
  rfl

theorem clearEpisode_atr (u : AngleUpdate) (s : State) :
    (clearEpisode u s).atr = { s.atr with reseatRequest := false } := by
  rw [clearEpisode_eq, occur_atr, State.withDgv_atr, ridden, State.withAtr_atr]
  cases copyIx s <;> rfl

theorem clearEpisode_history {u : AngleUpdate} {s : State} {rec0 : HistoryRecord} {rest : List HistoryRecord}
    (hhistory : s.dgv.history = rec0 :: rest) (hopen : rec0.outcome = .ongoing) :
    (clearEpisode u s).dgv.history = closeRecord .rode u.set.count rec0 :: rest := by
  rw [clearEpisode_eq, occur_dgv, State.withDgv_dgv, recovering, ridden_dgv, changeOngoing_dgv]
  simp [hhistory, changeNewest, hopen]

theorem clearEpisode_marks {u : AngleUpdate} {s : State} {i : Fin 32} (hcopy : s.dgv.copy.map (·.ix) = some (.entry i))
    (j : Fin 32) : (clearEpisode u s).rtb.marks.get j =
      if j = i then { s.rtb.marks.get j with rode := true } else s.rtb.marks.get j := by
  have hix : copyIx s = .entry i := by
    unfold copyIx
    cases hc : s.dgv.copy with
    | none => rw [hc] at hcopy; cases hcopy
    | some c => rw [hc] at hcopy; exact Option.some.inj hcopy
  rw [clearEpisode_eq, occur_rtb, State.withDgv_rtb, ridden, hix]
  exact markEntry_marks i _ (changeOngoing (closeRecord .rode u.set.count) s) j

/-- The clear occurs as its own notice. -/
theorem clearEpisode_source (u : AngleUpdate) (s : State) : Raised .episodeClear s (clearEpisode u s)
    ∧ QuietBut [.episodeClear, .traceFrozen] s (clearEpisode u s) := by
  have hk : Changes [.dgv, .rtb, .atr] s (ridden u s) :=
    (((changeOngoing_changes _ s).mono (by simp)).trans ((markEntry_changes _ _ _).mono (by simp))).trans
      ((Changes.withAtr _ _).mono (by simp))
  have hraised := raised_occur ((ridden u s).withDgv (recovering (ridden u s).dgv)) (src := .episodeClear) (by decide)
  have hquiet := quiet_occur .episodeClear ((ridden u s).withDgv (recovering (ridden u s).dgv))
  rw [← clearEpisode_eq] at hraised hquiet
  rw [Raised, State.withDgv_ntu, State.withDgv_mfe, hk .ntu (by decide), hk .mfe (by decide)] at hraised
  rw [QuietBut, State.withDgv_ntu, hk .ntu (by decide)] at hquiet
  exact ⟨hraised, hquiet⟩

theorem clearEpisode_fls (u : AngleUpdate) (s : State) : (clearEpisode u s).fls = s.fls :=
  clearEpisode_changes u s .fls (by decide)

/-- A clear lifts the episode block and raises no reason: what the list takes of it is an unblock at most (R88). -/
theorem settle_clearEpisode (u : AngleUpdate) {s : State} (hs : s.ListSettled) :
    settle (clearEpisode u s) = takeUnblock (clearEpisode u s)
    ∧ (settle (clearEpisode u s)).fls = { s.fls with blocked := (clearEpisode u s).union } := by
  obtain ⟨hblocked, hlist⟩ := hs
  have hfls := clearEpisode_fls u s
  cases hb : s.fls.blocked with
  | true =>
    obtain ⟨hset, hlisted⟩ := settle_of_shut (s := clearEpisode u s) (by rw [hfls, hb])
    exact ⟨hset, by rw [hlisted, hfls]⟩
  | false =>
    have hk := clearEpisode_changes u s
    have hu : (clearEpisode u s).union = false := by
      have hnone : s.union = false := hblocked.symm.trans hb
      simp only [State.union, Bool.or_eq_false_iff] at hnone
      obtain ⟨⟨⟨⟨hrun, htrip⟩, htrack⟩, -⟩, hsync⟩ := hnone
      have hr : (clearEpisode u s).rct = s.rct := hk .rct (by decide)
      simp only [State.union, Bool.or_eq_false_iff]
      refine ⟨⟨⟨⟨?_, by rw [hr, htrip]⟩, ?_⟩, by rw [clearEpisode_dgv]⟩, by rw [hk .ssq (by decide), hsync]⟩
      · rw [State.runReason, State.running, hr]; exact hrun
      · rw [State.trackerReason, clearEpisode_atr]; exact htrack
    have hsettled : (clearEpisode u s).ListSettled := by
      rw [State.ListSettled, hfls, hu, hb]
      exact ⟨rfl, fun h => by cases h⟩
    rw [settle_of_settled _ hsettled, takeUnblock_settled _ hsettled.1, hfls, hu]
    exact ⟨rfl, by rw [← hb]⟩

/-- What a clear, and the unblock that it may be, change. -/
theorem frame_of_cleared {s t : State} (h : Changes [.dgv, .atr, .rtb, .ntu, .trc, .fls, .crg] s t)
    (hatr : t.atr = { s.atr with reseatRequest := false }) :
    t = { s with dgv := t.dgv, atr := { s.atr with reseatRequest := false }, rtb := t.rtb, ntu := t.ntu, trc := t.trc
                 fls := t.fls, crg := t.crg } :=
  state_ext fun f => by have hf := h f; cases f <;> first | rfl | exact hf (by simp) | exact hatr

theorem exec_episodeClear {s : State} {u : AngleUpdate} (hawake : s.asleep = false) (hlast : s.atr.last = some u)
    (hrun : s.running = true) (hstate : s.dgv.state = .episode) (hcount : s.parN .clearCount ≤ s.dgv.cCount) :
    exec .episodeClear s = .next (settle (clearEpisode u s)) := by
  have hdue : clearDue u s = true := by
    rw [clearDue, hstate, decide_eq_true hcount]
    rfl
  exact congrArg Host.Outcome.next ((whileAwake_of_awake hawake).trans (governorEvent_due hlast hrun hdue))

theorem episodeClear_recovers (s : State) (u : AngleUpdate) (hawake : s.asleep = false) (hs : s.ListSettled)
    (hlast : s.atr.last = some u) (hrun : s.running = true) (hstate : s.dgv.state = .episode)
    (hcount : s.parN .clearCount ≤ s.dgv.cCount) :
    ∃ t, exec .episodeClear s = .next t ∧ Raised .episodeClear s t ∧ QuietBut [.episodeClear, .traceFrozen] s t
      ∧ t = { s with dgv := t.dgv, atr := { s.atr with reseatRequest := false }, rtb := t.rtb, ntu := t.ntu, trc := t.trc
                     fls := t.fls, crg := t.crg }
      ∧ t.dgv = { s.dgv with
          state := .recovery, recovery := 0, freeze := false, block := false, cCount := 0, extremes := none
          history := t.dgv.history }
      ∧ t.fls = { s.fls with blocked := t.union }
      ∧ (∀ i, s.dgv.copy.map (·.ix) = some (.entry i) →
          ∀ j, t.rtb.marks.get j =
            if j = i then { s.rtb.marks.get j with rode := true } else s.rtb.marks.get j)
      ∧ (∀ rec0 rest, s.dgv.history = rec0 :: rest → rec0.outcome = .ongoing →
          t.dgv.history = { rec0 with outcome := .rode, duration := some (u.set.count - rec0.start) } :: rest) := by
  obtain ⟨hset, hfls⟩ := settle_clearEpisode u hs
  obtain ⟨hraised, hquiet⟩ := clearEpisode_source u s
  have hk := takeUnblock_changes (clearEpisode u s)
  have hall : Changes [.dgv, .atr, .rtb, .ntu, .trc, .fls, .crg] s (takeUnblock (clearEpisode u s)) :=
    ((clearEpisode_changes u s).mono (by simp)).trans (hk.mono (by simp))
  have hd : (takeUnblock (clearEpisode u s)).dgv = (clearEpisode u s).dgv := hk .dgv (by decide)
  have hn : (takeUnblock (clearEpisode u s)).ntu = (clearEpisode u s).ntu := hk .ntu (by decide)
  have hr : (takeUnblock (clearEpisode u s)).rtb = (clearEpisode u s).rtb := hk .rtb (by decide)
  have ha : (takeUnblock (clearEpisode u s)).atr = { s.atr with reseatRequest := false } :=
    (hk .atr (by decide)).trans (clearEpisode_atr u s)
  rw [exec_episodeClear hawake hlast hrun hstate hcount, hset]
  refine ⟨_, rfl, by rw [Raised, hn]; exact hraised, by rw [QuietBut, hn]; exact hquiet, frame_of_cleared hall ha,
    by rw [hd]; exact clearEpisode_dgv u s, by rw [← hset, hfls, hset, takeUnblock_union],
    fun i hcopy j => by rw [hr]; exact clearEpisode_marks hcopy j,
    fun rec0 rest hhistory hopen => by rw [hd]; exact clearEpisode_history hhistory hopen⟩

/-- An unblock in RECOVERY starts every bridge at the copy's restart_alpha (R66). -/
theorem unblocked_in_recovery {s : State} {c : GoverningCopy} (hstate : s.dgv.state = .recovery)
    (hcopy : s.dgv.copy = some c) (hu : s.union = false) (hblocked : s.fls.blocked = true) (b : Fin 4) :
    (takeUnblock s).fls = { s.fls with blocked := false }
    ∧ (takeUnblock s).crg.bridges.get b = { s.crg.bridges.get b with
        presetPending := true, startValue := some c.resp.restartAlpha } := by
  have hstart : unblockStart (s.withFls { s.fls with blocked := false }) = c.resp.restartAlpha := by
    simp [unblockStart, hstate, hcopy]
  rw [takeUnblock_lifted s hu hblocked, recordPresets, hstart]
  exact ⟨rfl, Tab.get_map _ _ _⟩

theorem takeClear_closes (s : State) (u : AngleUpdate) :
    let r := takeClear u s
    ((s.union = false ∨ s.fls.blocked = true) → r = (clearEpisode u s, none))
    ∧ (s.union = true → s.fls.blocked = false → r.1.fls.list = [] ∧ r.1.fls.blocked = true
        ∧ r.1.fls.seq = s.fls.seq + BitVec.ofNat 16 s.fls.list.length ∧ r.1.dgv.state = .recovery
        ∧ (∀ c, s.dgv.copy = some c → r.1.union = false →
            let t := takeUnblock r.1
            t.fls.list = [] ∧ t.fls.blocked = false
            ∧ ∀ b, t.crg.bridges.get b = { s.crg.bridges.get b with
                presetPending := true, startValue := some c.resp.restartAlpha })) := by
  refine ⟨fun hcalm => ?_, fun hu hb => ?_⟩
  · have hnothing : takeClose s = (s, []) := by
      rw [takeClose, if_neg]
      rcases hcalm with h | h <;> simp [h]
    rw [takeClear, hnothing]
    rfl
  · have hclosed : takeClear u s = (clearEpisode u (closeList s).1, (closeList s).2.head?.map .misfire) := by
      rw [takeClear, takeClose_risen s hu hb]
    obtain ⟨hlist, hblocked, hseq, -⟩ := closeList_spec s
    have hfls := clearEpisode_fls u (closeList s).1
    have hd := clearEpisode_dgv u (closeList s).1
    have hcrg : (clearEpisode u (closeList s).1).crg = s.crg :=
      (clearEpisode_changes u _ .crg (by decide)).trans (closeList_changes s .crg (by decide))
    have hcopies : (clearEpisode u (closeList s).1).dgv.copy = s.dgv.copy := by
      rw [hd, closeList_changes s .dgv (by decide)]
    have hrecovers : (clearEpisode u (closeList s).1).dgv.state = .recovery := by rw [hd]
    rw [hclosed]
    refine ⟨by rw [hfls, hlist], by rw [hfls, hblocked], by rw [hfls, hseq], hrecovers, fun c hcopy hlifted => ?_⟩
    have hopen := unblocked_in_recovery hrecovers (hcopies.trans hcopy) hlifted (by rw [hfls, hblocked])
    obtain ⟨hopened, -⟩ := hopen 0
    refine ⟨by rw [hopened, hfls, hlist], by rw [hopened], fun b => ?_⟩
    obtain ⟨-, hbridge⟩ := hopen b
    rw [hbridge, hcrg]

/-- Settles O23: the clear as a command of its own, and within an update that has raised its block. -/
theorem clearEntersRecovery : Obligations.ClearEntersRecovery := ⟨episodeClear_recovers, takeClear_closes⟩

end Sys2Proof.Episodes
end

section
/-!
Retirements (R85, R86): the head's own effects, what a close leaves in the slots' status parts, and the two events that stand
for a union risen and lifted (log 1). The file settles O16 and O18.
-/

namespace Sys2Proof.Retirements

open Sys2Proof.Machine Sys2Proof.Claims Sys2Proof.Halting Sys2Proof.Resetting Sys2Proof.Occurrences

/-! The trace's part (R85, R166). -/

/-- While the trace appends, its newest record is the one appended. -/
theorem appendTrace_appends (r : TraceRecord) {s : State} (h : s.trc.state = .recording ∨ s.trc.state = .triggered) :
    (appendTrace r s).trc.ring.getLast? = some r := by
  unfold appendTrace
  split
  · exact pushRing_last _ r
  · rw [judgeFreeze_ring]
    exact pushRing_last _ r
  · next hrec htrig => exact absurd h (not_or.mpr ⟨hrec, htrig⟩)

theorem appendTrace_idle (r : TraceRecord) {s : State} (h : s.trc.state = .idle ∨ s.trc.state = .frozen) :
    appendTrace r s = s := by
  unfold appendTrace
  split
  · next hstate => rcases h with h | h <;> rw [hstate] at h <;> cases h
  · next hstate => rcases h with h | h <;> rw [hstate] at h <;> cases h
  · rfl

/-! The head's retirement. -/

/-- The head retired but for the notice of a misfire: list, counter, trace, status. -/
def headRetired (e : Entry) (rest : List Entry) (s : State) : State :=
  let t := appendTrace (traceRecordOf s.fls.seq e) (s.withFls { s.fls with list := rest, seq := s.fls.seq + 1 })
  t.withFls { t.fls with
    status := t.fls.status.set e.slot (statusAfter (s.parN .misfireLimit) s.fls.seq e (t.fls.status.get e.slot)) }

theorem retireHead_eq {e : Entry} {rest : List Entry} {s : State} (h : s.fls.list = e :: rest) : (retireHead s).1 =
    if e.retireOutcome = .misfire then occur .slotMisfire (headRetired e rest s) else headRetired e rest s := by
  unfold retireHead
  rw [h]
  dsimp only
  split <;> rfl

theorem headRetired_source (e : Entry) (rest : List Entry) (s : State) :
    QuietBut [.traceFrozen] s (headRetired e rest s) := fun _ hmem =>
  appendTrace_source _ _ _ fun e => hmem (by simp [Source.num_injective e])

theorem headRetired_mfe (e : Entry) (rest : List Entry) (s : State) : (headRetired e rest s).mfe = s.mfe := by
  rw [headRetired, State.withFls_mfe, appendTrace_mfe]
  rfl

theorem headRetired_trc (e : Entry) (rest : List Entry) (s : State) : (headRetired e rest s).trc =
    (appendTrace (traceRecordOf s.fls.seq e) (s.withFls { s.fls with list := rest, seq := s.fls.seq + 1 })).trc := rfl

theorem retireHead_ring {e : Entry} {rest : List Entry} {s : State} (h : s.fls.list = e :: rest) :
    (retireHead s).1.trc.ring = (headRetired e rest s).trc.ring := by
  rw [retireHead_eq h]
  split
  · exact occur_ring _ _
  · rfl

theorem retireHead_slot {e : Entry} {rest : List Entry} {s : State} (h : s.fls.list = e :: rest) (k : Fin 24) :
    (retireHead s).1.fls.status.get k =
      if e.slot = k then statusAfter (s.parN .misfireLimit) s.fls.seq e (s.fls.status.get k) else s.fls.status.get k := by
  rw [retireHead_fls e rest s h, Tab.get_set]
  split
  · next hk => rw [hk]
  · rfl

/-- A retirement touches the firing list, the trace and the notices. -/
theorem frame_of_retired {s t : State} (h : Changes [.fls, .ntu, .trc] s t) :
    t = { s with fls := t.fls, trc := t.trc, ntu := t.ntu } :=
  state_ext fun f => by have hf := h f; cases f <;> first | rfl | exact hf (by simp)

/-- Settles O18: the head's own effects, and the notice of a misfire on top of them. -/
theorem retirementRecordsHead : Obligations.RetirementRecordsHead := by
  intro e rest s h
  have hfls := retireHead_fls e rest s h
  have hslot := retireHead_slot h
  have hown : (retireHead s).1.fls.status.get e.slot =
      statusAfter (s.parN .misfireLimit) s.fls.seq e (s.fls.status.get e.slot) := by rw [hslot, if_pos rfl]
  have hquiet := headRetired_source e rest s
  dsimp only
  refine ⟨by rw [hfls], by rw [hfls], by rw [hfls], by rw [hfls], fun k hk => ?_, ?_, fun ho => ?_, fun ho => ?_, fun ho => ?_,
    fun src hmem => ?_, frame_of_retired (retireHead_changes s), fun ho => ⟨?_, ?_⟩, fun hstate => ?_, fun hstate => ?_⟩
  · rw [hslot, if_neg (Ne.symm hk)]
  · rw [hown]
    exact ⟨_, rfl, rfl, rfl, rfl, rfl, rfl⟩
  · have ho' : e.retireOutcome = .confirmed := ho
    rw [hown, statusAfter, ho']
  · have ho' : e.retireOutcome = .indeterminate ∨ e.retireOutcome = .cancelled := ho
    rw [hown, statusAfter]
    rcases ho' with ho' | ho' <;> rw [ho']
  · have ho' : e.retireOutcome ≠ .misfire := ho
    rw [retireHead_eq h, if_neg ho']
    exact hquiet
  · refine retireHead_source s src.num (fun e => hmem ?_) fun e => hmem ?_
    · simp [Source.num_injective e]
    · simp [Source.num_injective e]
  · have ho' : e.retireOutcome = .misfire := ho
    have hraised := raised_occur (headRetired e rest s) (src := .slotMisfire) (by decide)
    rw [Raised, hquiet .slotMisfire (by decide), headRetired_mfe] at hraised
    rw [Raised, retireHead_eq h, if_pos ho']
    exact hraised
  · have ho' : e.retireOutcome = .misfire := ho
    rw [hown, statusAfter, ho']
  · refine ⟨traceRecordOf s.fls.seq e, ?_, rfl, rfl, rfl⟩
    rw [retireHead_ring h, headRetired_trc]
    exact appendTrace_appends _ hstate
  · rw [retireHead_ring h, headRetired_trc]
    exact (congrArg (fun t : State => t.trc.ring)
      (appendTrace_idle (s := s.withFls { s.fls with list := rest, seq := s.fls.seq + 1 }) _ hstate)).trans rfl

/-! All the retirements of a close (R90). -/

/-- What an entry leaves in its slot's status part when it retires under a number. -/
def lastOf (seq : BitVec 16) (e : Entry) : LastRetirement := ⟨seq, e.retireOutcome, e.alpha, e.iMeas, e.iSet, e.areas⟩

/-- A slot of which no entry is retired keeps its status part. -/
theorem retireAll_other (n : Nat) {s : State} {k : Fin 24} (h : ∀ e ∈ s.fls.list, e.slot ≠ k) :
    (retireAll n s).1.fls.status.get k = s.fls.status.get k := by
  induction n generalizing s with
  | zero => rfl
  | succ n ih =>
    show (retireAll n (retireHead s).1).1.fls.status.get k = _
    cases hl : s.fls.list with
    | nil => rw [retireHead_empty s hl, ih h]
    | cons e rest =>
      have hne : e.slot ≠ k := h e (by simp [hl])
      have hlist : (retireHead s).1.fls.list = rest := by rw [retireHead_fls e rest s hl]
      rw [ih (by rw [hlist]; exact fun e' he' => h e' (by simp [hl, he'])), retireHead_slot hl, if_neg hne]

/-- The last entry of a slot leaves its record there, under the number that its place in the list gives it. -/
theorem retireAll_last (n : Nat) {s : State} (hn : s.fls.list.length ≤ n) {i : Nat} {e : Entry}
    (hi : s.fls.list[i]? = some e) (hlater : ∀ m e', i < m → s.fls.list[m]? = some e' → e'.slot ≠ e.slot) :
    ((retireAll n s).1.fls.status.get e.slot).last = some (lastOf (s.fls.seq + BitVec.ofNat 16 i) e) := by
  induction n generalizing s i with
  | zero =>
    rw [List.eq_nil_of_length_eq_zero (Nat.le_zero.mp hn)] at hi
    cases hi
  | succ n ih =>
    cases hl : s.fls.list with
    | nil => rw [hl] at hi; cases hi
    | cons a rest =>
      rw [hl] at hi hlater hn
      have hfls := retireHead_fls a rest s hl
      have hlist : (retireHead s).1.fls.list = rest := by rw [hfls]
      show ((retireAll n (retireHead s).1).1.fls.status.get e.slot).last = _
      cases i with
      | zero =>
        obtain rfl := Option.some.inj hi
        have hrest : ∀ e' ∈ (retireHead s).1.fls.list, e'.slot ≠ a.slot := by
          rw [hlist]
          intro e' he'
          obtain ⟨m, hm⟩ := List.mem_iff_getElem?.mp he'
          exact hlater (m + 1) e' (Nat.succ_pos m) hm
        rw [retireAll_other n hrest, retireHead_slot hl, if_pos rfl]
        simp [statusAfter, lastOf]
      | succ i =>
        have hseq : (retireHead s).1.fls.seq = s.fls.seq + 1 := by rw [hfls]
        have hrest := ih (s := (retireHead s).1) (i := i) (by rw [hlist]; exact Nat.le_of_succ_le_succ hn)
          (by rw [hlist]; exact hi) (by rw [hlist]; exact fun m e' hm he' => hlater (m + 1) e' (Nat.succ_lt_succ hm) he')
        rw [hrest, hseq, BitVec.add_assoc, show (1 : BitVec 16) + BitVec.ofNat 16 i = BitVec.ofNat 16 (i + 1) by
          rw [BitVec.ofNat_add, BitVec.add_comm]; rfl]

/-! The close. -/

/-- The outcome that an entry is closed with (R89). -/
def closedOutcome (e : Entry) : RetireOutcome :=
  if e.state = .done then e.outcome.getD .cancelled
  else if e.state = .conducting then .indeterminate else .cancelled

theorem closeEntry_kept (mark : Bool) (now : Stamp) (e : Entry) :
    (closeEntry mark now e).slot = e.slot ∧ (closeEntry mark now e).alpha = e.alpha
    ∧ (closeEntry mark now e).iMeas = e.iMeas ∧ (closeEntry mark now e).iSet = e.iSet
    ∧ (closeEntry mark now e).notchArea = e.notchArea ∧ (closeEntry mark now e).notchSamples = e.notchSamples
    ∧ (closeEntry mark now e).refArea = e.refArea ∧ (closeEntry mark now e).refSamples = e.refSamples := by
  unfold closeEntry
  split <;> exact ⟨rfl, rfl, rfl, rfl, rfl, rfl, rfl, rfl⟩

theorem closeEntry_outcome (mark : Bool) (now : Stamp) (e : Entry) :
    (closeEntry mark now e).retireOutcome = closedOutcome e := by
  unfold closeEntry closedOutcome
  cases e.state <;> rfl

theorem lastOf_closeEntry (mark : Bool) (now : Stamp) (seq : BitVec 16) (e : Entry) :
    lastOf seq (closeEntry mark now e) = ⟨seq, closedOutcome e, e.alpha, e.iMeas, e.iSet,
      if closedOutcome e = .cancelled then none else some ⟨e.notchArea, e.notchSamples, e.refArea, e.refSamples⟩⟩ := by
  obtain ⟨-, halpha, hmeas, hset, hnotch, hnotchSamples, href, hrefSamples⟩ := closeEntry_kept mark now e
  rw [lastOf, Entry.areas, closeEntry_outcome, halpha, hmeas, hset, hnotch, hnotchSamples, href, hrefSamples]

theorem closeList_last {s : State} {n : Nat} {e : Entry} (hn : s.fls.list[n]? = some e)
    (hlater : ∀ m e', n < m → s.fls.list[m]? = some e' → e'.slot ≠ e.slot) :
    ((closeList s).1.fls.status.get e.slot).last = some ⟨s.fls.seq + BitVec.ofNat 16 n, closedOutcome e, e.alpha, e.iMeas,
      e.iSet, if closedOutcome e = .cancelled then none
        else some ⟨e.notchArea, e.notchSamples, e.refArea, e.refSamples⟩⟩ := by
  let c := closeEntry (s.dgv.state == .episode) s.mfe.count
  obtain ⟨hslot, -⟩ := closeEntry_kept (s.dgv.state == .episode) s.mfe.count e
  have hclosed : (s.fls.list.map c)[n]? = some (c e) := by rw [List.getElem?_map, hn]; rfl
  have hclosedLater : ∀ m e', n < m → (s.fls.list.map c)[m]? = some e' → e'.slot ≠ (c e).slot := by
    intro m e' hm he'
    rw [List.getElem?_map] at he'
    obtain ⟨e0, he0, rfl⟩ := Option.map_eq_some_iff.mp he'
    obtain ⟨hslot0, -⟩ := closeEntry_kept (s.dgv.state == .episode) s.mfe.count e0
    rw [show (c e0).slot = e0.slot from hslot0, show (c e).slot = e.slot from hslot]
    exact hlater m e0 hm he0
  have hlast := retireAll_last s.fls.list.length
    (s := s.withFls { s.fls with blocked := true, list := s.fls.list.map c }) (by simp) hclosed hclosedLater
  rw [← lastOf_closeEntry (s.dgv.state == .episode) s.mfe.count, ← hslot]
  exact hlast

/-! LIST_CLOSE and UNBLOCK as commands of their own. -/

/-- What a risen union leaves, with the halts that the close asks for (R87). -/
def closed (s : State) : State := askMisfires (closeList s).2 (closeList s).1

theorem exec_listClose {s : State} (hawake : s.asleep = false) (hu : s.union = true) (hb : s.fls.blocked = false) :
    exec .listClose s = .next (closed s) := by
  refine congrArg Host.Outcome.next ((whileAwake_of_awake hawake).trans ?_)
  dsimp only
  rw [takeClose_risen s hu hb]
  rfl

theorem closed_fls (s : State) : (closed s).fls = (closeList s).1.fls := by
  obtain ⟨-, hblocked, -, -⟩ := closeList_spec s
  exact askMisfires_fls _ _ hblocked

theorem closed_changes (s : State) : Changes [.rct, .crg, .fls, .dgv, .rtb, .ntu, .trc] s (closed s) :=
  ((closeList_changes s).mono (by simp)).trans (askMisfires_changes _ _)

theorem listClose_retires (s : State) (hawake : s.asleep = false) (hu : s.union = true) (hb : s.fls.blocked = false) :
    ∃ t, exec .listClose s = .next t ∧ Shut t
      ∧ t.fls.seq = s.fls.seq + BitVec.ofNat 16 s.fls.list.length ∧ t.fls.refAvg = s.fls.refAvg
      ∧ (∀ (n : Nat) (e : Entry), s.fls.list[n]? = some e →
          (∀ (m : Nat) (e' : Entry), n < m → s.fls.list[m]? = some e' → e'.slot ≠ e.slot) →
          let o : RetireOutcome :=
            if e.state = .done then e.outcome.getD .cancelled
            else if e.state = .conducting then .indeterminate else .cancelled
          (t.fls.status.get e.slot).last =
            some ⟨s.fls.seq + BitVec.ofNat 16 n, o, e.alpha, e.iMeas, e.iSet,
              if o = .cancelled then none else some ⟨e.notchArea, e.notchSamples, e.refArea, e.refSamples⟩⟩)
      ∧ t.mfe = s.mfe ∧ t.ffb = s.ffb ∧ t.atr = s.atr ∧ t.ssq = s.ssq ∧ t.wcu = s.wcu ∧ t.lnk = s.lnk ∧ t.sst = s.sst
      ∧ t.params = s.params ∧ t.pins = s.pins := by
  obtain ⟨hlist, hblocked, hseq, havg⟩ := closeList_spec s
  have hfls := closed_fls s
  have hk := closed_changes s
  refine ⟨closed s, exec_listClose hawake hu hb, ⟨by rw [hfls, hblocked], by rw [hfls, hlist], ?_⟩, by rw [hfls, hseq],
    by rw [hfls, havg], fun n e hn hlater => ?_, hk .mfe (by decide), hk .ffb (by decide), hk .atr (by decide),
    hk .ssq (by decide), hk .wcu (by decide), hk .lnk (by decide), hk .sst (by decide), hk .params (by decide),
    hk .pins (by decide)⟩
  · exact gateOn_empty _ (by rw [hfls, hlist])
  · rw [hfls]
    exact closeList_last hn hlater

theorem unblock_presets (s : State) (hawake : s.asleep = false) (hu : s.union = false) (hb : s.fls.blocked = true) :
    ∃ t, exec .unblock s = .next t
      ∧ t = { s with fls := { s.fls with blocked := false }, crg := t.crg }
      ∧ (∀ b, t.crg.bridges.get b = { s.crg.bridges.get b with
          presetPending := true
          startValue := some (match s.dgv.state, s.dgv.copy with
            | .steady, _ => s.parN .alphaStart
            | _, some c => c.resp.restartAlpha
            | _, none => s.parN .alphaStart) }) := by
  refine ⟨recordPresets (s.withFls { s.fls with blocked := false }), ?_, rfl, fun b => ?_⟩
  · exact congrArg Host.Outcome.next ((whileAwake_of_awake hawake).trans (takeUnblock_lifted s hu hb))
  · rw [recordPresets, State.withCrg_crg, Tab.get_map]
    cases hstate : s.dgv.state <;> cases hcopy : s.dgv.copy <;> simp [unblockStart, hstate, hcopy, State.parN, State.par]

/-- Settles O16: a union risen, by the retirements in their order, and one lifted. -/
theorem blockClosesUnblockPresets : Obligations.BlockClosesUnblockPresets := ⟨listClose_retires, unblock_presets⟩

end Sys2Proof.Retirements
end

section
/-!
The slot pointer at a crossed dispatch angle (R44 to R49): when it is handled, what a dispatch hands to the firing list, and
the angle that resolves a pending sync. The file settles O12 and O13.
-/

namespace Sys2Proof.Pointer

open Sys2Proof.Machine Sys2Proof.Claims Sys2Proof.Retirements

/-! Whether the pointed slot is handled. -/

theorem sequencerPoint_idle {v : View} (h : v.live = false) (u : AngleUpdate) (x : Nat) (s : State) :
    sequencerPoint v u x s = s := if_pos (by simp [h])

theorem sequencerPoint_pointed {v : View} (hlive : v.live = true) (u : AngleUpdate) {s : State}
    (hsync : s.ssq.pendingSync = false) (hk : s.ssq.pointer < 6 * s.parN .bridges) :
    sequencerPoint v u (s.dispatchAngle s.ssq.pointer) s = handleSlot v u s.ssq.pointer s := by
  rw [sequencerPoint, if_neg (by simp [hlive]), if_neg (by simp [hsync]), if_pos ⟨rfl, hk⟩]

/-- While a sync is pending, an angle that is no slot's dispatch angle changes nothing (R49). -/
theorem sequencerPoint_unresolved {v : View} (hlive : v.live = true) (u : AngleUpdate) {x : Nat} {s : State}
    (hsync : s.ssq.pendingSync = true) (hk : slotAt s x = none) : sequencerPoint v u x s = s := by
  rw [sequencerPoint, if_neg (by simp [hlive]), if_pos hsync, hk]

/-- While a sync is pending, the slot whose dispatch angle is crossed resolves it and is handled (R49). -/
theorem sequencerPoint_resolved {v : View} (hlive : v.live = true) (u : AngleUpdate) {x k : Nat} {s : State}
    (hsync : s.ssq.pendingSync = true) (hk : slotAt s x = some k) :
    sequencerPoint v u x s = handleSlot v u k (resolveSync k s) := by
  rw [sequencerPoint, if_neg (by simp [hlive]), if_pos hsync, hk]

theorem dispatchEnabled_iff (v : View) (u : AngleUpdate) (s : State) : dispatchEnabled v u s = true ↔
    (v.unseen = true ∨ ((s.rct.state = .run ∨ s.rct.state = .stopping) ∧ s.union = false))
      ∧ (u.state = .locked ∨ u.state = .hold) := by
  simp only [dispatchEnabled, Bool.and_eq_true, Bool.or_eq_true, beq_iff_eq, Onsets.running_iff, Bool.not_eq_true']

theorem handleSlot_passed {v : View} {u : AngleUpdate} {s : State} (k : Nat) (h : ¬ dispatchEnabled v u s = true) :
    handleSlot v u k s = advancePointer k s := by
  rw [handleSlot, if_neg h]

theorem handleSlot_dispatched {v : View} {u : AngleUpdate} {s : State} (k : Nat) (h : dispatchEnabled v u s = true) :
    handleSlot v u k s = advancePointer k (dispatch v u k s) := by
  rw [handleSlot, if_pos h]

/-- The pointer advances either way (R45). -/
theorem handleSlot_ssq (v : View) (u : AngleUpdate) (k : Nat) (s : State) : (handleSlot v u k s).ssq =
    { s.ssq with pointer := if k + 1 < 6 * s.parN .bridges then k + 1 else 0 } := by
  by_cases h : dispatchEnabled v u s = true
  · have hk := dispatch_changes v u k s
    rw [handleSlot_dispatched k h, advancePointer, State.withSsq_ssq, hk .ssq (by decide), State.slotCount, State.parN,
      State.par, hk .params (by decide)]
    rfl
  · rw [handleSlot_passed k h]
    rfl

/-! A dispatch (R47, R62 to R65, R72). -/

/-- The regulator's answer for a slot. -/
def answer (v : View) (u : AngleUpdate) (k : Nat) (s : State) : Bridge :=
  regulate s v.floor (s.crg.bridges.get (s.slotBridge k)) (u.set.idc.get (s.slotBridge k))

/-- The regulator takes the answer. -/
def regulated (v : View) (u : AngleUpdate) (k : Nat) (s : State) : State :=
  s.withCrg ⟨s.crg.bridges.set (s.slotBridge k) (answer v u k s)⟩

/-- The entry that a dispatch hands to the firing list. -/
def entryOf (v : View) (u : AngleUpdate) (k : Nat) (s : State) : Entry :=
  newEntry s (Fin.ofNat 24 k) (s.slotBridge k) (s.slotPair k) (s.baseAngle k) (answer v u k s).alphaPrev
    (u.set.idc.get (s.slotBridge k)) ((s.crg.bridges.get (s.slotBridge k)).setpoint / 256)

theorem dispatch_eq (v : View) (u : AngleUpdate) (k : Nat) (s : State) :
    dispatch v u k s = handOff (entryOf v u k s) (regulated v u k s) := by
  obtain ⟨-, hsetpoint⟩ := Promises.regulate_amounts s v.floor (s.crg.bridges.get (s.slotBridge k))
    (u.set.idc.get (s.slotBridge k))
  rw [entryOf, ← hsetpoint]
  rfl

theorem dispatch_crg (v : View) (u : AngleUpdate) (k : Nat) (s : State) (c : Fin 4) :
    (dispatch v u k s).crg.bridges.get c =
      if s.slotBridge k = c then answer v u k s else s.crg.bridges.get c := by
  rw [dispatch_eq, handOff_crg]
  exact Tab.get_set _ _ _ _

theorem toInt_angleOf (x : Int) : (angleOf x : Int) = x % 23040 :=
  Int.toNat_of_nonneg (Int.emod_nonneg x (by decide))

/-- An open list takes the entry at its tail (R72). -/
theorem dispatch_open {v : View} {u : AngleUpdate} {k : Nat} {s : State} (h : s.fls.blocked = false) :
    dispatch v u k s = (regulated v u k s).withFls { s.fls with list := s.fls.list ++ [entryOf v u k s] } := by
  have hopen : (regulated v u k s).fls.blocked = false := h
  rw [dispatch_eq, handOff_open _ _ hopen]
  rfl

/-- A closed list retires the entry at once, CANCELLED (R72, R90). -/
theorem dispatch_closed {v : View} {u : AngleUpdate} {k : Nat} {s : State} (hb : s.fls.blocked = true)
    (hl : s.fls.list = []) :
    (dispatch v u k s).fls.list = [] ∧ (dispatch v u k s).fls.blocked = true
    ∧ (dispatch v u k s).fls.seq = s.fls.seq + 1
    ∧ ((dispatch v u k s).fls.status.get (Fin.ofNat 24 k)).last = some ⟨s.fls.seq, .cancelled, (answer v u k s).alphaPrev,
        u.set.idc.get (s.slotBridge k), (s.crg.bridges.get (s.slotBridge k)).setpoint / 256, none⟩ := by
  let w := (regulated v u k s).withFls { s.fls with list := [entryOf v u k s] }
  have hw : dispatch v u k s = (closeList w).1 := by
    rw [dispatch_eq, handOff]
    refine (if_pos hb).trans ?_
    simp only [regulated, State.withCrg_fls, hl, List.nil_append]
    rfl
  obtain ⟨hlist, hblocked, hseq, -⟩ := closeList_spec w
  have hlast := closeList_last (s := w) (n := 0) (e := entryOf v u k s) rfl fun m e' hm he' => by
    simp [w, State.withFls_fls, Nat.ne_of_gt hm] at he'
  rw [hw]
  exact ⟨hlist, hblocked, hseq, hlast.trans (by simp [w, entryOf, newEntry, closedOutcome])⟩

/-- The fields of the entry that a dispatch hands over (R47, R72). -/
theorem entryOf_fields (v : View) (u : AngleUpdate) {k : Nat} (s : State) (hk : k < 24) :
    (entryOf v u k s).slot.1 = k
    ∧ ((entryOf v u k s).fire : Int) = ((s.baseAngle k : Int) + (entryOf v u k s).alpha) % 23040
    ∧ ((entryOf v u k s).refClose : Int) = ((s.baseAngle k : Int) + (entryOf v u k s).alpha - s.par .guard) % 23040
    ∧ ((entryOf v u k s).refOpen : Int) =
        ((s.baseAngle k : Int) + (entryOf v u k s).alpha - s.par .guard - s.par .refWidth) % 23040
    ∧ ((entryOf v u k s).gateOff : Int) = ((s.baseAngle k : Int) + (entryOf v u k s).alpha + s.par .gateWidth) % 23040
    ∧ ((entryOf v u k s).notchClose : Int) =
        ((s.baseAngle k : Int) + (entryOf v u k s).alpha + s.par .notchWidth) % 23040 :=
  let f : Int := s.baseAngle k + (entryOf v u k s).alpha
  ⟨Nat.mod_eq_of_lt hk, toInt_angleOf f, toInt_angleOf (f - s.par .guard),
    toInt_angleOf (f - s.par .guard - s.par .refWidth), toInt_angleOf (f + s.par .gateWidth),
    toInt_angleOf (f + s.par .notchWidth)⟩

/-- Settles O12: a slot that is not pointed at changes nothing; the pointed slot is passed with its frame, or dispatched,
with the list open or closed at the hand-off. -/
theorem pointerDispatchesOrPasses : Obligations.PointerDispatchesOrPasses := by
  intro v u s
  refine ⟨fun h x => sequencerPoint_idle h u x s, fun hlive hsync hk hbridges hempty => ?_⟩
  have hslot : s.ssq.pointer < 24 := Nat.lt_of_lt_of_le hk (Nat.mul_le_mul_left 6 hbridges)
  intro k b r t enabled
  have ht : t = handleSlot v u k s := sequencerPoint_pointed hlive u hsync hk
  have hssq : t.ssq = { s.ssq with pointer := if k + 1 < 6 * s.parN .bridges then k + 1 else 0 } := by
    rw [ht, handleSlot_ssq]
  have hdispatched (he : enabled) : t = advancePointer k (dispatch v u k s) := by
    rw [ht, handleSlot_dispatched k ((dispatchEnabled_iff v u s).2 he)]
  refine ⟨hssq, fun hne => ?_, fun he => ?_, fun he hopen => ?_, fun he hclosed => ?_⟩
  · rw [ht, handleSlot_passed k (mt (dispatchEnabled_iff v u s).1 hne)]
    rfl
  · rw [hdispatched he]
    exact ⟨(dispatch_crg v u k s b).trans (if_pos rfl),
      fun c hc => (dispatch_crg v u k s c).trans (if_neg (Ne.symm hc))⟩
  · rw [hdispatched he, dispatch_open hopen]
    obtain ⟨hk, hfire, hrefClose, hrefOpen, hgateOff, hnotchClose⟩ := entryOf_fields v u s hslot
    exact ⟨entryOf v u k s, rfl, rfl, hk, rfl, rfl, rfl, rfl, hfire, hrefClose, hrefOpen, hgateOff, hnotchClose, rfl, rfl,
      rfl, rfl, rfl, rfl, rfl, rfl, rfl, rfl⟩
  · obtain ⟨hlist, hblocked, hseq, hlast⟩ := dispatch_closed (v := v) (u := u) (k := k) hclosed (hempty hclosed)
    have hkept := dispatch_changes v u k s
    refine ⟨?_, ?_, ?_, ?_, by rw [hssq]; exact hsync, ?_, ?_⟩ <;> rw [hdispatched he]
    · exact hlist
    · exact hblocked
    · exact hseq
    · exact hlast
    · exact hkept .rct (by decide)
    · exact hkept .dgv (by decide)

/-! A pending sync (R49). -/

theorem slotAt_none {s : State} {x : Nat} (h : ∀ k, k < 6 * s.parN .bridges → s.dispatchAngle k ≠ x) : slotAt s x = none :=
  List.find?_eq_none.2 fun k hk => by simpa using h k (List.mem_range.1 hk)

theorem slotAt_lowest {s : State} {k : Nat} (hk : k < 6 * s.parN .bridges)
    (hlow : ∀ j, j < k → s.dispatchAngle j ≠ s.dispatchAngle k) : slotAt s (s.dispatchAngle k) = some k := by
  refine List.find?_range_eq_some.2 ⟨by simp, List.mem_range.2 hk, fun j hj => by simpa using hlow j hj⟩

theorem resolveSync_ssq (k : Nat) (s : State) : (resolveSync k s).ssq = { s.ssq with pointer := k, pendingSync := false } := by
  rw [resolveSync, takeUnblock_ssq]
  rfl

theorem resolveSync_params (k : Nat) (s : State) : (resolveSync k s).params = s.params := by
  rw [resolveSync, takeUnblock_params]
  rfl

/-- Settles O13: the angles are searched from the lowest slot, and the slot found is loaded and handled (R49). -/
theorem pendingSyncResolves : Obligations.PendingSyncResolves := by
  intro v u x s hlive hsync
  refine ⟨fun h => sequencerPoint_unresolved hlive u hsync (slotAt_none h), fun k hk hx hlow => ?_⟩
  subst hx
  rw [sequencerPoint_resolved hlive u hsync (slotAt_lowest hk hlow), handleSlot_ssq, resolveSync_ssq, State.parN,
    State.par, resolveSync_params]
  exact ⟨rfl, rfl⟩

end Sys2Proof.Pointer
end

section
/-!
The requests that only read, without operands (R14, R148, R157, R180, R181, R184, R194), and the requests of the store (R185,
R191, R192). The file settles O39 and O47.
-/

namespace Sys2Proof.PlainRequests

open Sys2Proof.Machine Sys2Proof.Claims Sys2Proof.Requests

/-! Requests that read. -/

/-- A request that only reads is answered OK with what its owner reads after the arrival. -/
theorem read_answered {i : Instr} {f : Frame} {bytes : State → List Byte} {s : State} (hs : Free s)
    (hexec : exec i s = .next (request (some f) (fun s => reads (bytes s) s) s)) :
    exec i s = .next (answered f .ok (bytes (arrive f s)) s) :=
  exec_answered hexec hs hs rfl

/-- The status record holds nothing that the reply changes. -/
theorem statusBytes_answered (f : Frame) {s : State} (h : s.lnk.inbox = []) :
    statusBytes (arrive f s) = statusBytes (answered f .ok [] s) := by
  rw [← sendReply_arrive f .ok [] s h]
  rfl

/-- A kind of no request of the table is refused with KIND (R180). -/
theorem decodeRequest_kind {kind : Byte} (h : kind ∉ requestKinds) (tag : Byte) (p : List Byte) :
    decodeRequest ⟨kind, tag, p⟩ = .error .kind := by
  have hcode : kind.toNat ∉ requestKinds.map BitVec.toNat := fun hmem => by
    obtain ⟨k, hk, hkind⟩ := List.mem_map.1 hmem
    exact h (BitVec.eq_of_toNat_eq hkind ▸ hk)
  simp only [decodeRequest]
  generalize kind.toNat = n at hcode
  split
  case h_33 => rfl
  all_goals exact absurd (by decide) hcode

theorem exec_unknownKind {kind : Byte} (h : kind ∉ requestKinds) (tag : Byte) (p : List Byte) {s : State} (hs : Free s) :
    exec (.unknownKind kind tag p) s = .next (answered ⟨kind, tag, p⟩ .kind [] s) :=
  exec_answered (owner := handle ⟨kind, tag, p⟩) rfl hs hs (by rw [handle, decodeRequest_kind h]; rfl)

/-- Settles O39: each request by the bytes that its owner reads, which the arrival does not touch. -/
theorem readsChangeNothing : Obligations.ReadsChangeNothing := by
  intro tag s hs
  obtain ⟨-, hinbox, -⟩ := id hs
  refine ⟨read_answered (bytes := identifyBytes) hs rfl, ?status, read_answered (bytes := getTripBytes) hs rfl,
    read_answered (bytes := filterBytes) hs rfl, read_answered (bytes := fetchBytes) hs rfl,
    read_answered (bytes := storeBytes) hs rfl, fun kind p hkind => exec_unknownKind hkind tag p hs⟩
  case status =>
    rw [← statusBytes_answered _ hinbox]
    exact read_answered (bytes := statusBytes) hs rfl

/-! Requests of the store. -/

theorem takeSaveSettings_state {s : State} (h : s.rct.state ≠ .standby) : takeSaveSettings s = (s, .refuse .state) := if_pos h

theorem takeLoadSettings_state {s : State} (h : s.rct.state ≠ .standby) : takeLoadSettings s = (s, .refuse .state) := if_pos h

theorem takeSaveSettings_busy {s : State} (h : s.rct.state = .standby) (hsave : s.saving = true) :
    takeSaveSettings s = (s, .refuse .busy) := by
  rw [takeSaveSettings, if_neg (not_not.2 h), if_pos hsave]

theorem takeLoadSettings_busy {s : State} (h : s.rct.state = .standby) (hsave : s.saving = true) :
    takeLoadSettings s = (s, .refuse .busy) := by
  rw [takeLoadSettings, if_neg (not_not.2 h), if_pos hsave]

theorem takeSaveSettings_ok {s : State} (h : s.rct.state = .standby) (hsave : s.saving = false) :
    takeSaveSettings s = (s.withSst { s.sst with activity := .saving 0 }, .ok) := by
  rw [takeSaveSettings, if_neg (not_not.2 h), if_neg (by simp [hsave])]

theorem takeLoadSettings_ok {s : State} (h : s.rct.state = .standby) (hsave : s.saving = false) :
    takeLoadSettings s = (s.withSst { s.sst with activity := .loading }, .atLoadEnd) := by
  rw [takeLoadSettings, if_neg (not_not.2 h), if_neg (by simp [hsave])]

/-- A save that begins leaves the part awake. -/
theorem free_saveBegun {s : State} (hs : Free s) : Free (s.withSst { s.sst with activity := .saving 0 }) := by
  obtain ⟨hawake, hinbox, hsettled⟩ := hs
  simp only [State.asleep, Bool.or_eq_false_iff] at hawake
  exact ⟨by simp [State.asleep, hawake], hinbox, hsettled⟩

/-- The load's reply waits for its end (R191). -/
theorem exec_loadSettings_begun (tag : Byte) {s : State} (hs : Free s) (h : s.rct.state = .standby)
    (hsave : s.saving = false) :
    exec (.loadSettings tag) s = .next ((arrive ⟨0x3D, tag, []⟩ s).withSst { s.sst with activity := .loading }) := by
  obtain ⟨hawake, hinbox, hsettled⟩ := hs
  refine congrArg Host.Outcome.next ((request_free ⟨0x3D, tag, []⟩ takeLoadSettings s hawake hinbox).trans ?_)
  exact serve_waits _ _ _ _ (takeLoadSettings_ok h hsave) hsettled

/-- Settles O47: the owner's checks in their order, and the answer of RESET, which its owner gives at once. -/
theorem storeRequestsTaken : Obligations.StoreRequestsTaken := by
  intro tag s hs
  refine ⟨fun hstate => ⟨?_, ?_⟩, fun hstate hsave => ⟨?_, ?_⟩, fun hstate hsave => ⟨?_, ?_⟩, ?_⟩
  · exact exec_answered (owner := takeSaveSettings) rfl hs hs (takeSaveSettings_state hstate)
  · exact exec_answered (owner := takeLoadSettings) rfl hs hs (takeLoadSettings_state hstate)
  · exact exec_answered (owner := takeSaveSettings) rfl hs hs (takeSaveSettings_busy hstate (saving_of_saveRunning hsave))
  · exact exec_answered (owner := takeLoadSettings) rfl hs hs (takeLoadSettings_busy hstate (saving_of_saveRunning hsave))
  · exact exec_answered (owner := takeSaveSettings) rfl hs (free_saveBegun hs)
      (takeSaveSettings_ok hstate (not_saving_of_not_saveRunning hsave))
  · obtain ⟨-, hinbox, -⟩ := id hs
    rw [exec_loadSettings_begun tag hs hstate (not_saving_of_not_saveRunning hsave), arrive, hinbox]
    rfl
  · exact exec_answered (owner := fun s => (s, .ok)) rfl hs hs rfl

end Sys2Proof.PlainRequests
end

section
/-!
The row code (R189) and the rows of a save (R192, R193). The syndrome of a pattern of bits in error does not depend on the
data; that of one bit is that bit's own word, of an odd number of set bits, and that of two bits is a word of an even number,
which is not 0. The file settles O52 and O53.
-/

namespace Sys2Proof.RowCode

open Sys2Proof.Machine Sys2Proof.Claims Sys2Proof.Requests

/-! The check bits are linear in the data. -/

theorem columnSum_xor (a b : BitVec 32) (i : Nat) (l : List (BitVec 7)) :
    columnSum (a ^^^ b) i l = columnSum a i l ^^^ columnSum b i l := by
  induction l generalizing i with
  | nil => simp [columnSum]
  | cons c rest ih =>
    have hbit : (if (a ^^^ b).getLsbD i then c else 0) = (if a.getLsbD i then c else 0) ^^^ (if b.getLsbD i then c else 0) := by
      cases ha : a.getLsbD i <;> cases hb : b.getLsbD i <;> simp [ha, hb]
    rw [columnSum, columnSum, columnSum, hbit, ih]
    ac_rfl

theorem checkOf_xor (a b : BitVec 32) : checkOf (a ^^^ b) = checkOf a ^^^ checkOf b := columnSum_xor a b 0 columns

/-- The syndrome of a pattern of bits in error. -/
def syndrome (errors : BitVec 39) : BitVec 7 := checkOf (errors.setWidth 32) ^^^ (errors >>> 32).setWidth 7

theorem syndrome_xor (a b : BitVec 39) : syndrome (a ^^^ b) = syndrome a ^^^ syndrome b := by
  have hlow : (a ^^^ b).setWidth 32 = a.setWidth 32 ^^^ b.setWidth 32 := by ext; simp
  have hhigh : ((a ^^^ b) >>> 32).setWidth 7 = (a >>> 32).setWidth 7 ^^^ (b >>> 32).setWidth 7 := by ext; simp
  rw [syndrome, syndrome, syndrome, hlow, hhigh, checkOf_xor]
  ac_rfl

/-- What reading a row makes of a syndrome and the data read. -/
def judgeRow (s : BitVec 7) (data : BitVec 32) : RowRead :=
  if s = 0 then .clean data
  else
    match columns.findIdx? (· == s) with
    | some i => .corrected (data ^^^ (1#32 <<< i))
    | none => if [1#7, 2, 4, 8, 16, 32, 64].contains s then .corrected data else .uncorrectable

/-- A disturbed row is judged by the syndrome of what disturbed it. -/
theorem readRow_disturbed (d : BitVec 32) (errors : BitVec 39) :
    readRow (disturbRow (encodeRow d) errors) = judgeRow (syndrome errors) (d ^^^ errors.setWidth 32) := by
  have hs : checkOf (d ^^^ errors.setWidth 32) ^^^ (checkOf d ^^^ (errors >>> 32).setWidth 7) = syndrome errors := by
    rw [checkOf_xor, syndrome, BitVec.xor_assoc, ← BitVec.xor_assoc _ (checkOf d), BitVec.xor_comm _ (checkOf d),
      BitVec.xor_assoc, ← BitVec.xor_assoc, BitVec.xor_self, BitVec.zero_xor]
  simp only [readRow, disturbRow, encodeRow, hs]
  rfl

/-! One bit in error. -/

/-- The syndrome of one bit: a column, or a word with one bit set. -/
theorem syndrome_data (i : Fin 32) : columns.findIdx? (· == syndrome (1#39 <<< i.1)) = some i.1 ∧
    syndrome (1#39 <<< i.1) ≠ 0 ∧ (1#39 <<< i.1).setWidth 32 = 1#32 <<< i.1 := by
  revert i
  decide

theorem syndrome_check (i : Fin 7) : columns.findIdx? (· == syndrome (1#39 <<< (32 + i.1))) = none ∧
    syndrome (1#39 <<< (32 + i.1)) ≠ 0 ∧ (1#39 <<< (32 + i.1)).setWidth 32 = 0#32
    ∧ [1#7, 2, 4, 8, 16, 32, 64].contains (syndrome (1#39 <<< (32 + i.1))) = true := by
  revert i
  decide

theorem readRow_one (d : BitVec 32) {i : Nat} (hi : i < 39) :
    readRow (disturbRow (encodeRow d) (1#39 <<< i)) = .corrected d := by
  rw [readRow_disturbed]
  rcases lt_or_ge i 32 with hdata | hcheck
  · obtain ⟨hfind, hne, hlow⟩ := syndrome_data ⟨i, hdata⟩
    simp only [judgeRow, if_neg hne, hfind, hlow, BitVec.xor_assoc, BitVec.xor_self, BitVec.xor_zero]
  · obtain ⟨k, rfl⟩ := Nat.exists_eq_add_of_le hcheck
    obtain ⟨hfind, hne, hlow, hword⟩ := syndrome_check ⟨k, by omega⟩
    simp only [judgeRow, if_neg hne, hfind, hlow, if_pos hword, BitVec.xor_zero]

/-! Two bits in error. -/

/-- An odd number of the listed bits is set. -/
def oddOver (v : BitVec 7) : List Nat → Bool
  | [] => false
  | i :: rest => v.getLsbD i ^^ oddOver v rest

/-- An odd number of bits is set. -/
def odd (v : BitVec 7) : Bool := oddOver v (List.range 7)

theorem oddOver_xor (a b : BitVec 7) (l : List Nat) : oddOver (a ^^^ b) l = (oddOver a l ^^ oddOver b l) := by
  induction l with
  | nil => rfl
  | cons i rest ih =>
    rw [oddOver, oddOver, oddOver, ih, BitVec.getLsbD_xor, Bool.xor_assoc, Bool.xor_assoc, Bool.xor_left_comm (b.getLsbD i)]

theorem odd_xor (a b : BitVec 7) : odd (a ^^^ b) = (odd a ^^ odd b) := oddOver_xor a b (List.range 7)

theorem odd_syndrome (i : Fin 39) : odd (syndrome (1#39 <<< i.1)) = true := by
  revert i
  decide

theorem syndrome_distinct (i j : Fin 39) (h : syndrome (1#39 <<< i.1) = syndrome (1#39 <<< j.1)) : i = j := by
  have hnodup : ((List.finRange 39).map fun i => syndrome (1#39 <<< i.1)).Nodup := by decide
  exact List.inj_on_of_nodup_map hnodup (List.mem_finRange i) (List.mem_finRange j) h

/-- A word of an even number of set bits, which is not 0, is the syndrome of no single bit. -/
theorem judgeRow_even {s : BitVec 7} (hne : s ≠ 0) (heven : odd s = false) (data : BitVec 32) :
    judgeRow s data = .uncorrectable := by
  have hcolumns : ∀ c ∈ columns, odd c = true := by decide
  have hwords : ∀ c ∈ [1#7, 2, 4, 8, 16, 32, 64], odd c = true := by decide
  have hfind : columns.findIdx? (· == s) = none := List.findIdx?_eq_none_iff.2 fun c hc => by
    simp only [beq_eq_false_iff_ne]
    rintro rfl
    simp [hcolumns c hc] at heven
  have hword : ¬ [1#7, 2, 4, 8, 16, 32, 64].contains s = true := fun h => by
    simp [hwords s (List.contains_iff_mem.1 h)] at heven
  rw [judgeRow, if_neg hne, hfind]
  exact if_neg hword

theorem readRow_two (d : BitVec 32) {i j : Nat} (hij : i < j) (hj : j < 39) :
    readRow (disturbRow (encodeRow d) ((1#39 <<< i) ||| (1#39 <<< j))) = .uncorrectable := by
  let a : Fin 39 := ⟨i, hij.trans hj⟩
  let b : Fin 39 := ⟨j, hj⟩
  have hor : (1#39 <<< i) ||| (1#39 <<< j) = (1#39 <<< a.1) ^^^ (1#39 <<< b.1) := by
    ext k hk
    by_cases hki : k = i
    · subst hki
      simp [a, b, hij]
    · have hbit : (1#39 <<< i)[k] = false := by simp; omega
      simp [a, b, hbit]
  have hab : a ≠ b := fun h => absurd (congrArg Fin.val h) hij.ne
  rw [readRow_disturbed, hor, syndrome_xor]
  refine judgeRow_even (fun h => hab (syndrome_distinct a b ?_)) ?_ _
  · exact BitVec.xor_eq_zero_iff.1 h
  · rw [odd_xor, odd_syndrome a, odd_syndrome b]
    rfl

theorem disturbRow_zero (r : Row) : disturbRow r 0 = r := by simp [disturbRow]

/-- A row as written reads clean. -/
theorem readRow_encodeRow (d : BitVec 32) : readRow (encodeRow d) = .clean d := by
  rw [← disturbRow_zero (encodeRow d), readRow_disturbed]
  simp [judgeRow, syndrome, checkOf, columnSum, columns]

/-- Settles O52: by the syndrome of what disturbs the row. -/
theorem rowCodeCorrectsOneDetectsTwo : Obligations.RowCodeCorrectsOneDetectsTwo := fun d =>
  ⟨readRow_encodeRow d, fun _ hi => readRow_one d hi, fun _ _ hij hj => readRow_two d hij hj⟩

/-! A row written (R192). -/

/-- A row reads back exactly when nothing disturbed it: with the data undisturbed the syndrome is what disturbed the check
bits. -/
theorem readsBack_iff (d : BitVec 32) (errors : BitVec 39) : readsBack (writtenRow d errors) d = true ↔ errors = 0 := by
  rw [readsBack, beq_iff_eq, writtenRow]
  refine ⟨fun h => ?_, fun h => ?_⟩
  · rw [readRow_disturbed, judgeRow] at h
    split at h
    · rename_i hs
      have hlow : errors.setWidth 32 = 0#32 := by simpa using h
      have hhigh : (errors >>> 32).setWidth 7 = 0#7 := by simpa [syndrome, hlow, checkOf, columnSum, columns] using hs
      bv_omega
    · split at h
      · simp at h
      · split at h <;> simp at h
  · subst h
    rw [disturbRow_zero, readRow_encodeRow]

/-- The store after the row under way has been written, with its mark. -/
def rowWritten (n : Fin 512) (errors : BitVec 39) (bad : Bool) (s : State) : Sst :=
  { s.sst with
    rows := s.sst.rows.set n (disturbRow (encodeRow ((settingsOf s).word n.1)) errors), bad := s.sst.bad.set n bad }

theorem saveRow_good (n : Fin 512) (s : State) : saveRow n 0 s = nextRow n (s.withSst (rowWritten n 0 false s)) := by
  rw [saveRow]
  exact if_pos ((readsBack_iff _ _).2 rfl)

theorem saveRow_bad (n : Fin 512) {errors : BitVec 39} (h : errors ≠ 0) (s : State) : saveRow n errors s =
    occur .storeFault (s.withSst { rowWritten n errors true s with latch := true, activity := .idle }) := by
  rw [saveRow]
  exact if_neg (mt (readsBack_iff _ _).1 h)

theorem exec_saveRowWritten_saving {n : Fin 512} {s : State} (h : s.sst.activity = .saving n) (errors : BitVec 39) :
    exec (.saveRowWritten errors) s = .next (saveRow n errors s) := by
  simp only [exec, execSaveRowWritten, h]

/-- Outside a save no row is written. -/
theorem exec_saveRowWritten_idle {s : State} (h : ¬ SaveRunning s) (errors : BitVec 39) :
    exec (.saveRowWritten errors) s = .next s := by
  simp only [exec, execSaveRowWritten]
  split
  · rename_i n hn
    exact absurd ⟨n, hn⟩ h
  · rfl

/-- A notice of the store: its source has occurred, and nothing but the notices and the trace has changed beside the store. -/
theorem occur_store (src : Source) (hsrc : src ≠ .traceFrozen) (v : Sst) (s : State) :
    (occur src (s.withSst v)).sst = v ∧ Raised src s (occur src (s.withSst v))
    ∧ occur src (s.withSst v) = { s with
        sst := (occur src (s.withSst v)).sst, ntu := (occur src (s.withSst v)).ntu, trc := (occur src (s.withSst v)).trc } := by
  refine ⟨occur_sst _ _, occur_source_same src _ hsrc, (occur_frame src _).trans ?_⟩
  rw [occur_sst]
  rfl

/-- Settles O53: a row written right, the last of them, and a row written wrong. -/
theorem saveWritesRowByRow : Obligations.SaveWritesRowByRow := by
  refine fun errors s => ⟨fun h => exec_saveRowWritten_idle h errors, fun n hn => ⟨fun he => ?_, fun he => ?_⟩⟩
  · subst he
    refine ⟨nextRow n (s.withSst (rowWritten n 0 false s)), ?_, ?_⟩
    · rw [exec_saveRowWritten_saving hn, saveRow_good]
    have hrows : (rowWritten n 0 false s).rows = s.sst.rows.set n (encodeRow ((settingsOf s).word n.1)) := by
      rw [rowWritten, disturbRow_zero]
    by_cases hlast : n.1 + 1 < 512
    · rw [nextRow, dif_pos hlast]
      exact ⟨hrows, rfl, fun _ => ⟨rfl, rfl, rfl⟩, fun h => absurd hlast (by omega)⟩
    · rw [nextRow, dif_neg hlast]
      obtain ⟨hsst, hraised, hframe⟩ := occur_store .storeSaved (by decide)
        { rowWritten n 0 false s with activity := .idle, corrected := 0, latch := false } s
      exact ⟨(congrArg Sst.rows hsst).trans hrows, congrArg Sst.bad hsst, fun h => absurd h hlast, fun _ =>
        ⟨congrArg Sst.activity hsst, congrArg Sst.latch hsst, congrArg Sst.corrected hsst, hraised, hframe⟩⟩
  · obtain ⟨hsst, hraised, hframe⟩ := occur_store .storeFault (by decide)
      { rowWritten n errors true s with latch := true, activity := .idle } s
    exact ⟨_, (exec_saveRowWritten_saving hn errors).trans (congrArg Host.Outcome.next (saveRow_bad n he s)),
      congrArg Sst.rows hsst, congrArg Sst.bad hsst, congrArg Sst.activity hsst, congrArg Sst.latch hsst,
      (congrArg Sst.corrected hsst).trans rfl, hraised, hframe⟩

end Sys2Proof.RowCode
end

section
/-!
The inbox (R177, R178, R185): a frame that waits, a frame dropped, and the end of a reply's transmission. The file settles
O49.
-/

namespace Sys2Proof.Inbox

open Sys2Proof.Machine Sys2Proof.Claims

/-! Arrival (R177). -/

theorem receive_waits (f : Frame) {s : State} (h : s.lnk.inbox.length = 1) : receive f s = arrive f s := by
  rw [receive, arriveAndServe, if_neg (by omega), if_pos (by omega)]

theorem receive_overrun (f : Frame) {s : State} (h : 2 ≤ s.lnk.inbox.length) : receive f s = overrunFrame s := by
  rw [receive, arriveAndServe, if_neg (by omega), if_neg (by omega)]

/-! The end of a transmission (R178, R185). -/

theorem exec_replyTransmitted {s : State} (h : s.asleep = false) : exec .replyTransmitted s = .next (replySent s) :=
  congrArg Host.Outcome.next (Resetting.whileAwake_of_awake h)

theorem isResetReply_iff (r : ReplyFrame) : isResetReply r = true ↔ r.kind = 0xBF ∧ r.code = .ok := by
  simp [isResetReply]

theorem replySent_none {s : State} (h : s.lnk.reply = none) : replySent s = s := by
  simp only [replySent, h]

theorem replySent_reset {s : State} {r : ReplyFrame} (h : s.lnk.reply = some r) (hr : isResetReply r = true) :
    replySent s = softReset s := by
  simp only [replySent, h, if_pos hr]

/-- The last frame leaves the inbox. -/
theorem replySent_last {s : State} {r : ReplyFrame} {f : Frame} (h : s.lnk.reply = some r)
    (hr : ¬ isResetReply r = true) (hinbox : s.lnk.inbox = [f]) :
    replySent s = s.withLnk { s.lnk with reply := none, inbox := [] } := by
  simp [replySent, h, if_neg hr, hinbox]

/-- A waiting frame is handled when its predecessor leaves. -/
theorem replySent_next {s : State} {r : ReplyFrame} {f g : Frame} (h : s.lnk.reply = some r)
    (hr : ¬ isResetReply r = true) (hinbox : s.lnk.inbox = [f, g]) :
    replySent s = serve g (handle g) (s.withLnk { s.lnk with reply := none, inbox := [g] }) := by
  simp [replySent, h, if_neg hr, hinbox]

/-- Settles O49: the arrival by the frames that wait, and the end of a reply's transmission by the reply. -/
theorem inboxServesInOrder : Obligations.InboxServesInOrder := by
  refine ⟨fun f s => ⟨fun h => receive_waits f h, fun h => ?_⟩, fun s hawake => ?_⟩
  · rw [receive_overrun f h]
    exact ⟨occur_source_same .linkFault _ (by decide), occur_frame .linkFault _⟩
  · rw [exec_replyTransmitted hawake]
    refine ⟨fun h => congrArg Host.Outcome.next (replySent_none h), fun r f h hr hinbox => congrArg Host.Outcome.next ?_,
      fun r f g h hr hinbox => congrArg Host.Outcome.next ?_, fun r h hkind hcode => ?_⟩
    · exact replySent_last h (mt (isResetReply_iff r).1 hr) hinbox
    · exact replySent_next h (mt (isResetReply_iff r).1 hr) hinbox
    · rw [replySent_reset h ((isResetReply_iff r).2 ⟨hkind, hcode⟩)]
      exact (congrArg Host.Outcome.next (Resetting.whileAwake_of_awake hawake)).symm

end Sys2Proof.Inbox
end

section
/-!
Numbers as bytes (R188): a number written low byte first is read back from its bytes, and a list of items of one length from
theirs.
-/

namespace Sys2Proof.Bytes

open Sys2Proof.Machine

/-! Numbers. -/

theorem length_bytesOf (n v : Nat) : (bytesOf n v).length = n := by
  induction n generalizing v with
  | zero => rfl
  | succ n ih => rw [bytesOf, List.length_cons, ih]

theorem numOf_bytesOf (n v : Nat) : numOf (bytesOf n v) = v % 256 ^ n := by
  induction n generalizing v with
  | zero => simp [bytesOf, numOf, Nat.mod_one]
  | succ n ih => rw [bytesOf, numOf, ih, BitVec.toNat_ofNat, Nat.pow_succ' (m := 256), Nat.mod_mul (a := 256)]

theorem ofNat_numOf_bytesOf {w n : Nat} (h : w = 8 * n) (v : BitVec w) : BitVec.ofNat w (numOf (bytesOf n v.toNat)) = v := by
  have hpow : 256 ^ n = 2 ^ w := by rw [h, Nat.pow_mul]
  rw [numOf_bytesOf, hpow, Nat.mod_eq_of_lt v.isLt, BitVec.ofNat_toNat, BitVec.setWidth_eq]

theorem ofNat_numOf_w16 (v : BitVec 16) : BitVec.ofNat 16 (numOf (w16 v)) = v := ofNat_numOf_bytesOf (n := 2) rfl v

theorem ofNat_numOf_w24 (v : BitVec 24) : BitVec.ofNat 24 (numOf (w24 v)) = v := ofNat_numOf_bytesOf (n := 3) rfl v

theorem ofNat_numOf_w32 (v : BitVec 32) : BitVec.ofNat 32 (numOf (w32 v)) = v := ofNat_numOf_bytesOf (n := 4) rfl v

/-! Items. -/

theorem length_flatMap_items {α : Type} {n : Nat} {enc : α → List Byte} (hlen : ∀ a, (enc a).length = n) (l : List α) :
    (l.flatMap enc).length = l.length * n := by
  simp [List.length_flatMap, hlen]

theorem items_flatMap {α : Type} {n : Nat} {enc : α → List Byte} {parse : List Byte → α} (hlen : ∀ a, (enc a).length = n)
    (hparse : ∀ a, parse (enc a) = a) (l : List α) : items n parse l.length (l.flatMap enc) = l := by
  induction l with
  | nil => rfl
  | cons a rest ih =>
    rw [List.length_cons, List.flatMap_cons, items, List.take_left' (hlen a), List.drop_left' (hlen a), hparse, ih]

/-- A list of items behind a fixed part passes the length check, which counts them. -/
theorem listLen_items {α : Type} {n : Nat} {enc : α → List Byte} (hn : 0 < n) (hlen : ∀ a, (enc a).length = n)
    (pre : List Byte) (l : List α) (i : Nat → Instr) : listLen pre.length n (pre ++ l.flatMap enc) i = .ok (i l.length) := by
  have hitems : (pre ++ l.flatMap enc).length - pre.length = l.length * n := by
    rw [List.length_append, Nat.add_sub_cancel_left, length_flatMap_items hlen]
  rw [listLen, hitems, Nat.mul_mod_left, Nat.mul_div_cancel _ hn]
  exact if_pos ⟨by simp, rfl⟩

/-! Records. -/

theorem targetOf_targetBytes (p : Byte × BitVec 16) : targetOf (targetBytes p) = p :=
  congrArg (Prod.mk p.1) (ofNat_numOf_w16 p.2)

theorem paramOf_paramBytes (p : Byte × BitVec 32) : paramOf (paramBytes p) = p :=
  congrArg (Prod.mk p.1) (ofNat_numOf_w32 p.2)

theorem slotRecOf_slotRecBytes (r : SlotRec) : slotRecOf (slotRecBytes r) = r := by
  have h : slotRecOf (slotRecBytes r) =
      ⟨r.channel, BitVec.ofNat 24 (numOf (w24 r.aMin)), BitVec.ofNat 24 (numOf (w24 r.refLimit))⟩ := rfl
  rw [h, ofNat_numOf_w24, ofNat_numOf_w24]

theorem filterRecOf_filterRecBytes (r : FilterRec) : filterRecOf (filterRecBytes r) = r := by
  have h : filterRecOf (filterRecBytes r) = ⟨r.stage, BitVec.ofNat 16 (numOf (w16 r.b0)), BitVec.ofNat 16 (numOf (w16 r.b1)),
    BitVec.ofNat 16 (numOf (w16 r.b2)), BitVec.ofNat 16 (numOf (w16 r.a1)), BitVec.ofNat 16 (numOf (w16 r.a2))⟩ := rfl
  rw [h, ofNat_numOf_w16, ofNat_numOf_w16, ofNat_numOf_w16, ofNat_numOf_w16, ofNat_numOf_w16]

theorem trimRecOf_trimRecBytes (r : TrimRec) : trimRecOf (trimRecBytes r) = r := by
  have h : trimRecOf (trimRecBytes r) =
      ⟨r.channel, BitVec.ofNat 16 (numOf (w16 r.offset)), BitVec.ofNat 16 (numOf (w16 r.gain)), r.invert⟩ := rfl
  rw [h, ofNat_numOf_w16, ofNat_numOf_w16]

/-- The byte of kind, fallback and valid of a response record. -/
theorem responseByte_kind (kind : BitVec 3) (fallback valid : Bool) :
    let b : Byte := kind.setWidth 8 ||| (byteOfBool fallback <<< 3) ||| (byteOfBool valid <<< 7)
    b.setWidth 3 = kind ∧ b.getLsbD 3 = fallback ∧ b.getLsbD 7 = valid := by
  revert kind fallback valid
  decide

/-- The byte of the bands. -/
theorem responseByte_bands (lo hi : BitVec 3) :
    let b : Byte := lo.setWidth 8 ||| (hi.setWidth 8 <<< 4)
    b.setWidth 3 = lo ∧ (b >>> 4).setWidth 3 = hi := by
  revert lo hi
  decide

/-- The byte of action, on_expiry and mode. -/
theorem responseByte_action (action mode : BitVec 2) (onExpiry : Bool) :
    let b : Byte := action.setWidth 8 ||| (byteOfBool onExpiry <<< 2) ||| (mode.setWidth 8 <<< 4)
    b.setWidth 2 = action ∧ b.getLsbD 2 = onExpiry ∧ (b >>> 4).setWidth 2 = mode := by
  revert action mode onExpiry
  decide

theorem length_responseRecBytes (r : ResponseRec) : (responseRecBytes r).length = 13 := rfl

theorem responseRecOf_responseRecBytes (r : ResponseRec) : responseRecOf (responseRecBytes r) = r := by
  obtain ⟨hkind, hfallback, hvalid⟩ := responseByte_kind r.kind r.fallback r.valid
  obtain ⟨hlo, hhi⟩ := responseByte_bands r.bandLo r.bandHi
  obtain ⟨haction, hexpiry, hmode⟩ := responseByte_action r.action r.mode r.onExpiry
  have hlimit := ofNat_numOf_w16 r.iLimit
  have hfloor := ofNat_numOf_w16 r.alphaFloor
  have hhold := ofNat_numOf_w16 r.holdMs
  have hrestart := ofNat_numOf_w16 r.restartAlpha
  have hramp := ofNat_numOf_w16 r.rampMs
  cases r
  exact ResponseRec.mk.injEq .. |>.mpr
    ⟨hkind, hfallback, hvalid, hlo, hhi, haction, hexpiry, hmode, hlimit, hfloor, hhold, hrestart, hramp⟩

end Sys2Proof.Bytes
end

section
/-!
Requests as frames (R180, R187, R188) and a frame's bytes on a free link (R175 to R178): every request is read back from its
frame, the frames that the link unit refuses, and the receiver's way through a frame. The file settles O50 and O51.
-/

namespace Sys2Proof.RequestFrames

open Sys2Proof.Machine Sys2Proof.Claims Sys2Proof.Requests Sys2Proof.Bytes

/-! The payloads that are lists. -/

/-- A payload of items, counted and read. -/
theorem listLen_read {α : Type} {n : Nat} {enc : α → List Byte} {parse : List Byte → α} (hn : 0 < n)
    (hlen : ∀ a, (enc a).length = n) (hparse : ∀ a, parse (enc a) = a) (l : List α) (i : List α → Instr) :
    listLen 0 n (l.flatMap enc) (fun k => i (items n parse k (l.flatMap enc))) = .ok (i l) := by
  refine (listLen_items hn hlen [] l _).trans ?_
  rw [items_flatMap hlen hparse]

/-- The same behind one byte. -/
theorem listLen_read_cons {α : Type} {n : Nat} {enc : α → List Byte} {parse : List Byte → α} (hn : 0 < n)
    (hlen : ∀ a, (enc a).length = n) (hparse : ∀ a, parse (enc a) = a) (b : Byte) (l : List α) (i : List α → Instr) :
    listLen 1 n (b :: l.flatMap enc) (fun k => i (items n parse k (l.flatMap enc))) = .ok (i l) := by
  refine (listLen_items hn hlen [b] l _).trans ?_
  rw [items_flatMap hlen hparse]

/-- Every request of the table is read back from its frame. -/
theorem decodeRequest_frameOf {i : Instr} {f : Frame} (hf : frameOf i = some f) (hi : ∀ k t p, i ≠ .unknownKind k t p) :
    decodeRequest f = .ok i := by
  cases i
  case unknownKind k t p => exact absurd rfl (hi k t p)
  case setTargets tag l =>
    cases hf
    exact listLen_read (enc := targetBytes) (Nat.succ_pos _) (fun _ => rfl) targetOf_targetBytes l (.setTargets tag)
  case setParam tag l =>
    cases hf
    exact listLen_read (enc := paramBytes) (Nat.succ_pos _) (fun _ => rfl) paramOf_paramBytes l (.setParam tag)
  case writeSlots tag first l =>
    cases hf
    exact listLen_read_cons (enc := slotRecBytes) (Nat.succ_pos _) (fun _ => rfl) slotRecOf_slotRecBytes first l (.writeSlots tag first)
  case writeResponses tag first l =>
    cases hf
    exact listLen_read_cons (Nat.succ_pos _) length_responseRecBytes responseRecOf_responseRecBytes first l
      (.writeResponses tag first)
  case writeFilter tag l =>
    cases hf
    exact listLen_read (enc := filterRecBytes) (Nat.succ_pos _) (fun _ => rfl) filterRecOf_filterRecBytes l (.writeFilter tag)
  case writeTrim tag l =>
    cases hf
    exact listLen_read (enc := trimRecBytes) (Nat.succ_pos _) (fun _ => rfl) trimRecOf_trimRecBytes l (.writeTrim tag)
  case setNoticeLevels tag l =>
    cases hf
    exact listLen_read (enc := levelBytes) (parse := levelOf) (Nat.succ_pos _) (fun _ => rfl) (fun _ => rfl) l (.setNoticeLevels tag)
  case clearMarks tag mask =>
    cases hf
    exact congrArg (fun m => Except.ok (Instr.clearMarks tag m)) (ofNat_numOf_w32 mask)
  case setNoticeEnableAssign tag mask =>
    cases hf
    exact congrArg (fun m => Except.ok (Instr.setNoticeEnableAssign tag m)) (ofNat_numOf_w24 mask)
  case setNoticeEnableSet tag mask =>
    cases hf
    exact congrArg (fun m => Except.ok (Instr.setNoticeEnableSet tag m)) (ofNat_numOf_w24 mask)
  case setNoticeEnableClear tag mask =>
    cases hf
    exact congrArg (fun m => Except.ok (Instr.setNoticeEnableClear tag m)) (ofNat_numOf_w24 mask)
  case setWatch tag unit signal threshold direction mode =>
    cases hf
    exact congrArg (fun v => Except.ok (Instr.setWatch tag unit signal v direction mode)) (ofNat_numOf_w32 threshold)
  case traceControlSetMask tag mask =>
    cases hf
    exact congrArg (fun m => Except.ok (Instr.traceControlSetMask tag m)) (ofNat_numOf_w24 mask)
  case readTrace tag first count =>
    cases hf
    exact congrArg (fun v => Except.ok (Instr.readTrace tag v count)) (ofNat_numOf_w16 first)
  all_goals cases hf <;> rfl

/-! Frames refused (R180). -/

theorem decodeRequest_fixed {k : Byte} {n : Nat} (h : (k, n) ∈ [((0x01 : Byte), 0), (0x02, 0), (0x03, 0), (0x08, 0), (0x09, 1),
      (0x0A, 0), (0x19, 2), (0x1B, 2), (0x1C, 4), (0x21, 0), (0x22, 1), (0x24, 2), (0x28, 2), (0x30, 0), (0x32, 4), (0x34, 8),
      (0x35, 1), (0x39, 3), (0x3C, 0), (0x3D, 0), (0x3E, 0), (0x3F, 0)]) (t : Byte) {p : List Byte} (hp : p.length ≠ n) :
    decodeRequest ⟨k, t, p⟩ = .error .length := by
  generalize hkn : (k, n) = kn at h
  fin_cases h <;> cases hkn <;> exact if_neg hp

theorem decodeRequest_list {k : Byte} {first item : Nat} (h : (k, first, item) ∈ [((0x10 : Byte), 0, 3), (0x12, 0, 5),
      (0x18, 1, 7), (0x1A, 1, 13), (0x20, 0, 11), (0x23, 0, 6), (0x33, 0, 2)]) (t : Byte) {p : List Byte}
    (hp : ¬ (first ≤ p.length ∧ (p.length - first) % item = 0)) : decodeRequest ⟨k, t, p⟩ = .error .length := by
  generalize hkn : (k, first, item) = kn at h
  fin_cases h <;> cases hkn <;> exact if_neg hp

/-- TRACE_CONTROL by its mode byte (R169). -/
theorem readTraceControl_refused (t m : Byte) (rest : List Byte) :
    readTraceControl t [] = .error .length
    ∧ (m.toNat ≤ 2 → rest ≠ [] → readTraceControl t (m :: rest) = .error .length)
    ∧ (m.toNat = 3 → rest.length ≠ 3 → readTraceControl t (m :: rest) = .error .length)
    ∧ (3 < m.toNat → rest.length ≠ 0 → rest.length ≠ 3 → readTraceControl t (m :: rest) = .error .length)
    ∧ (3 < m.toNat → (rest.length = 0 ∨ rest.length = 3) → readTraceControl t (m :: rest) = .error .range) := by
  refine ⟨rfl, fun hm hrest => ?_, fun hm hrest => ?_, fun hm h0 h3 => ?_, fun hm hrest => ?_⟩
  · rw [readTraceControl]
    split
    case h_1 | h_2 | h_3 => exact if_neg hrest
    case h_4 h => omega
    case h_5 h0 h1 h2 _ =>
      simp only [imp_false] at h0 h1 h2
      omega
  · rw [readTraceControl]
    split
    case h_4 => exact if_neg hrest
    case h_5 h => exact absurd hm h
    all_goals omega
  · rw [readTraceControl]
    split
    case h_5 => exact if_neg (not_or.2 ⟨h0, h3⟩)
    all_goals omega
  · rw [readTraceControl]
    split
    case h_5 => exact if_pos hrest
    all_goals omega

theorem handle_refused {f : Frame} {c : ResultCode} (h : decodeRequest f = .error c) (s : State) :
    handle f s = (s, .refuse c) := by
  rw [handle, h]

/-- Settles O50: requests by the constructor, refused frames by the check that refuses them. -/
theorem requestFramesRoundTrip : Obligations.RequestFramesRoundTrip := by
  exact ⟨fun i f _ hf hi => decodeRequest_frameOf hf hi, fun k t p hk => PlainRequests.decodeRequest_kind hk t p,
    fun k n hkn t p hp => decodeRequest_fixed hkn t hp, fun k first item hk t p hp => decodeRequest_list hk t hp,
    fun t m rest => readTraceControl_refused t m rest, fun f s c h => handle_refused h s⟩

/-! A frame's bytes (R175, R176). -/

/-- The receiver in a state, with the bytes that it holds. -/
def receiving (rx : RxState) (held : List Byte) (s : State) : State := s.withLnk { s.lnk with rx := rx, partialFrame := held }

theorem receiving_receiving (rx rx' : RxState) (held held' : List Byte) (s : State) :
    receiving rx held (receiving rx' held' s) = receiving rx held s := rfl

theorem receiving_self {s : State} (hrx : s.lnk.rx = .hunt) (hheld : s.lnk.partialFrame = []) : receiving .hunt [] s = s := by
  have hlnk : { s.lnk with rx := .hunt, partialFrame := [] } = s.lnk := by rw [← hrx, ← hheld]
  rw [receiving, hlnk]
  exact LoadEnd.withLnk_self s

theorem takeByte_receiving_body (b : Byte) {held : List Byte} (h : held ≠ []) (s : State) :
    takeByte b (receiving .body held s) =
      receiving (if held.length = (held.headD 0).toNat then .crc else .body) (held ++ [b]) s :=
  Receiver.takeByte_body_held (s := receiving .body held s) b rfl h

/-- The bytes behind the length byte: the last of them takes the receiver to the CRC. -/
theorem takeBytes_body (s : State) : ∀ (bs held : List Byte), bs ≠ [] → held ≠ [] →
    held.length + bs.length = (held.headD 0).toNat + 1 →
    bs.foldl (fun u b => takeByte b u) (receiving .body held s) = receiving .crc (held ++ bs) s
  | [], _, hbs, _, _ => absurd rfl hbs
  | [b], held, _, hheld, hlen => by
    have hlast : held.length = (held.headD 0).toNat := Nat.succ_inj.1 hlen
    rw [List.foldl_cons, List.foldl_nil, takeByte_receiving_body b hheld, if_pos hlast]
  | b :: c :: rest, held, _, hheld, hlen => by
    have hmore : held.length ≠ (held.headD 0).toNat := by
      simp only [List.length_cons] at hlen
      omega
    have hrest : (held ++ [b]).length + (c :: rest).length = ((held ++ [b]).headD 0).toNat + 1 := by
      rw [Receiver.headD_append hheld, ← hlen]
      simp only [List.length_append, List.length_cons, List.length_nil]
      omega
    rw [List.foldl_cons, takeByte_receiving_body b hheld, if_neg hmore, takeBytes_body s (c :: rest) (held ++ [b]) (by simp)
      (by simp) hrest, List.append_assoc, List.singleton_append]

/-- The bytes of a frame behind its marker, without the CRC. -/
def body (f : Frame) : List Byte := BitVec.ofNat 8 (2 + f.payload.length) :: f.kind :: f.tag :: f.payload

theorem wire_eq (f : Frame) : f.wire = 0xC3 :: (body f ++ w16 (crc (body f))) := rfl

theorem toNat_length_byte {f : Frame} (h : f.payload.length ≤ 238) :
    (BitVec.ofNat 8 (2 + f.payload.length)).toNat = 2 + f.payload.length := by
  rw [BitVec.toNat_ofNat, Nat.mod_eq_of_lt (by omega)]

/-- The marker and a frame's bytes bring a receiver in HUNT to the CRC. -/
theorem takeBytes_whole {f : Frame} (h : f.payload.length ≤ 238) {s : State} (hrx : s.lnk.rx = .hunt) :
    (0xC3 :: body f).foldl (fun u b => takeByte b u) s = receiving .crc (body f) s := by
  have hl := toNat_length_byte h
  have hmarker : takeByte 0xC3 s = receiving .length [] s := (Receiver.takeByte_hunt 0xC3 hrx).trans (if_pos rfl)
  have hlength : takeByte (BitVec.ofNat 8 (2 + f.payload.length)) (receiving .length [] s) =
      receiving .body [BitVec.ofNat 8 (2 + f.payload.length)] s :=
    (Receiver.takeByte_length (s := receiving .length [] s) _ rfl).trans (if_pos ⟨by omega, by omega⟩)
  rw [body, List.foldl_cons, hmarker, List.foldl_cons, hlength]
  exact takeBytes_body s (f.kind :: f.tag :: f.payload) [_] (by simp) (by simp) (by
    rw [List.headD_cons, hl]
    simp only [List.length_cons, List.length_nil]
    omega)

/-- The two bytes of the CRC, low byte first. -/
theorem w16_eq (v : BitVec 16) : w16 v = [BitVec.ofNat 8 v.toNat, BitVec.ofNat 8 (v.toNat / 256)] := rfl

/-- The CRC hands an intact frame to the inbox. -/
theorem takeBytes_crc {f : Frame} (h : f.payload.length ≤ 238) (s : State) :
    (w16 (crc (body f))).foldl (fun u b => takeByte b u) (receiving .crc (body f) s) =
      receive f (receiving .hunt [] s) := by
  have hl := toNat_length_byte h
  generalize hc : crc (body f) = c
  have hlen : (body f).length = ((body f).headD 0).toNat + 1 := by
    simp only [body, List.headD_cons, hl, List.length_cons]
    omega
  have hfirst : takeByte (BitVec.ofNat 8 c.toNat) (receiving .crc (body f) s) =
      receiving .crc (body f ++ [BitVec.ofNat 8 c.toNat]) s :=
    (Receiver.takeByte_crc (s := receiving .crc (body f) s) _ rfl).trans (if_pos (by
      rw [Receiver.byteAt_zero]
      exact hlen))
  have hheld : (body f ++ [BitVec.ofNat 8 c.toNat]).length =
      ((body f ++ [BitVec.ofNat 8 c.toNat]).headD 0).toNat + 2 := by
    rw [Receiver.headD_append (by simp [body]), List.length_append, hlen]
    rfl
  have hintact : intact (body f ++ [BitVec.ofNat 8 c.toNat]) (BitVec.ofNat 8 (c.toNat / 256)) = true := by
    rw [Receiver.intact_iff hheld, List.length_append, List.length_singleton, Nat.add_sub_cancel, List.take_left, hc]
    simp
    omega
  have hframe : heldFrame (body f ++ [BitVec.ofNat 8 c.toNat]) = f := by
    rw [Receiver.heldFrame_eq]
    simp [body, hl]
  rw [w16_eq, List.foldl_cons, hfirst, List.foldl_cons, List.foldl_nil]
  refine (Receiver.takeByte_crc_second (s := receiving .crc (body f ++ [BitVec.ofNat 8 c.toNat]) s) _ rfl hheld).trans ?_
  exact (if_pos hintact).trans (congrArg (fun g => receive g (receiving .hunt [] s)) hframe)

/-- A frame's bytes are the frame at the inbox. -/
theorem takeBytes_wire {f : Frame} (h : f.payload.length ≤ 238) {s : State} (hrx : s.lnk.rx = .hunt)
    (hheld : s.lnk.partialFrame = []) : f.wire.foldl (fun u b => takeByte b u) s = receive f s := by
  rw [wire_eq, ← List.cons_append, List.foldl_append, takeBytes_whole h hrx, takeBytes_crc h, receiving_self hrx hheld]

/-! A request on a free link. -/

/-- A request is what its frame is handled as. -/
theorem exec_request {i : Instr} {f : Frame} (hf : frameOf i = some f) (s : State) :
    exec i s = .next (request (some f) (handle f) s) := by
  by_cases hi : ∃ k t p, i = .unknownKind k t p
  · obtain ⟨k, t, p, rfl⟩ := hi
    cases hf
    rfl
  · have hperform : handle f = perform i := by
      funext t
      rw [handle, decodeRequest_frameOf hf fun k t p h => hi ⟨k, t, p, h⟩]
    rw [hperform, ← hf]
    cases i
    case unknownKind k t p => exact absurd ⟨k, t, p, rfl⟩ hi
    all_goals first | rfl | cases hf

theorem request_receive (f : Frame) {s : State} (hs : Free s) : request (some f) (handle f) s = receive f s := by
  obtain ⟨hawake, hinbox, -⟩ := hs
  rw [request_free f (handle f) s hawake hinbox, receive, arriveAndServe, hinbox]
  rfl

/-- Settles O51: the frame's bytes hand the frame to the inbox, which is what the request's command does. -/
theorem frameBytesDoTheRequest : Obligations.FrameBytesDoTheRequest := by
  intro i f s hw hf hs hrx hheld
  have hfits : f.payload.length ≤ 238 := Laws.RequestKind.fits i f hw hf
  exact ⟨receive f s, by rw [exec_request hf, request_receive f hs], takeBytes_wire hfits hrx hheld⟩

end Sys2Proof.RequestFrames
end

section
/-!
SET_TARGETS and SET_PARAM (R55, R56, R69, R92, R117, R152, R161, R183): the lists checked as a whole or pair by pair, and what
they leave. The file settles O42, O43 and O44.
-/

namespace Sys2Proof.ListWrites

open Sys2Proof.Machine Sys2Proof.Claims Sys2Proof.Requests

theorem free_withCrg {s : State} (h : Free s) (v : Crg) : Free (s.withCrg v) := h

/-! SET_TARGETS (R55). -/

/-- The checks of SET_TARGETS on its list. -/
def TargetsGood (l : List (Byte × BitVec 16)) : Prop := l ≠ [] ∧ l.length ≤ 4 ∧ ∀ p ∈ l, p.1.toNat ≤ 3

theorem exec_setTargets (tag : Byte) (l : List (Byte × BitVec 16)) (s : State) :
    exec (.setTargets tag l) s = .next (request (some ⟨0x10, tag, l.flatMap targetBytes⟩) (takeSetTargets l) s) := rfl

theorem targetsFault_iff (l : List (Byte × BitVec 16)) :
    (l = [] ∨ 4 < l.length ∨ l.any (fun p => decide (3 < p.1.toNat)) = true) ↔ ¬ TargetsGood l := by
  simp [TargetsGood, not_and_or, -not_and]

theorem takeSetTargets_range {l : List (Byte × BitVec 16)} (h : ¬ TargetsGood l) (s : State) :
    takeSetTargets l s = (s, .refuse .range) := if_pos ((targetsFault_iff l).mpr h)

theorem takeSetTargets_state {l : List (Byte × BitVec 16)} (h : TargetsGood l) {s : State}
    (hs : s.rct.state = .stopping ∨ s.rct.state = .halt) : takeSetTargets l s = (s, .refuse .state) :=
  (if_neg fun hfault => (targetsFault_iff l).mp hfault h).trans (if_pos hs)

theorem takeSetTargets_ok {l : List (Byte × BitVec 16)} (h : TargetsGood l) {s : State}
    (hs : ¬ (s.rct.state = .stopping ∨ s.rct.state = .halt)) :
    takeSetTargets l s = (putTargets l s, .reply (if ∃ p ∈ l, s.parN .iMax < p.2.toNat then .clamped else .ok) []) := by
  refine (if_neg fun hfault => (targetsFault_iff l).mp hfault h).trans ((if_neg hs).trans ?_)
  simp only [List.any_eq_true, decide_eq_true_eq]

/-- The bridges after a list of targets. -/
def targetsAfter (limit : Nat) : List (Byte × BitVec 16) → Tab Bridge 4 → Tab Bridge 4
  | [], t => t
  | p :: rest, t =>
    targetsAfter limit rest (t.modify (Fin.ofNat 4 p.1.toNat) fun b => { b with target := min p.2.toNat limit })

theorem putTargets_eq (l : List (Byte × BitVec 16)) (s : State) :
    putTargets l s = s.withCrg ⟨targetsAfter (s.parN .iMax) l s.crg.bridges⟩ := by
  induction l generalizing s with
  | nil => rfl
  | cons p rest ih => exact ih (putTarget p s)

/-- Each bridge takes the value of the last pair that names it. -/
theorem targetsAfter_get (limit : Nat) {l : List (Byte × BitVec 16)} (h : ∀ p ∈ l, p.1.toNat ≤ 3) (t : Tab Bridge 4)
    (b : Fin 4) : (targetsAfter limit l t).get b = { t.get b with
      target := match l.reverse.find? (fun p => p.1.toNat == b.1) with
        | some p => min p.2.toNat limit
        | none => (t.get b).target } := by
  induction l generalizing t with
  | nil => rfl
  | cons p rest ih =>
    obtain ⟨hp, hrest⟩ := List.forall_mem_cons.mp h
    have hplace : Fin.ofNat 4 p.1.toNat = b ↔ p.1.toNat = b.1 := by
      rw [Fin.ext_iff, Fin.val_ofNat, Nat.mod_eq_of_lt (by omega)]
    rw [targetsAfter, ih hrest, List.reverse_cons, List.find?_append, NoticeRequests.get_modify]
    by_cases hb : p.1.toNat = b.1
    · rw [if_pos (hplace.2 hb)]
      cases rest.reverse.find? (fun q => q.1.toNat == b.1) with
      | some q => rfl
      | none => simp [hb]
    · rw [if_neg (mt hplace.1 hb)]
      cases rest.reverse.find? (fun q => q.1.toNat == b.1) with
      | some q => rfl
      | none => simp [hb]

/-- Settles O42: the owner's checks in their order, then the list, written in its order. -/
theorem targetsTakeLastPair : Obligations.TargetsTakeLastPair := by
  intro tag l s hs
  refine ⟨fun hbad => ?_, fun hgood hstate => ?_, fun hgood hstop hhalt => ⟨⟨targetsAfter (s.parN .iMax) l s.crg.bridges⟩, ?_,
    fun b => ?_⟩⟩
  · exact exec_answered (exec_setTargets tag l s) hs hs (takeSetTargets_range hbad _)
  · exact exec_answered (exec_setTargets tag l s) hs hs (takeSetTargets_state hgood hstate)
  · have hrun : ¬ (s.rct.state = .stopping ∨ s.rct.state = .halt) := not_or.2 ⟨hstop, hhalt⟩
    refine exec_answered (exec_setTargets tag l s) hs (free_withCrg hs ⟨targetsAfter (s.parN .iMax) l s.crg.bridges⟩) ?_
    rw [takeSetTargets_ok (s := arrive _ s) hgood hrun, putTargets_eq]
    rfl
  · obtain ⟨-, -, hplaces⟩ := hgood
    exact targetsAfter_get (s.parN .iMax) hplaces s.crg.bridges b

/-! A parameter written (R56, R92, R161). -/

theorem code_injective {p q : ParamId} (h : p.info.code = q.info.code) : p = q := by
  have hnodup : (ParamId.all.map fun p => p.info.code).Nodup := by decide
  exact List.inj_on_of_nodup_map hnodup (RangedReads.mem_all_params p) (RangedReads.mem_all_params q) h

theorem ofCode?_code (p : ParamId) : ParamId.ofCode? p.info.code = some p := by
  obtain ⟨q, hq⟩ : ∃ q, ParamId.ofCode? p.info.code = some q :=
    Option.isSome_iff_exists.1 (List.find?_isSome.2 ⟨p, RangedReads.mem_all_params p, beq_self_eq_true _⟩)
  have hcode : q.info.code = p.info.code := beq_iff_eq.1 (List.find?_some (p := fun r : ParamId => r.info.code == p.info.code) hq)
  rw [hq, code_injective hcode]

theorem writePar_other {p : ParamId} (hmax : p ≠ .iMax) (hmis : p ≠ .misfireLimit) (hfloor : p ≠ .alertFloor) (v : Int)
    (s : State) : writePar p v s = s.withPar p v := by
  rw [writePar]
  all_goals assumption

theorem writePar_changes (p : ParamId) (v : Int) (s : State) :
    (writePar p v s).params = s.params.set p.place v
    ∧ writePar p v s = { s with params := (writePar p v s).params, crg := (writePar p v s).crg, fls := (writePar p v s).fls
                                ntu := (writePar p v s).ntu }
    ∧ (p ≠ .iMax → (writePar p v s).crg = s.crg) ∧ (p ≠ .misfireLimit → (writePar p v s).fls = s.fls)
    ∧ (p ≠ .alertFloor → (writePar p v s).ntu = s.ntu) := by
  unfold writePar
  split
  · exact ⟨rfl, rfl, fun h => absurd rfl h, fun _ => rfl, fun _ => rfl⟩
  · exact ⟨rfl, rfl, fun _ => rfl, fun h => absurd rfl h, fun _ => rfl⟩
  · exact ⟨rfl, rfl, fun _ => rfl, fun _ => rfl, fun h => absurd rfl h⟩
  · exact ⟨rfl, rfl, fun _ => rfl, fun _ => rfl, fun _ => rfl⟩

/-- The arrival of the request and the write do not meet. -/
theorem writePar_arrive (p : ParamId) (v : Int) (f : Frame) (s : State) :
    writePar p v (arrive f s) = arrive f (writePar p v s) := by
  unfold writePar
  split <;> rfl

theorem free_writePar (p : ParamId) (v : Int) {s : State} (hs : Free s) : Free (writePar p v s) := by
  unfold writePar
  split <;> exact hs

/-! A pair of SET_PARAM (R183). -/

theorem putParam_arrive (q : Byte × BitVec 32) (f : Frame) (s : State) :
    putParam q (arrive f s) = (putParam q s).map (arrive f) := by
  have hfault (p : ParamId) : paramFault (arrive f s) p q.2.toInt = paramFault s p q.2.toInt := rfl
  unfold putParam
  cases ParamId.ofCode? q.1.toNat with
  | none => rfl
  | some p =>
    simp only [hfault]
    cases paramFault s p q.2.toInt with
    | some c => rfl
    | none => exact congrArg Except.ok (writePar_arrive p _ f s)

theorem free_putParam {q : Byte × BitVec 32} {s t : State} (hs : Free s) (h : putParam q s = .ok t) : Free t := by
  unfold putParam at h
  split at h
  · cases h
  · split at h
    · cases h
    · cases h
      exact free_writePar _ _ hs

theorem putParam_unknown {id : Byte} (h : ∀ p : ParamId, p.info.code ≠ id.toNat) (v : BitVec 32) (s : State) :
    putParam (id, v) s = .error .range := by
  have hnone : ParamId.ofCode? id.toNat = none := List.find?_eq_none.2 fun p _ => by simpa using h p
  simp only [putParam, hnone]

theorem putParam_fault {id : Byte} {p : ParamId} (h : p.info.code = id.toNat) {v : BitVec 32} {s : State} {c : ResultCode}
    (hc : paramFault s p v.toInt = some c) : putParam (id, v) s = .error c := by
  have hsome : ParamId.ofCode? id.toNat = some p := h ▸ ofCode?_code p
  simp only [putParam, hsome, hc]

theorem putParam_written {id : Byte} {p : ParamId} (h : p.info.code = id.toNat) {v : BitVec 32} {s : State}
    (hc : paramFault s p v.toInt = none) : putParam (id, v) s = .ok (writePar p v.toInt s) := by
  have hsome : ParamId.ofCode? id.toNat = some p := h ▸ ofCode?_code p
  simp only [putParam, hsome, hc]

theorem paramFault_range {s : State} {p : ParamId} {v : Int} (h : p.inRange v = false) : paramFault s p v = some .range :=
  if_pos (by simp [h])

theorem paramFault_state {s : State} {p : ParamId} {v : Int} (h : p.inRange v = true) (hp : p.info.standbyOnly = true)
    (hs : s.rct.state ≠ .standby) : paramFault s p v = some .state :=
  (if_neg (by simp [h])).trans (if_pos ⟨hp, hs⟩)

theorem paramFault_cross {s : State} {p : ParamId} {v : Int} (h : p.inRange v = true)
    (hs : p.info.standbyOnly = true → s.rct.state = .standby) :
    paramFault s p v = if crossCheck s p v then none else some .config := by
  have hstandby : ¬ (p.info.standbyOnly = true ∧ s.rct.state ≠ .standby) := fun hboth => hboth.2 (hs hboth.1)
  refine (if_neg (by simp [h])).trans ((if_neg hstandby).trans ?_)
  cases crossCheck s p v <;> rfl

/-! SET_PARAM (R183). -/

theorem exec_setParam (tag : Byte) (l : List (Byte × BitVec 32)) (s : State) :
    exec (.setParam tag l) s = .next (request (some ⟨0x12, tag, l.flatMap paramBytes⟩) (takeSetParam l) s) := rfl

theorem takeSetParam_range {l : List (Byte × BitVec 32)} (h : l = [] ∨ 32 < l.length) (s : State) :
    takeSetParam l s = (s, .refuse .range) := if_pos h

theorem takeSetParam_busy {l : List (Byte × BitVec 32)} (hne : l ≠ []) (hlen : l.length ≤ 32) {s : State}
    (hsave : s.saving = true) : takeSetParam l s = (s, .refuse .busy) :=
  (if_neg (not_or.2 ⟨hne, hlen.not_gt⟩)).trans (if_pos hsave)

theorem takeSetParam_taken {l : List (Byte × BitVec 32)} (hne : l ≠ []) (hlen : l.length ≤ 32) {s : State}
    (hsave : s.saving = false) :
    takeSetParam l s = ((putParams l s).1, paramAnswer (putParams l s).2.1 (putParams l s).2.2) :=
  (if_neg (not_or.2 ⟨hne, hlen.not_gt⟩)).trans (if_neg (by simp [hsave]))

/-- The pairs written one after another, until one fails. -/
def written (l : List (Byte × BitVec 32)) (s : State) : Except ResultCode State := l.foldlM (fun u x => putParam x u) s

theorem written_cons {q : Byte × BitVec 32} {l : List (Byte × BitVec 32)} {s t : State} (h : written (q :: l) s = .ok t) :
    ∃ u, putParam q s = .ok u ∧ written l u = .ok t := by
  rw [written, List.foldlM_cons] at h
  cases hq : putParam q s with
  | error c => rw [hq] at h; cases h
  | ok u => rw [hq] at h; exact ⟨u, rfl, h⟩

theorem written_arrive {l : List (Byte × BitVec 32)} (f : Frame) {s t : State} (h : written l s = .ok t) :
    written l (arrive f s) = .ok (arrive f t) := by
  induction l generalizing s with
  | nil => cases h; rfl
  | cons q rest ih =>
    obtain ⟨u, hq, hrest⟩ := written_cons h
    rw [written, List.foldlM_cons, putParam_arrive, hq]
    exact ih hrest

theorem free_written {l : List (Byte × BitVec 32)} {s t : State} (hs : Free s) (h : written l s = .ok t) : Free t := by
  induction l generalizing s with
  | nil => cases h; exact hs
  | cons q rest ih =>
    obtain ⟨u, hq, hrest⟩ := written_cons h
    exact ih (free_putParam hs hq) hrest

theorem putParams_written {l : List (Byte × BitVec 32)} {s t : State} (h : written l s = .ok t) :
    putParams l s = (t, l.length, none) := by
  induction l generalizing s with
  | nil => cases h; rfl
  | cons q rest ih =>
    obtain ⟨u, hq, hrest⟩ := written_cons h
    simp only [putParams, hq, ih hrest, List.length_cons]

theorem putParams_stopped {pre post : List (Byte × BitVec 32)} {q : Byte × BitVec 32} {s t : State} {c : ResultCode}
    (h : written pre s = .ok t) (hq : putParam q t = .error c) :
    putParams (pre ++ q :: post) s = (t, pre.length, some (c, q.1)) := by
  induction pre generalizing s with
  | nil => cases h; simp only [List.nil_append, putParams, hq, List.length_nil]
  | cons r rest ih =>
    obtain ⟨u, hr, hrest⟩ := written_cons h
    simp only [List.cons_append, putParams, hr, ih hrest, List.length_cons]

/-- SET_PARAM whose pairs are all written. -/
theorem exec_setParam_written (tag : Byte) {l : List (Byte × BitVec 32)} (hne : l ≠ []) (hlen : l.length ≤ 32) {s t : State}
    (hs : Free s) (hsave : s.saving = false) (h : written l s = .ok t) :
    exec (.setParam tag l) s = .next (answered ⟨0x12, tag, l.flatMap paramBytes⟩ .ok [] t) := by
  refine exec_answered (exec_setParam tag l s) hs (free_written hs h) ?_
  rw [takeSetParam_taken (s := arrive _ s) hne hlen hsave, putParams_written (written_arrive _ h)]
  rfl

/-- SET_PARAM that stops at a pair. -/
theorem exec_setParam_stopped (tag : Byte) {pre post : List (Byte × BitVec 32)} {q : Byte × BitVec 32}
    (hlen : (pre ++ q :: post).length ≤ 32) {s t : State} {c : ResultCode} (hs : Free s) (hsave : s.saving = false)
    (h : written pre s = .ok t) (hq : putParam q t = .error c) :
    exec (.setParam tag (pre ++ q :: post)) s = .next
      (if pre = [] then answered ⟨0x12, tag, (pre ++ q :: post).flatMap paramBytes⟩ c (if c = .config then [q.1] else []) t
       else answered ⟨0x12, tag, (pre ++ q :: post).flatMap paramBytes⟩ .partialWrite
         [BitVec.ofNat 8 pre.length, c.code, q.1] t) := by
  let f : Frame := ⟨0x12, tag, (pre ++ q :: post).flatMap paramBytes⟩
  have hqf : putParam q (arrive f t) = .error c := by rw [putParam_arrive, hq]; rfl
  have htaken := (takeSetParam_taken (s := arrive f s) (l := pre ++ q :: post) (by simp) hlen hsave)
  rw [putParams_stopped (written_arrive f h) hqf] at htaken
  by_cases hpre : pre = []
  · rw [if_pos hpre]
    exact exec_answered (exec_setParam tag _ s) hs (free_written hs h) (htaken.trans (by subst hpre; rfl))
  · rw [if_neg hpre]
    refine exec_answered (exec_setParam tag _ s) hs (free_written hs h) (htaken.trans ?_)
    rw [paramAnswer, if_neg (mt List.length_eq_zero_iff.1 hpre)]

/-- Settles O44: the owner's checks, then the pairs up to the first that fails. -/
theorem setParamStopsAtFailure : Obligations.SetParamStopsAtFailure := by
  intro tag l s hs
  refine ⟨fun hbad => ?_, fun hne hlen hsave => ?_, fun hne hlen hsave => ⟨fun t ht => ?_, fun pre q post t c hl ht hq => ?_⟩⟩
  · exact exec_answered (exec_setParam tag l s) hs hs (takeSetParam_range hbad _)
  · exact exec_answered (exec_setParam tag l s) hs hs (takeSetParam_busy hne hlen (saving_of_saveRunning hsave))
  · exact exec_setParam_written tag hne hlen hs (not_saving_of_not_saveRunning hsave) ht
  · subst hl
    exact exec_setParam_stopped tag hlen hs (not_saving_of_not_saveRunning hsave) ht hq

/-! One pair (R183). -/

theorem exec_setParam_one_written (tag id : Byte) (v : BitVec 32) {s t : State} (hs : Free s) (hsave : ¬ SaveRunning s)
    (h : putParam (id, v) s = .ok t) :
    exec (.setParam tag [(id, v)]) s = .next (answered ⟨0x12, tag, id :: w32 v⟩ .ok [] t) :=
  exec_setParam_written tag (by simp) (by simp) hs (not_saving_of_not_saveRunning hsave)
    (by rw [written, List.foldlM_cons, h]; rfl)

theorem exec_setParam_one_refused (tag id : Byte) (v : BitVec 32) {s : State} {c : ResultCode} (hs : Free s)
    (hsave : ¬ SaveRunning s) (h : putParam (id, v) s = .error c) :
    exec (.setParam tag [(id, v)]) s =
      .next (answered ⟨0x12, tag, id :: w32 v⟩ c (if c = .config then [id] else []) s) :=
  exec_setParam_stopped (pre := []) (post := []) tag (by simp) hs (not_saving_of_not_saveRunning hsave) rfl h

/-- What a pair that is written leaves. -/
theorem writePar_effects (p : ParamId) (v : Int) (s : State) :
    (writePar p v s).par p = v ∧ (∀ q, q ≠ p → (writePar p v s).par q = s.par q)
    ∧ (p = .iMax → ∀ b, (writePar p v s).crg.bridges.get b = { s.crg.bridges.get b with
        target := min (s.crg.bridges.get b).target v.toNat
        setpoint := min (s.crg.bridges.get b).setpoint (v.toNat * 256) })
    ∧ (p = .misfireLimit → (writePar p v s).fls = { s.fls with status := (writePar p v s).fls.status }
        ∧ ∀ k, (writePar p v s).fls.status.get k =
          { s.fls.status.get k with consecutive := min (s.fls.status.get k).consecutive v.toNat })
    ∧ (p = .alertFloor → (writePar p v s).ntu = { s.ntu with alert := (writePar p v s).alertDue }) := by
  obtain ⟨hparams, -⟩ := writePar_changes p v s
  refine ⟨?_, fun q hq => ?_, ?_, ?_, ?_⟩
  · rw [State.par, hparams]
    exact State.par_withPar_same s p v
  · rw [State.par, hparams]
    exact State.par_withPar_other s p q v (Ne.symm hq)
  · rintro rfl b
    have hmax : (s.withPar .iMax v).parN .iMax = v.toNat := congrArg Int.toNat (State.par_withPar_same s .iMax v)
    simp only [writePar, clampToIMax, State.withCrg_crg, Tab.get_map, hmax]
    rfl
  · rintro rfl
    have hlimit : (s.withPar .misfireLimit v).parN .misfireLimit = v.toNat :=
      congrArg Int.toNat (State.par_withPar_same s .misfireLimit v)
    refine ⟨rfl, fun k => ?_⟩
    simp only [writePar, clampMisfires, State.withFls_fls, Tab.get_map, hlimit]
    rfl
  · rintro rfl
    rfl

/-- The cross checks (R69, R117, R152). -/
theorem crossCheck_iff (s : State) (v : Int) :
    (crossCheck s .alphaMin v = true ↔ v ≤ s.par .alphaMax) ∧ (crossCheck s .alphaMax v = true ↔ s.par .alphaMin ≤ v)
    ∧ (crossCheck s .alphaStart v = true ↔ s.par .alphaMin ≤ v ∧ v ≤ s.par .alphaMax)
    ∧ (crossCheck s .iMax v = true ↔ v < s.par .iTrip) ∧ (crossCheck s .iTrip v = true ↔ s.par .iMax < v) := by
  simp [crossCheck]

theorem magnitudesOk_iff (mLoss mHyst mSag mSwell : Int) :
    magnitudesOk mLoss mHyst mSag mSwell = true ↔ mLoss + mHyst < mSag ∧ mSag + mHyst < mSwell - mHyst := by
  simp [magnitudesOk]

/-- The thresholds of magnitude are checked in SYNC, RUN and STOPPING alone (R117). -/
theorem crossCheck_magnitudes {s : State} (v : Int) {p : ParamId} (hp : p ∈ [ParamId.mLoss, .mHyst, .mSag, .mSwell]) :
    crossCheck s p v = (!s.active || magnitudesOk (if ParamId.mLoss = p then v else s.par .mLoss)
      (if ParamId.mHyst = p then v else s.par .mHyst) (if ParamId.mSag = p then v else s.par .mSag)
      (if ParamId.mSwell = p then v else s.par .mSwell)) := by
  fin_cases hp <;> rfl

theorem crossCheck_free (s : State) (v : Int) {p : ParamId}
    (hp : p ∉ [ParamId.alphaMin, .alphaMax, .alphaStart, .iMax, .iTrip, .mLoss, .mHyst, .mSag, .mSwell]) :
    crossCheck s p v = true := by
  unfold crossCheck
  split
  case h_10 => rfl
  all_goals exact absurd (by decide) hp

/-- Settles O43: the checks of a pair in their order, the write, and the cross checks. -/
theorem setParamWritesOne : Obligations.SetParamWritesOne := by
  refine ⟨fun tag id v s hs => ⟨fun hsave => ?_, fun hsave hid => ?_, fun p hsave hid => ⟨fun hrange => ?_,
    fun hrange hstandby hstate => ?_, fun hrange hstate => ⟨fun hcross => ?_, fun hcross => ?_⟩⟩⟩, fun s v => ?_⟩
  · exact exec_answered (exec_setParam tag [(id, v)] s) hs hs
      (takeSetParam_busy (by simp) (by simp) (saving_of_saveRunning hsave))
  · exact exec_setParam_one_refused tag id v hs hsave (putParam_unknown hid v s)
  · exact exec_setParam_one_refused tag id v hs hsave (putParam_fault hid (paramFault_range hrange))
  · exact exec_setParam_one_refused tag id v hs hsave (putParam_fault hid (paramFault_state hrange hstandby hstate))
  · exact exec_setParam_one_refused tag id v hs hsave
      (putParam_fault hid ((paramFault_cross hrange hstate).trans (by rw [hcross]; rfl)))
  · have hput := putParam_written (s := s) hid ((paramFault_cross hrange hstate).trans (if_pos hcross))
    obtain ⟨-, hframe, hcrg, hfls, hntu⟩ := writePar_changes p v.toInt s
    obtain ⟨hpar, hothers, hmax, hlimit, hfloor⟩ := writePar_effects p v.toInt s
    exact ⟨writePar p v.toInt s, exec_setParam_one_written tag id v hs hsave hput, hpar, hothers, hframe, hcrg, hfls, hntu,
      hmax, hlimit, hfloor⟩
  · obtain ⟨hmin, hmax, hstart, himax, hitrip⟩ := crossCheck_iff s v
    refine ⟨hmin, hmax, hstart, himax, hitrip, fun p hp => ⟨fun hidle => ?_, fun hrun => ?_⟩, fun p hp => crossCheck_free s v hp⟩
    · rw [crossCheck_magnitudes v hp, Bool.eq_false_iff.2 (mt (active_iff s).1 hidle)]
      rfl
    · rw [crossCheck_magnitudes v hp, (active_iff s).2 hrun]
      exact magnitudesOk_iff _ _ _ _

end Sys2Proof.ListWrites
end

section
/-!
WRITE_SLOTS and WRITE_RESPONSES (R52, R131, R132): a list of records, written into consecutive places of a table up to the
first that its owner does not take. The file settles O45.
-/

namespace Sys2Proof.RecordWrites

open Sys2Proof.Machine Sys2Proof.Claims Sys2Proof.Requests

/-! Records written into a table. -/

/-- A list of records written from a place on, up to the first that gives no value; the table and the number written before
it. -/
def writeRun {α β : Type} {N : Nat} [NeZero N] (parse : α → Option β) : Nat → List α → Tab β N → Tab β N × Option Nat
  | _, [], t => (t, none)
  | i, r :: rest, t =>
    match parse r with
    | none => (t, some 0)
    | some v => let x := writeRun parse (i + 1) rest (t.set (Fin.ofNat N i) v); (x.1, x.2.map (· + 1))

/-- How many records are written. -/
def goodLength {α β : Type} (parse : α → Option β) (l : List α) : Nat := (l.takeWhile fun r => (parse r).isSome).length

section
variable {α β : Type} {N : Nat} [NeZero N] {parse : α → Option β}

theorem goodLength_bad {r : α} (h : parse r = none) (rest : List α) : goodLength parse (r :: rest) = 0 := by
  simp [goodLength, h]

theorem goodLength_good {r : α} {v : β} (h : parse r = some v) (rest : List α) :
    goodLength parse (r :: rest) = goodLength parse rest + 1 := by
  simp [goodLength, h]

theorem writeRun_count (i : Nat) (l : List α) (t : Tab β N) :
    (writeRun parse i l t).2 = if goodLength parse l = l.length then none else some (goodLength parse l) := by
  induction l generalizing i t with
  | nil => rfl
  | cons r rest ih =>
    cases h : parse r with
    | none => simp [writeRun, h, goodLength_bad h]
    | some v =>
      simp only [writeRun, h, ih, goodLength_good h, List.length_cons, Nat.add_right_cancel_iff]
      split <;> rfl

/-- A place that no record written reaches is left as it was. -/
theorem writeRun_outside (i : Nat) (l : List α) (t : Tab β N) (hfit : i + l.length ≤ N) (k : Fin N)
    (hk : ¬ (i ≤ k.1 ∧ k.1 < i + goodLength parse l)) : (writeRun parse i l t).1.get k = t.get k := by
  induction l generalizing i t with
  | nil => rfl
  | cons r rest ih =>
    rw [List.length_cons] at hfit
    cases h : parse r with
    | none => simp [writeRun, h]
    | some v =>
      rw [goodLength_good h] at hk
      have hplace : Fin.ofNat N i ≠ k := fun he => hk (by
        rw [← he, Fin.val_ofNat, Nat.mod_eq_of_lt (by omega)]
        omega)
      simp only [writeRun, h]
      rw [ih (i + 1) _ (by omega) (by omega), Tab.get_set, if_neg hplace]

/-- A place that a record written reaches holds that record's value. -/
theorem writeRun_inside (i : Nat) (l : List α) (t : Tab β N) (hfit : i + l.length ≤ N) {j : Nat}
    (hj : j < goodLength parse l) {r : α} (hr : l[j]? = some r) (k : Fin N) (hk : k.1 = i + j) :
    parse r = some ((writeRun parse i l t).1.get k) := by
  induction l generalizing i t j with
  | nil => simp at hr
  | cons q rest ih =>
    rw [List.length_cons] at hfit
    cases h : parse q with
    | none => rw [goodLength_bad h] at hj; omega
    | some v =>
      simp only [writeRun, h]
      cases j with
      | zero =>
        obtain rfl : q = r := by simpa using hr
        have hplace : Fin.ofNat N i = k := Fin.ext (by rw [Fin.val_ofNat, Nat.mod_eq_of_lt (by omega), hk, Nat.add_zero])
        rw [writeRun_outside (i + 1) rest _ (by omega) k (by omega), Tab.get_set, if_pos hplace, h]
      | succ j =>
        rw [goodLength_good h] at hj
        exact ih (i + 1) _ (by omega) (j := j) (by omega) (by simpa using hr) (by omega)

end

/-! WRITE_SLOTS (R52). -/

/-- The configuration that a slot record gives. -/
def slotOfRec (r : SlotRec) : Option SlotConfig :=
  (NotchChannel.ofCode? r.channel.toNat).map fun ch => ⟨ch, r.aMin, r.refLimit⟩

theorem putSlot_eq (k : Nat) (r : SlotRec) (s : State) :
    putSlot k r s = (slotOfRec r).map fun c => s.withSsq { s.ssq with config := s.ssq.config.set (Fin.ofNat 24 k) c } := by
  unfold putSlot slotOfRec
  cases NotchChannel.ofCode? r.channel.toNat <;> rfl

theorem writeSlots_eq (i : Nat) (l : List SlotRec) (s : State) : writeEach putSlot i l s =
    (s.withSsq { s.ssq with config := (writeRun slotOfRec i l s.ssq.config).1 },
      (writeRun slotOfRec i l s.ssq.config).2) := by
  induction l generalizing i s with
  | nil => rfl
  | cons r rest ih =>
    rw [writeEach, putSlot_eq, writeRun]
    cases slotOfRec r with
    | none => rfl
    | some c => simp only [Option.map_some, ih]; rfl

theorem slotOfRec_isSome (r : SlotRec) : (slotOfRec r).isSome = decide (r.channel.toNat ≤ 2) := by
  have hchannel : ∀ b : Byte, (NotchChannel.ofCode? b.toNat).isSome = decide (b.toNat ≤ 2) := by decide
  rw [slotOfRec, Option.isSome_map, hchannel]

theorem slotOfRec_fields {r : SlotRec} {c : SlotConfig} (h : slotOfRec r = some c) :
    c.channel.code = r.channel ∧ c.aMin = r.aMin ∧ c.refLimit = r.refLimit := by
  have hcode : ∀ b : Byte, ∀ ch ∈ NotchChannel.ofCode? b.toNat, ch.code = b := by decide
  obtain ⟨ch, hch, rfl⟩ := Option.map_eq_some_iff.1 h
  exact ⟨hcode _ _ hch, rfl, rfl⟩

/-- The check of WRITE_SLOTS on its list as a whole. -/
def SlotsGood (first : Byte) (l : List SlotRec) : Prop :=
  first.toNat ≤ 23 ∧ l ≠ [] ∧ l.length ≤ 8 ∧ first.toNat + l.length ≤ 24

theorem slotsFault_iff (first : Byte) (l : List SlotRec) :
    (23 < first.toNat ∨ l = [] ∨ 8 < l.length ∨ 24 < first.toNat + l.length) ↔ ¬ SlotsGood first l := by
  simp [SlotsGood, not_and_or, -not_and]

theorem exec_writeSlots (tag first : Byte) (l : List SlotRec) (s : State) : exec (.writeSlots tag first l) s =
    .next (request (some ⟨0x18, tag, first :: l.flatMap slotRecBytes⟩) (takeWriteSlots first l) s) := rfl

theorem takeWriteSlots_range {first : Byte} {l : List SlotRec} (h : ¬ SlotsGood first l) (s : State) :
    takeWriteSlots first l s = (s, .refuse .range) := if_pos ((slotsFault_iff first l).2 h)

theorem takeWriteSlots_busy {first : Byte} {l : List SlotRec} (h : SlotsGood first l) {s : State} (hsave : s.saving = true) :
    takeWriteSlots first l s = (s, .refuse .busy) :=
  (if_neg fun hfault => (slotsFault_iff first l).1 hfault h).trans (if_pos hsave)

/-- The slots' part after a list is written. -/
def slotsAfter (first : Byte) (l : List SlotRec) (s : State) : Ssq :=
  { s.ssq with config := (writeRun slotOfRec first.toNat l s.ssq.config).1 }

theorem takeWriteSlots_ok {first : Byte} {l : List SlotRec} (h : SlotsGood first l) {s : State} (hsave : s.saving = false) :
    takeWriteSlots first l s = (s.withSsq (slotsAfter first l s),
      .reply (if goodLength slotOfRec l = l.length then .ok else .partialWrite)
        (if goodLength slotOfRec l = l.length then [] else [BitVec.ofNat 8 (goodLength slotOfRec l)])) := by
  refine (if_neg fun hfault => (slotsFault_iff first l).1 hfault h).trans ((if_neg (by simp [hsave])).trans ?_)
  rw [writeSlots_eq, writeRun_count]
  by_cases hall : goodLength slotOfRec l = l.length
  · simp only [if_pos hall]
    rfl
  · simp only [if_neg hall]
    rfl

theorem free_slotsAfter (first : Byte) (l : List SlotRec) {s : State} (hs : Free s) :
    Free (s.withSsq (slotsAfter first l s)) := by
  obtain ⟨hawake, hinbox, hsettled⟩ := hs
  exact ⟨hawake, hinbox, hsettled⟩

theorem goodLength_slots (l : List SlotRec) :
    (l.takeWhile fun r => decide (r.channel.toNat ≤ 2)).length = goodLength slotOfRec l := by
  simp only [goodLength, slotOfRec_isSome]

/-! WRITE_RESPONSES (R131, R132). -/

theorem writeResponses_eq (i : Nat) (l : List ResponseRec) (s : State) : writeEach putResponse i l s =
    (s.withRtb { s.rtb with entries := (writeRun responseOfRec i l s.rtb.entries).1 },
      (writeRun responseOfRec i l s.rtb.entries).2) := by
  induction l generalizing i s with
  | nil => rfl
  | cons r rest ih =>
    rw [writeEach, putResponse, writeRun]
    cases responseOfRec r with
    | none => rfl
    | some e => simp only [Option.map_some, ih]; rfl

/-- The check of WRITE_RESPONSES on its list as a whole. -/
def ResponsesGood (first : Byte) (l : List ResponseRec) : Prop :=
  first.toNat ≤ 31 ∧ l ≠ [] ∧ l.length ≤ 4 ∧ first.toNat + l.length ≤ 32

theorem responsesFault_iff (first : Byte) (l : List ResponseRec) :
    (31 < first.toNat ∨ l = [] ∨ 4 < l.length ∨ 32 < first.toNat + l.length) ↔ ¬ ResponsesGood first l := by
  simp [ResponsesGood, not_and_or, -not_and]

theorem exec_writeResponses (tag first : Byte) (l : List ResponseRec) (s : State) : exec (.writeResponses tag first l) s =
    .next (request (some ⟨0x1A, tag, first :: l.flatMap responseRecBytes⟩) (takeWriteResponses first l) s) := rfl

theorem takeWriteResponses_range {first : Byte} {l : List ResponseRec} (h : ¬ ResponsesGood first l) (s : State) :
    takeWriteResponses first l s = (s, .refuse .range) := if_pos ((responsesFault_iff first l).2 h)

theorem takeWriteResponses_busy {first : Byte} {l : List ResponseRec} (h : ResponsesGood first l) {s : State}
    (hsave : s.saving = true) : takeWriteResponses first l s = (s, .refuse .busy) :=
  (if_neg fun hfault => (responsesFault_iff first l).1 hfault h).trans (if_pos hsave)

/-- The response table after a list is written. -/
def responsesAfter (first : Byte) (l : List ResponseRec) (s : State) : Rtb :=
  { s.rtb with entries := (writeRun responseOfRec first.toNat l s.rtb.entries).1 }

/-- The reply carries the number written and the governing index. -/
theorem takeWriteResponses_ok {first : Byte} {l : List ResponseRec} (h : ResponsesGood first l) {s : State}
    (hsave : s.saving = false) : takeWriteResponses first l s = (s.withRtb (responsesAfter first l s),
      .reply (if goodLength responseOfRec l = l.length then .ok else .partialWrite)
        [BitVec.ofNat 8 (goodLength responseOfRec l), s.governingIndex]) := by
  refine (if_neg fun hfault => (responsesFault_iff first l).1 hfault h).trans ((if_neg (by simp [hsave])).trans ?_)
  rw [writeResponses_eq, writeRun_count]
  by_cases hall : goodLength responseOfRec l = l.length
  · simp only [hall]
    rfl
  · simp only [if_neg hall]
    rfl

/-! A response record (R131). -/

theorem responseOfRec_fields {r : ResponseRec} {e : ResponseEntry} (h : responseOfRec r = some e) :
    recOfResponse e = r := by
  have hkind : ∀ b : BitVec 3, ∀ k ∈ Kind.ofCode? b.toNat, k.code.setWidth 3 = b := by decide
  have haction : ∀ b : BitVec 2, ∀ a ∈ Action.ofCode? b.toNat, a.code.setWidth 2 = b := by decide
  have hmode : ∀ b : BitVec 2, ∀ m ∈ TrackerMode.ofCode? b.toNat, m.code.setWidth 2 = b := by decide
  unfold responseOfRec at h
  split at h
  · rename_i k a m hk ha hm
    split at h
    · cases h
      cases r
      simp [recOfResponse, hkind _ _ hk, haction _ _ ha, hmode _ _ hm]
    · cases h
  · cases h

theorem responseOfRec_isSome_iff (r : ResponseRec) : (responseOfRec r).isSome = true ↔
    r.kind.toNat ≤ 5 ∧ r.action.toNat ≤ 2 ∧ r.mode.toNat ≤ 2 ∧ r.bandLo.toNat ≤ r.bandHi.toNat
    ∧ r.iLimit.toNat ≤ 4096 ∧ r.alphaFloor.toNat ≤ 11520 ∧ 1 ≤ r.holdMs.toNat ∧ r.holdMs.toNat ≤ 5000
    ∧ r.restartAlpha.toNat ≤ 11520 ∧ r.rampMs.toNat ≤ 10000 := by
  have hkind : ∀ b : BitVec 3, (Kind.ofCode? b.toNat).isSome = true ↔ b.toNat ≤ 5 := by decide
  have haction : ∀ b : BitVec 2, (Action.ofCode? b.toNat).isSome = true ↔ b.toNat ≤ 2 := by decide
  have hmode : ∀ b : BitVec 2, (TrackerMode.ofCode? b.toNat).isSome = true ↔ b.toNat ≤ 2 := by decide
  rw [← hkind, ← haction, ← hmode]
  unfold responseOfRec
  cases Kind.ofCode? r.kind.toNat with
  | none => simp
  | some k =>
    cases Action.ofCode? r.action.toNat with
    | none => simp
    | some a =>
      cases TrackerMode.ofCode? r.mode.toNat with
      | none => simp
      | some m => simp

/-- Settles O45: the checks on the whole list, the records written, and what a response record gives. -/
theorem recordWritesStopAtFailure : Obligations.RecordWritesStopAtFailure := by
  refine ⟨fun tag first s hs => ⟨fun l => ⟨fun hbad => ?_, fun hgood hsave => ?_, fun hgood hsave => ?_⟩,
    fun l => ⟨fun hbad => ?_, fun hgood hsave => ?_, fun hgood hsave => ?_⟩⟩,
    fun r => ⟨responseOfRec_isSome_iff r, fun e => responseOfRec_fields⟩⟩
  · exact exec_answered (exec_writeSlots tag first l s) hs hs (takeWriteSlots_range hbad _)
  · exact exec_answered (exec_writeSlots tag first l s) hs hs (takeWriteSlots_busy hgood (saving_of_saveRunning hsave))
  · obtain ⟨-, -, -, hfit⟩ := id hgood
    rw [goodLength_slots]
    refine ⟨slotsAfter first l s, exec_answered (exec_writeSlots tag first l s) hs (free_slotsAfter first l hs)
      (takeWriteSlots_ok hgood (not_saving_of_not_saveRunning hsave)), rfl, rfl,
      fun k hk => writeRun_outside first.toNat l s.ssq.config hfit k hk, fun i hi r hr k hk => ?_⟩
    exact slotOfRec_fields (writeRun_inside first.toNat l s.ssq.config hfit hi hr k hk)
  · exact exec_answered (exec_writeResponses tag first l s) hs hs (takeWriteResponses_range hbad _)
  · exact exec_answered (exec_writeResponses tag first l s) hs hs
      (takeWriteResponses_busy hgood (saving_of_saveRunning hsave))
  · obtain ⟨-, -, -, hfit⟩ := id hgood
    exact ⟨responsesAfter first l s, exec_answered (exec_writeResponses tag first l s) hs (free_withRtb hs _)
      (takeWriteResponses_ok hgood (not_saving_of_not_saveRunning hsave)), rfl,
      fun k hk => writeRun_outside first.toNat l s.rtb.entries hfit k hk,
      fun i hi r hr k hk => writeRun_inside first.toNat l s.rtb.entries hfit hi hr k hk⟩

end Sys2Proof.RecordWrites
end

section
/-!
The rows as a configuration's image (R189, R190): the rows of an item give back its bytes, and each item's bytes its value.
The file settles O54.
-/

namespace Sys2Proof.StoredImage

open Sys2Proof.Machine Sys2Proof.Claims Sys2Proof.Bytes Sys2Proof.Loading

/-! Bytes in rows. -/

/-- Bytes filled up with zeros. -/
def padTo (n : Nat) (bs : List Byte) : List Byte := bs ++ List.replicate (n - bs.length) 0

theorem bytesOf_zero (n : Nat) : bytesOf n 0 = List.replicate n 0 := by
  induction n with
  | zero => rfl
  | succ n ih => rw [bytesOf, Nat.zero_div, ih]; rfl

theorem bytesOf_numOf {n : Nat} {bs : List Byte} (h : bs.length ≤ n) : bytesOf n (numOf bs) = padTo n bs := by
  induction bs generalizing n with
  | nil => exact bytesOf_zero n
  | cons b rest ih =>
    obtain ⟨m, rfl⟩ : ∃ m, n = m + 1 := Nat.exists_eq_succ_of_ne_zero (by rintro rfl; simp at h)
    have hb := b.isLt
    have hlow : BitVec.ofNat 8 (b.toNat + 256 * numOf rest) = b := by
      apply BitVec.eq_of_toNat_eq
      rw [BitVec.toNat_ofNat]
      omega
    have hhigh : (b.toNat + 256 * numOf rest) / 256 = numOf rest := by omega
    rw [numOf, bytesOf, hlow, hhigh, ih (by simpa using h), padTo, padTo, List.length_cons, Nat.add_sub_add_right]
    rfl

theorem numOf_lt (bs : List Byte) : numOf bs < 256 ^ bs.length := by
  induction bs with
  | nil => simp [numOf]
  | cons b rest ih =>
    have hb := b.isLt
    rw [numOf, List.length_cons, Nat.pow_succ']
    omega

/-- A row's four bytes. -/
theorem bytesOf_word {bs : List Byte} (h : bs.length ≤ 4) : bytesOf 4 (BitVec.ofNat 32 (numOf bs)).toNat = padTo 4 bs := by
  have hlt : numOf bs < 2 ^ 32 := (numOf_lt bs).trans_le (Nat.pow_le_pow_right (by decide) h)
  rw [BitVec.toNat_ofNat, Nat.mod_eq_of_lt hlt, bytesOf_numOf h]

theorem padTo_rows (k : Nat) (bs : List Byte) :
    padTo 4 (bs.take 4) ++ padTo (4 * k) (bs.drop 4) = padTo (4 * (k + 1)) bs := by
  rcases le_or_gt 4 bs.length with hlong | hshort
  · have htake : (bs.take 4).length = 4 := by simp [hlong]
    rw [padTo, padTo, padTo, htake, Nat.sub_self, List.replicate_zero, List.append_nil, ← List.append_assoc,
      List.take_append_drop, List.length_drop]
    congr 2
    omega
  · rw [List.take_of_length_le hshort.le, List.drop_of_length_le hshort.le, padTo, padTo, padTo, List.nil_append,
      List.append_assoc, List.replicate_append_replicate, List.length_nil]
    congr 2
    omega

/-- Rows read clean give the bytes that were cut into them. -/
theorem rowsBytes_chunks {k : Nat} {rs : List RowRead} {bs : List Byte}
    (hrs : ∀ j < k, rs[j]? = some (.clean (BitVec.ofNat 32 (numOf ((bs.drop (4 * j)).take 4))))) (hlen : bs.length ≤ 4 * k) :
    rowsBytes k rs = some (padTo (4 * k) bs) := by
  induction k generalizing rs bs with
  | zero =>
    obtain rfl : bs = [] := List.eq_nil_of_length_eq_zero (by omega)
    rfl
  | succ k ih =>
    have hfirst := hrs 0 (by omega)
    cases rs with
    | nil => simp at hfirst
    | cons r rest =>
      obtain rfl : r = .clean (BitVec.ofNat 32 (numOf (bs.take 4))) := by simpa using hfirst
      have hrest : rowsBytes k rest = some (padTo (4 * k) (bs.drop 4)) := ih (fun j hj => by
        have hnext := hrs (j + 1) (by omega)
        rw [List.getElem?_cons_succ] at hnext
        rw [hnext, List.drop_drop, Nat.mul_succ, Nat.add_comm]) (by rw [List.length_drop]; omega)
      rw [rowsBytes]
      simp only [RowRead.data?, hrest]
      rw [bytesOf_word (List.length_take_le _ _), padTo_rows]

/-! The rows of an item (R189). -/

/-- The rows that a configuration's image reads as. -/
def imageRows (c : Settings) : List RowRead := (c.image.map readRow).list

theorem imageRows_getElem? (c : Settings) {n : Nat} (h : n < 512) : (imageRows c)[n]? = some (.clean (c.word n)) := by
  have hget : (c.image.map readRow).get ⟨n, h⟩ = .clean (c.word n) := by
    rw [Tab.get_map, Settings.image, Tab.get_ofFn, RowCode.readRow_encodeRow]
  rw [← hget]
  exact List.getElem?_eq_getElem _

/-- The rows that an item begins on and occupies hold its parts, and lie within the 512. -/
theorem itemAt_first (i : Item) : ∀ j < i.rows, itemAt (i.first + j) = some (i, j) ∧ i.first + j < 512 := by
  cases i with
  | param p => cases p <;> decide
  | trim c => revert c; decide
  | coeffs c => revert c; decide
  | filterEnable => decide
  | slot k => revert k; decide
  | response k => revert k; decide
  | level k => revert k; decide
  | enable k => revert k; decide
  | watch k => revert k; decide
  | traceMask => decide

/-- An item's rows read as its bytes, filled up with zeros. -/
theorem rowsBytes_item (c : Settings) (i : Item) (hlen : (c.bytes i).length ≤ 4 * i.rows) :
    rowsBytes i.rows ((imageRows c).drop i.first) = some (padTo (4 * i.rows) (c.bytes i)) := by
  refine rowsBytes_chunks (fun j hj => ?_) hlen
  obtain ⟨hitem, hplace⟩ := itemAt_first i j hj
  rw [List.getElem?_drop, imageRows_getElem? c hplace, Settings.word, hitem]

/-- An item whose bytes are read as its value is loaded as that value, with no row marked. -/
theorem loadItem_image {α : Type} {c : Settings} {i : Item} {parse : List Byte → Option α} {dflt v : α}
    (hlen : (c.bytes i).length ≤ 4 * i.rows) (hparse : parse (padTo (4 * i.rows) (c.bytes i)) = some v) :
    loadItem (imageRows c) i parse dflt = (v, []) := by
  rw [loadItem, rowsBytes_item c i hlen]
  simp only [hparse]

theorem loadTab_image {α : Type} {n : Nat} {f : Fin n → α × List Nat} {t : Tab α n} (h : ∀ i, f i = (t.get i, [])) :
    loadTab f = (t, []) := by
  have hmarks : (Tab.ofFn f).list.flatMap (·.2) = [] := by
    rw [LoadEnd.tab_list_eq, List.flatMap_map]
    simp [h]
  rw [loadTab, LoadEnd.tab_map_ofFn_get (t := t) fun i => by rw [h], hmarks]

/-! Values from their bytes. -/

theorem boolOfBytes_byte (b : Bool) (rest : List Byte) : boolOfBytes (byteOfBool b :: rest) = some b := by
  cases b <;> rfl

/-- A signed value that 32 bits hold. -/
theorem ofNat_emod_toInt {v : Int} (hlo : -2147483648 ≤ v) (hhi : v ≤ 2147483647) :
    (BitVec.ofNat 32 (numOf (bytesOfInt 4 v))).toInt = v := by
  have hbytes : numOf (bytesOfInt 4 v) = (v % 4294967296).toNat := by
    rw [bytesOfInt, numOf_bytesOf]
    exact Nat.mod_eq_of_lt (by omega)
  rw [hbytes, BitVec.toInt_eq_toNat_cond, BitVec.toNat_ofNat]
  split <;> omega

theorem inRange_bounds {p : ParamId} {v : Int} (h : p.inRange v = true) : -2147483648 ≤ v ∧ v ≤ 2147483647 := by
  have htable : ∀ p : ParamId, -2147483648 ≤ p.info.lo ∧ p.info.hi ≤ 2147483647 := by
    intro p
    cases p <;> decide
  obtain ⟨hlo, hhi⟩ := htable p
  unfold ParamId.inRange at h
  split at h
  · simp at h; omega
  · simp at h; omega
  · simp at h; omega

/-! The items of a configuration. -/

section
variable (c : Settings)

theorem load_param {p : ParamId} (h : p.inRange (c.params.get p.place) = true) :
    loadedParam (imageRows c) p = (c.params.get p.place, []) := by
  obtain ⟨hlo, hhi⟩ := inRange_bounds h
  have hvalue : intOfBytes (padTo 4 (bytesOfInt 4 (c.params.get p.place))) = c.params.get p.place :=
    ofNat_emod_toInt hlo hhi
  refine loadItem_image (i := .param p) (le_refl 4) ?_
  exact (congrArg (fun v => if p.inRange v then some v else none) hvalue).trans (if_pos h)

theorem load_trim (i : Fin 8) {dflt : Trim} : loadItem (imageRows c) (.trim i) trimOfBytes dflt = (c.trims.get i, []) := by
  refine loadItem_image (i := .trim i) (by decide : 5 ≤ 8) ?_
  have h : trimOfBytes (padTo 8 (c.bytes (.trim i))) =
      match boolOfBytes [byteOfBool (c.trims.get i).invert, 0, 0, 0] with
      | some inv => some ⟨BitVec.ofNat 16 (numOf (w16 (c.trims.get i).offset)),
          BitVec.ofNat 16 (numOf (w16 (c.trims.get i).gain)), inv⟩
      | none => none := rfl
  rw [show 4 * (Item.trim i).rows = 8 from rfl, h, boolOfBytes_byte, ofNat_numOf_w16, ofNat_numOf_w16]

theorem load_coeffs (i : Fin 3) {dflt : Coeffs} :
    loadItem (imageRows c) (.coeffs i) (fun bs => some (coeffsOfBytes bs)) dflt = (c.coeffs.get i, []) := by
  refine loadItem_image (i := .coeffs i) (by decide : 10 ≤ 12) ?_
  let k := c.coeffs.get i
  have h : coeffsOfBytes (padTo 12 (c.bytes (.coeffs i))) = ⟨BitVec.ofNat 16 (numOf (w16 k.b0)),
      BitVec.ofNat 16 (numOf (w16 k.b1)), BitVec.ofNat 16 (numOf (w16 k.b2)), BitVec.ofNat 16 (numOf (w16 k.a1)),
      BitVec.ofNat 16 (numOf (w16 k.a2))⟩ := rfl
  rw [show 4 * (Item.coeffs i).rows = 12 from rfl, h]
  simp only [ofNat_numOf_w16]
  rfl

theorem load_filterEnable {dflt : Bool} :
    loadItem (imageRows c) .filterEnable boolOfBytes dflt = (c.filterEnable, []) :=
  loadItem_image (i := .filterEnable) (by decide : 1 ≤ 4) (boolOfBytes_byte c.filterEnable [0, 0, 0])

theorem load_slot (i : Fin 24) {dflt : SlotConfig} :
    loadItem (imageRows c) (.slot i) slotConfigOfBytes dflt = (c.slots.get i, []) := by
  have hchannel : ∀ ch : NotchChannel, NotchChannel.ofCode? ch.code.toNat = some ch := by
    intro ch
    cases ch <;> rfl
  refine loadItem_image (i := .slot i) (by decide : 7 ≤ 8) ?_
  have h : slotConfigOfBytes (padTo 8 (c.bytes (.slot i))) =
      match NotchChannel.ofCode? (c.slots.get i).channel.code.toNat with
      | some ch => some ⟨ch, BitVec.ofNat 24 (numOf (w24 (c.slots.get i).aMin)),
          BitVec.ofNat 24 (numOf (w24 (c.slots.get i).refLimit))⟩
      | none => none := rfl
  rw [show 4 * (Item.slot i).rows = 8 from rfl, h, hchannel, ofNat_numOf_w24, ofNat_numOf_w24]

theorem load_response (i : Fin 32) {dflt : ResponseEntry}
    (h : responseOfRec (recOfResponse (c.responses.get i)) = some (c.responses.get i)) :
    loadItem (imageRows c) (.response i) (fun bs => responseOfRec (responseRecOf bs)) dflt = (c.responses.get i, []) := by
  refine loadItem_image (i := .response i) (by decide : 13 ≤ 16) ?_
  have hrec : responseRecOf (padTo 16 (c.bytes (.response i))) =
      responseRecOf (responseRecBytes (recOfResponse (c.responses.get i))) := rfl
  rw [show 4 * (Item.response i).rows = 16 from rfl, hrec, responseRecOf_responseRecBytes, h]

theorem load_level (i : Fin 24) {dflt : Nat} (h : c.levels.get i ≤ 7) :
    loadItem (imageRows c) (.level i) (fun bs => let v := numOf (bs.take 1); if v ≤ 7 then some v else none) dflt =
      (c.levels.get i, []) := by
  have hvalue : numOf ((padTo 4 (bytesOf 1 (c.levels.get i))).take 1) = c.levels.get i :=
    (numOf_bytesOf 1 _).trans (Nat.mod_eq_of_lt (by omega))
  refine loadItem_image (i := .level i) (by decide : 1 ≤ 4) ?_
  exact (congrArg (fun v => if v ≤ 7 then some v else none) hvalue).trans (if_pos h)

theorem load_enable (i : Fin 24) {dflt : Bool} :
    loadItem (imageRows c) (.enable i) boolOfBytes dflt = (c.enables.get i, []) :=
  loadItem_image (i := .enable i) (by decide : 1 ≤ 4) (boolOfBytes_byte (c.enables.get i) [0, 0, 0])

theorem load_watch (i : Fin 4) {dflt : WatchConfig}
    (h : -2147483648 ≤ (c.watches.get i).threshold ∧ (c.watches.get i).threshold ≤ 2147483647) :
    loadItem (imageRows c) (.watch i) (fun bs =>
      watchConfigOf (bs.getD 0 0) (BitVec.ofNat 32 (numOf ((bs.drop 1).take 4))) (bs.getD 5 0) (bs.getD 6 0)) dflt =
      (c.watches.get i, []) := by
  obtain ⟨hlo, hhi⟩ := h
  have hsignal : ∀ sig : WatchSignal, WatchSignal.ofCode? sig.code.toNat = some sig := by
    intro sig
    cases sig with
    | iMeas b => revert b; decide
    | alpha b => revert b; decide
    | mag | freqChz | phaseErrAbs | unbal | vdc => rfl
  have hflags : ∀ b : Bool, (byteOfBool b).toNat ≤ 1 ∧ (byteOfBool b == 1) = b ∧ (byteOfBool (!b) == 0) = b := by decide
  refine loadItem_image (i := .watch i) (by decide : 7 ≤ 8) ?_
  let w := c.watches.get i
  have hvalue : watchConfigOf w.signal.code (BitVec.ofNat 32 (numOf (bytesOfInt 4 w.threshold))) (byteOfBool (!w.above))
      (byteOfBool w.once) = some w := by
    obtain ⟨honce, hmode, -⟩ := hflags w.once
    obtain ⟨-, -, habove⟩ := hflags w.above
    obtain ⟨hdirection, -⟩ := hflags (!w.above)
    rw [WatchUnits.watchConfigOf_some _ (hsignal w.signal) hdirection honce, ofNat_emod_toInt hlo hhi, habove, hmode]
  exact hvalue

theorem load_traceMask {dflt : BitVec 24} :
    loadItem (imageRows c) .traceMask (fun bs => some (BitVec.ofNat 24 (numOf (bs.take 3)))) dflt = (c.traceMask, []) :=
  loadItem_image (i := .traceMask) (by decide : 3 ≤ 4) (congrArg some (ofNat_numOf_w24 c.traceMask))

end

/-- Settles O54: item by item. -/
theorem savedSettingsLoadBack : Obligations.SavedSettingsLoadBack := by
  intro c hparams hlevels hresponses hwatches
  have hparam (p : ParamId) : loadItem (imageRows c) (.param p)
      (fun bs => if p.inRange (intOfBytes bs) = true then some (intOfBytes bs) else none) p.info.dflt =
        (c.params.get p.place, []) := load_param c (hparams p)
  have htrims := loadTab_image (t := c.trims) fun i => load_trim c i (dflt := Trim.dflt)
  have hcoeffs := loadTab_image (t := c.coeffs) fun i => load_coeffs c i (dflt := Coeffs.dflt)
  have hslots := loadTab_image (t := c.slots) fun i => load_slot c i (dflt := SlotConfig.dflt i.1)
  have hresps := loadTab_image (t := c.responses) fun i => load_response c i (dflt := ResponseEntry.dflt) (hresponses i)
  have hlevel := loadTab_image (t := c.levels) fun i => load_level c i (dflt := defaultLevels.get i) (hlevels i)
  have henables := loadTab_image (t := c.enables) fun i => load_enable c i (dflt := defaultEnables.get i)
  have hwatch := loadTab_image (t := c.watches) fun i => load_watch c i (dflt := WatchConfig.dflt) (hwatches i)
  have hvalues : (ParamId.all.map fun p => c.params.get p.place) = c.params.list := by
    rw [LoadEnd.tab_list_eq]
    rfl
  have himage : loadImage (imageRows c) = (c, []) := by
    simp only [loadImage, htrims, hcoeffs, hslots, hresps, hlevel, henables, hwatch, load_filterEnable, load_traceMask,
      hparam, List.map_map, Function.comp_def, hvalues]
    simp
  exact himage

end Sys2Proof.StoredImage
end

section
/-!
The geometry of the slots (R39): the angles of a group whose shifts ascend run once round the cycle in slot order. The file
settles O11.
-/

namespace Sys2Proof.Geometry

open Sys2Proof.Machine Sys2Proof.Claims

/-- A slot's angle within the cycle, from SYNC_OFFSET on. -/
def offset (s : State) (k : Nat) : Nat := s.slotPair k * 3840 + s.shift (s.slotBridge k)

/-! The shifts. -/

theorem inRange_interval {p : ParamId} {v : Int} (hfreq : p ≠ .nominalFreq) (hsup : p ≠ .supervision)
    (h : p.inRange v = true) : p.info.lo ≤ v ∧ v ≤ p.info.hi := by
  unfold ParamId.inRange at h
  split at h
  · exact absurd rfl hfreq
  · exact absurd rfl hsup
  · rwa [Bool.and_eq_true, decide_eq_true_iff, decide_eq_true_iff] at h

theorem par_shift_range {s : State} (h : s.ParamsInRange) :
    (0 ≤ s.par .shift0 ∧ s.par .shift0 ≤ 3839) ∧ (0 ≤ s.par .shift1 ∧ s.par .shift1 ≤ 3839)
    ∧ (0 ≤ s.par .shift2 ∧ s.par .shift2 ≤ 3839) ∧ (0 ≤ s.par .shift3 ∧ s.par .shift3 ≤ 3839) :=
  ⟨inRange_interval (by decide) (by decide) (h .shift0), inRange_interval (by decide) (by decide) (h .shift1),
    inRange_interval (by decide) (by decide) (h .shift2), inRange_interval (by decide) (by decide) (h .shift3)⟩

/-- The START check on the shifts, read off. -/
theorem shifts_ascend {s : State} (h : shiftFault s = none) :
    (2 ≤ s.parN .bridges → s.par .shift0 < s.par .shift1) ∧ (3 ≤ s.parN .bridges → s.par .shift1 < s.par .shift2)
    ∧ (4 ≤ s.parN .bridges → s.par .shift2 < s.par .shift3) := by
  unfold shiftFault at h
  split at h
  · cases h
  · split at h
    · cases h
    · split at h
      · cases h
      · omega

theorem shift_le (s : State) (h : s.ParamsInRange) (b : Fin 4) : s.shift b ≤ 3839 := by
  obtain ⟨⟨-, h0⟩, ⟨-, h1⟩, ⟨-, h2⟩, ⟨-, h3⟩⟩ := par_shift_range h
  unfold State.shift
  split
  · exact Int.toNat_le.2 h0
  · exact Int.toNat_le.2 h1
  · exact Int.toNat_le.2 h2
  · exact Int.toNat_le.2 h3

/-- A later bridge of the group has the larger shift. -/
theorem shift_lt {s : State} (hrange : s.ParamsInRange) (h : shiftFault s = none) (hB : s.parN .bridges ≤ 4) {a b : Nat}
    (hab : a < b) (hb : b < s.parN .bridges) : s.shift (Fin.ofNat 4 a) < s.shift (Fin.ofNat 4 b) := by
  obtain ⟨h0, h1, h2, h3⟩ := par_shift_range hrange
  obtain ⟨h01, h12, h23⟩ := shifts_ascend h
  have hb4 : b < 4 := by omega
  interval_cases b <;> interval_cases a
  all_goals
    simp only [State.shift, State.parN] at *
    omega

/-! The offsets. -/

theorem offset_lt_offset {s : State} (hrange : s.ParamsInRange) (h : shiftFault s = none) (hB1 : 1 ≤ s.parN .bridges)
    (hB : s.parN .bridges ≤ 4) {j k : Nat} (hjk : j < k) : offset s j < offset s k := by
  have hj := shift_le s hrange (s.slotBridge j)
  rcases (Nat.div_le_div_right (c := s.parN .bridges) hjk.le).lt_or_eq with hpair | hpair
  · unfold offset State.slotPair
    omega
  · have hbridge : j % s.parN .bridges < k % s.parN .bridges := by
      have hdj := Nat.div_add_mod j (s.parN .bridges)
      have hdk := Nat.div_add_mod k (s.parN .bridges)
      rw [hpair] at hdj
      omega
    have hshift : s.shift (s.slotBridge j) < s.shift (s.slotBridge k) := shift_lt hrange h hB hbridge (Nat.mod_lt _ hB1)
    unfold offset State.slotPair
    rw [hpair]
    omega

theorem offset_lt_cycle {s : State} (hrange : s.ParamsInRange) (hB1 : 1 ≤ s.parN .bridges) {k : Nat}
    (hk : k < 6 * s.parN .bridges) : offset s k < 23040 := by
  have hshift := shift_le s hrange (s.slotBridge k)
  have hpair : s.slotPair k < 6 := (Nat.div_lt_iff_lt_mul hB1).2 hk
  unfold offset
  omega

/-! The arcs. -/

/-- The arc between two angles is that of their offsets from any zero. -/
theorem arc_offsets (z x y : Nat) (hxy : x ≤ y) (hy : y < 23040) : arc ((z + x) % 23040) ((z + y) % 23040) = y - x := by
  have h := Crossing.arc_eq_emod ((z + x) % 23040) ((z + y) % 23040)
  omega

theorem baseAngle_offset (s : State) (k : Nat) : s.baseAngle k = (s.parN .syncOffset + offset s k) % 23040 := by
  rw [State.baseAngle, offset, Nat.add_assoc]

theorem dispatchAngle_offset (s : State) (k : Nat) :
    s.dispatchAngle k = (s.parN .syncOffset + 21120 + offset s k) % 23040 := by
  rw [State.dispatchAngle, baseAngle_offset]
  omega

/-- Settles O11: every angle is a fixed one plus the slot's offset, and the offsets ascend within one cycle. -/
theorem geometryRunsOnceRound : Obligations.GeometryRunsOnceRound := by
  intro s hB1 hB hfault hrange
  refine ⟨fun k => rfl, fun k => ?_, fun j k hjk hk => ?_⟩
  · have hbase : s.baseAngle k < 23040 := Nat.mod_lt _ (by decide)
    rw [State.dispatchAngle]
    omega
  · have hlt : offset s j < offset s k := offset_lt_offset hrange hfault hB1 hB hjk
    have hcycle : offset s k < 23040 := offset_lt_cycle hrange hB1 hk
    have hfirst : offset s 0 ≤ offset s j := by
      rcases Nat.eq_zero_or_pos j with hj | hj
      · rw [hj]
      · exact (offset_lt_offset hrange hfault hB1 hB hj).le
    rw [dispatchAngle_offset, dispatchAngle_offset, dispatchAngle_offset, baseAngle_offset, baseAngle_offset,
      baseAngle_offset, arc_offsets _ _ _ hfirst (by omega), arc_offsets _ _ _ (by omega) hcycle,
      arc_offsets _ _ _ hfirst (by omega), arc_offsets _ _ _ (by omega) hcycle]
    omega

end Sys2Proof.Geometry
end

section
/-!
The tracker's judgement of an update (R21, R26, R28 to R32, R34, R35), and the entries to LOCKED and LOST as commands of their
own. The file settles O10.
-/

namespace Sys2Proof.TrackerJudgement

open Sys2Proof.Machine Sys2Proof.Claims Sys2Proof.OneSet

/-! The tests of an update. -/

/-- The vector has no angle (R21). -/
def ZeroVector (f : FilteredSet) : Prop :=
  2 * (f.filtered.get 0).toInt + (f.filtered.get 1).toInt = 0 ∧ (f.filtered.get 1).toInt * 28378 / 16384 = 0

/-- A magnitude that acquires (R26). -/
def Strong (f : FilteredSet) (s : State) : Prop :=
  ¬ ZeroVector f ∧ s.parN .mLoss + s.parN .mHyst ≤ measuredMagnitude f s

theorem isZeroVector_iff (f : FilteredSet) : isZeroVector f = true ↔ ZeroVector f := by
  simp [isZeroVector, ZeroVector, vectorX, vectorY]

theorem isStrong_iff (f : FilteredSet) (s : State) : isStrong f s = true ↔ Strong f s := by
  rw [isStrong, Bool.and_eq_true, Bool.not_eq_true', ← Bool.not_eq_true, isZeroVector_iff, decide_eq_true_iff]
  rfl

theorem isStrong_false_iff (f : FilteredSet) (s : State) : isStrong f s = false ↔ ¬ Strong f s := by
  rw [← isStrong_iff, Bool.not_eq_true]

theorem isWeak_iff (f : FilteredSet) (s : State) : isWeak f s = true ↔ measuredMagnitude f s < s.parN .mLoss := by
  simp [isWeak]

/-! The judgement by the tracker's state (R26, R28 to R32, R35). -/

section
variable {f : FilteredSet} {s : State}

theorem verdict_requested (h : s.atr.reseatRequest = true) :
    verdictOf f s = ⟨.search, isStrong f s, 0, s.atr.holdCount, isStrong f s, none⟩ := by
  rw [verdictOf, judgeTracker, if_pos h]

theorem verdict_search (h : s.atr.reseatRequest = false) (hs : s.atr.state = .search) : verdictOf f s =
    judgeSearch s.atr (isStrong f s) (isWeak f s) (s.parN .lockErr) (s.parN .lockCount) (trackingError f s) := by
  rw [verdictOf, judgeTracker, if_neg (by simp [h]), hs]

theorem verdict_locked (h : s.atr.reseatRequest = false) (hs : s.atr.state = .locked) : verdictOf f s =
    judgeLocked s.atr (isWeak f s) (isZeroVector f) s.dgv.freeze := by
  rw [verdictOf, judgeTracker, if_neg (by simp [h]), hs]

theorem verdict_hold (h : s.atr.reseatRequest = false) (hs : s.atr.state = .hold) : verdictOf f s =
    judgeHold s.atr (isStrong f s) s.dgv.freeze (s.parMs .holdLimit) := by
  rw [verdictOf, judgeTracker, if_neg (by simp [h]), hs]

theorem verdict_lost (h : s.atr.reseatRequest = false) (hs : s.atr.state = .lost) : verdictOf f s =
    judgeLost s.atr (isStrong f s) := by
  rw [verdictOf, judgeTracker, if_neg (by simp [h]), hs]

/-- The notice of a judgement is TRACK_LOCKED, TRACK_HOLD or TRACK_LOST. -/
theorem verdict_notice (h : (verdictOf f s).notice = some .traceFrozen) : False := by
  cases hreq : s.atr.reseatRequest with
  | true => rw [verdict_requested hreq] at h; cases h
  | false =>
    cases hs : s.atr.state with
    | search => rw [verdict_search hreq hs, judgeSearch] at h; split_ifs at h; cases h
    | locked => rw [verdict_locked hreq hs, judgeLocked] at h; split_ifs at h; cases h
    | hold => rw [verdict_hold hreq hs, judgeHold] at h; split_ifs at h <;> cases h
    | lost => rw [verdict_lost hreq hs, judgeLost] at h; split_ifs at h

/-- The notice of an update has occurred, and no other has. -/
theorem trackerUpdate_raised {src : Source} (h : (verdictOf f s).notice = some src) :
    Raised src s (trackerUpdate f s) ∧ QuietBut [src, .traceFrozen] s (trackerUpdate f s) := by
  have hsrc : src ≠ .traceFrozen := fun he => verdict_notice (he ▸ h)
  rw [trackerUpdate_eq, h]
  exact ⟨occur_source_same src _ hsrc, Occurrences.quiet_occur src _⟩

theorem trackerUpdate_quiet (h : (verdictOf f s).notice = none) :
    (trackerUpdate f s).ntu = s.ntu ∧ (trackerUpdate f s).trc = s.trc := by
  rw [trackerUpdate_eq, h]
  exact ⟨rfl, rfl⟩

end

/-! The statement's cases. -/

section
variable (f : FilteredSet) (s : State)

theorem judged_requested (h : s.atr.reseatRequest = true) :
    (Strong f s → verdictOf f s = ⟨.search, true, 0, s.atr.holdCount, true, none⟩)
    ∧ (¬ Strong f s → verdictOf f s = ⟨.search, false, 0, s.atr.holdCount, false, none⟩) := by
  rw [verdict_requested h]
  exact ⟨fun hs => by rw [(isStrong_iff f s).2 hs], fun hs => by rw [(isStrong_false_iff f s).2 hs]⟩

theorem judged_unseated (h : s.atr.reseatRequest = false) (hs : s.atr.state = .search) (hseat : s.atr.seated = false) :
    (Strong f s → verdictOf f s = ⟨.search, true, s.atr.lockCount, s.atr.holdCount, true, none⟩)
    ∧ (¬ Strong f s → verdictOf f s = ⟨.search, false, 0, s.atr.holdCount, false, none⟩) := by
  rw [verdict_search h hs, judgeSearch, if_pos (by simp [hseat])]
  exact ⟨fun hstrong => if_pos ((isStrong_iff f s).2 hstrong), fun hstrong => if_neg (mt (isStrong_iff f s).1 hstrong)⟩

theorem judged_seated (h : s.atr.reseatRequest = false) (hs : s.atr.state = .search) (hseat : s.atr.seated = true) :
    let weak := measuredMagnitude f s < s.parN .mLoss
    let near := (trackingError f s).natAbs ≤ s.parN .lockErr
    (weak → verdictOf f s = ⟨.search, false, 0, s.atr.holdCount, false, none⟩)
    ∧ (¬ weak → Strong f s → near → s.parN .lockCount ≤ s.atr.lockCount + 1 →
        verdictOf f s = ⟨.locked, true, 0, s.atr.holdCount, false, some .trackLocked⟩)
    ∧ (¬ weak → Strong f s → near → s.atr.lockCount + 1 < s.parN .lockCount →
        verdictOf f s = ⟨.search, true, s.atr.lockCount + 1, s.atr.holdCount, false, none⟩)
    ∧ (¬ weak → ¬ (Strong f s ∧ near) → verdictOf f s = ⟨.search, true, 0, s.atr.holdCount, false, none⟩) := by
  intro weak near
  rw [verdict_search h hs, judgeSearch, if_neg (by simp [hseat])]
  refine ⟨fun hw => if_pos ((isWeak_iff f s).2 hw), fun hw hstrong hnear hcount => ?_, fun hw hstrong hnear hcount => ?_,
    fun hw hnot => ?_⟩
  · rw [if_neg (mt (isWeak_iff f s).1 hw), if_pos ⟨(isStrong_iff f s).2 hstrong, hnear⟩, if_pos hcount]
  · rw [if_neg (mt (isWeak_iff f s).1 hw), if_pos ⟨(isStrong_iff f s).2 hstrong, hnear⟩, if_neg (by omega)]
  · exact (if_neg (mt (isWeak_iff f s).1 hw)).trans (if_neg fun hboth => hnot ⟨(isStrong_iff f s).1 hboth.1, hboth.2⟩)

theorem judged_locked (h : s.atr.reseatRequest = false) (hs : s.atr.state = .locked) :
    let loses := measuredMagnitude f s < s.parN .mLoss ∨ ZeroVector f ∨ s.dgv.freeze = true
    (loses → verdictOf f s = ⟨.hold, s.atr.seated, s.atr.lockCount, 0, false, some .trackHold⟩)
    ∧ (¬ loses → verdictOf f s = ⟨.locked, s.atr.seated, s.atr.lockCount, s.atr.holdCount, false, none⟩) := by
  have hloses : (isWeak f s || isZeroVector f || s.dgv.freeze) = true ↔
      measuredMagnitude f s < s.parN .mLoss ∨ ZeroVector f ∨ s.dgv.freeze = true := by
    rw [Bool.or_eq_true, Bool.or_eq_true, isWeak_iff, isZeroVector_iff, or_assoc]
  rw [verdict_locked h hs, judgeLocked]
  exact ⟨fun hl => if_pos (hloses.2 hl), fun hl => if_neg (mt hloses.1 hl)⟩

theorem judged_hold (h : s.atr.reseatRequest = false) (hs : s.atr.state = .hold) :
    let limit := s.parN .holdLimit * 20
    (¬ Strong f s → limit ≤ s.atr.holdCount + 1 →
        verdictOf f s = ⟨.lost, s.atr.seated, s.atr.lockCount, s.atr.holdCount + 1, false, some .trackLost⟩)
    ∧ (¬ Strong f s → s.atr.holdCount + 1 < limit →
        verdictOf f s = ⟨.hold, s.atr.seated, s.atr.lockCount, s.atr.holdCount + 1, false, none⟩)
    ∧ (Strong f s → s.dgv.freeze = true → verdictOf f s = ⟨.hold, s.atr.seated, s.atr.lockCount, 0, false, none⟩)
    ∧ (Strong f s → s.dgv.freeze = false →
        verdictOf f s = ⟨.locked, s.atr.seated, s.atr.lockCount, 0, false, some .trackLocked⟩) := by
  have hlimit : s.parMs .holdLimit = s.parN .holdLimit * 20 := rfl
  rw [verdict_hold h hs, judgeHold, hlimit]
  refine ⟨fun hstrong hcount => ?_, fun hstrong hcount => ?_, fun hstrong hf => ?_, fun hstrong hf => ?_⟩
  · rw [(isStrong_false_iff f s).2 hstrong]
    exact if_pos hcount
  · rw [(isStrong_false_iff f s).2 hstrong]
    exact (if_pos rfl).trans (if_neg (by omega))
  · rw [(isStrong_iff f s).2 hstrong, hf]
    rfl
  · rw [(isStrong_iff f s).2 hstrong, hf]
    rfl

theorem judged_lost (h : s.atr.reseatRequest = false) (hs : s.atr.state = .lost) :
    (Strong f s → verdictOf f s = ⟨.search, true, 0, s.atr.holdCount, true, none⟩)
    ∧ (¬ Strong f s → verdictOf f s = ⟨.lost, s.atr.seated, s.atr.lockCount, s.atr.holdCount, false, none⟩) := by
  rw [verdict_lost h hs, judgeLost]
  exact ⟨fun hstrong => if_pos ((isStrong_iff f s).2 hstrong), fun hstrong => if_neg (mt (isStrong_iff f s).1 hstrong)⟩

end

/-- What an update leaves of the tracker's own state is its judgement. -/
theorem trackerUpdate_judged (f : FilteredSet) (s : State) :
    let v := verdictOf f s
    let t := trackerUpdate f s
    t.atr.state = v.state ∧ t.atr.seated = v.seated ∧ t.atr.lockCount = v.lockCount ∧ t.atr.holdCount = v.holdCount
    ∧ t.atr.reseatRequest = false := by
  simp only [trackerUpdate_atr]
  exact ⟨rfl, rfl, rfl, rfl, rfl⟩

/-! TRACK_LOCKED and TRACK_LOST (R28, R31). -/

theorem lockDue_iff (s : State) : lockDue s = true ↔ s.atr.state = .search ∧ s.atr.seated = true
    ∧ s.atr.reseatRequest = false ∧ s.parN .lockCount ≤ s.atr.lockCount := by
  simp [lockDue, and_assoc]

theorem lossDue_iff (s : State) : lossDue s = true ↔
    s.atr.state = .hold ∧ s.atr.reseatRequest = false ∧ s.parMs .holdLimit ≤ s.atr.holdCount := by
  simp [lossDue, and_assoc]

theorem exec_trackLocked {s : State} (hawake : s.asleep = false) (hdue : lockDue s = true) :
    exec .trackLocked s = .next (settle (enterLocked s)) :=
  congrArg Host.Outcome.next ((Resetting.whileAwake_of_awake hawake).trans (if_pos hdue))

theorem exec_trackLost {s : State} (hawake : s.asleep = false) (hdue : lossDue s = true) :
    exec .trackLost s = .next (settle (enterLost s)) :=
  congrArg Host.Outcome.next ((Resetting.whileAwake_of_awake hawake).trans (if_pos hdue))

/-- In SEARCH and LOST the tracker's block reason is present (R33). -/
theorem union_of_trackerReason {s : State} (h : s.trackerReason = true) : s.union = true := by
  simp [State.union, h]

/-- LOCKED entered: the list was closed in SEARCH, and takes the union as it now stands. -/
theorem trackLocked_taken {s : State} (hlist : s.ListSettled) (hsearch : s.atr.state = .search) :
    let t := settle (enterLocked s)
    Raised .trackLocked s t ∧ QuietBut [.trackLocked, .traceFrozen] s t
    ∧ t = { s with
        atr := { s.atr with state := .locked, lockCount := 0 }, ntu := t.ntu, trc := t.trc, fls := t.fls, crg := t.crg }
    ∧ t.fls = { s.fls with blocked := t.union } := by
  intro t
  obtain ⟨hblocked, -⟩ := hlist
  have hfls : (enterLocked s).fls = s.fls := occur_fls .trackLocked _
  have hshut : (enterLocked s).fls.blocked = true := by
    rw [hfls, hblocked]
    exact union_of_trackerReason (by rw [State.trackerReason, hsearch]; rfl)
  obtain ⟨hunblock, hfirst⟩ := Halting.settle_of_shut hshut
  have hk : Changes [.fls, .crg] (enterLocked s) t := by
    show Changes [.fls, .crg] (enterLocked s) (settle (enterLocked s))
    rw [hunblock]
    exact takeUnblock_changes _
  have hntu : t.ntu = (enterLocked s).ntu := hk .ntu (by decide)
  have hunion : t.union = (enterLocked s).union := by
    show (settle (enterLocked s)).union = _
    rw [hunblock, takeUnblock_union]
  refine ⟨?_, fun src hsrc => ?_, ?_, ?_⟩
  · rw [Raised, hntu]
    exact occur_source_same .trackLocked _ (by decide)
  · rw [hntu]
    exact Occurrences.quiet_occur .trackLocked _ src hsrc
  · have hatr : t.atr = { s.atr with state := .locked, lockCount := 0 } :=
      (hk .atr (by decide)).trans (occur_atr .trackLocked _)
    rw [← hatr]
    have hall : Changes [.atr, .fls, .crg, .ntu, .trc] s t :=
      (((Changes.withAtr s _).mono (by decide)).trans ((occur_changes .trackLocked _).mono (by decide))).trans
        (hk.mono (by decide))
    exact Halting.state_ext fun f => by have hf := hall f; cases f <;> first | rfl | exact hf (by simp)
  · rw [hunion, ← hfls]
    exact hfirst

/-- LOST entered: the tracker's reason is present, and the list closes. -/
theorem trackLost_taken {s : State} (hlist : s.ListSettled) :
    let t := settle (enterLost s)
    t.atr = { s.atr with state := .lost } ∧ Raised .trackLost s t ∧ Shut t := by
  obtain ⟨-, hempty⟩ := hlist
  have hatr : (enterLost s).atr = { s.atr with state := .lost } := occur_atr .trackLost _
  have hfls : (enterLost s).fls = s.fls := occur_fls .trackLost _
  have hraised : Raised .trackLost s (enterLost s) := occur_source_same .trackLost _ (by decide)
  have hnone : (enterLost s).NoneHeld := by rwa [State.NoneHeld, hfls]
  exact ⟨(settle_atr _).trans hatr, Onsets.Raised.settle hraised (by decide) (by decide) (by decide),
    Episodes.settle_shut_of_union (union_of_trackerReason (by rw [State.trackerReason, hatr]; rfl)) hnone⟩

/-- Settles O10: the judgement by the request and the tracker's state, and the two entries sent as commands. -/
theorem trackerEventsTaken : Obligations.TrackerEventsTaken := by
  refine ⟨fun f s => ?_, fun s hawake hreq hlist => ⟨fun hsearch hseat hcount => ?_, fun hhold hcount => ?_⟩⟩
  · obtain ⟨hstate, hseated, hlock, hhold, hrequest⟩ := trackerUpdate_judged f s
    exact ⟨hstate, hseated, hlock, hhold, hrequest, fun src h => trackerUpdate_raised h, fun h => trackerUpdate_quiet h,
      fun h => judged_requested f s h, fun h => ⟨judged_unseated f s h, judged_seated f s h, judged_locked f s h,
        judged_hold f s h, judged_lost f s h⟩⟩
  · exact ⟨_, exec_trackLocked hawake ((lockDue_iff s).2 ⟨hsearch, hseat, hreq, hcount⟩), trackLocked_taken hlist hsearch⟩
  · exact ⟨_, exec_trackLost hawake ((lossDue_iff s).2 ⟨hhold, hreq, hcount⟩), trackLost_taken hlist⟩

end Sys2Proof.TrackerJudgement
end

section
/-!
The tracker's arithmetic (R18 to R20, R23, R24, R27, R36): the vector and its angle, the magnitude and its rounding, the loop
step, the reseat, the half-cycle unbalance. The file settles O9.
-/

namespace Sys2Proof.TrackerStep

open Sys2Proof.Machine Sys2Proof.Claims Sys2Proof.OneSet Sys2Proof.Promises

/-! The integer square root. -/

/-- Bit by bit: a root that is right to within 2^k is refined by its lower bits. -/
theorem isqrtBits_root {n : Nat} : ∀ (k r : Nat), r * r ≤ n → n < (r + 2 ^ k) * (r + 2 ^ k) →
    isqrtBits k n r * isqrtBits k n r ≤ n ∧ n < (isqrtBits k n r + 1) * (isqrtBits k n r + 1)
  | 0, r, hlow, hhigh => ⟨hlow, hhigh⟩
  | k + 1, r, hlow, hhigh => by
    have hpow : r + 2 ^ (k + 1) = r + 2 ^ k + 2 ^ k := by rw [Nat.pow_succ]; omega
    rw [hpow] at hhigh
    rw [isqrtBits]
    by_cases hbit : (r + 2 ^ k) * (r + 2 ^ k) ≤ n
    · rw [if_pos hbit]
      exact isqrtBits_root k _ hbit hhigh
    · rw [if_neg hbit]
      exact isqrtBits_root k r hlow (Nat.lt_of_not_le hbit)

theorem isqrt_root {n : Nat} (h : n < 2 ^ 64) : isqrt n * isqrt n ≤ n ∧ n < (isqrt n + 1) * (isqrt n + 1) :=
  isqrtBits_root 32 0 (Nat.zero_le n) (by simpa using h)

/-! The vector (R18). -/

theorem vector_range (f : FilteredSet) :
    (-98304 ≤ vectorX f ∧ vectorX f ≤ 98301) ∧ -56756 ≤ vectorY f ∧ vectorY f ≤ 56754 := by
  have ha := (f.filtered.get 0).le_toInt
  have ha' := (f.filtered.get 0).toInt_lt
  have hb := (f.filtered.get 1).le_toInt
  have hb' := (f.filtered.get 1).toInt_lt
  unfold vectorX vectorY
  omega

/-! The angle (R19). -/

theorem thetaRaw_lt (x y : Int) : thetaRaw x y < 23040 := Nat.mod_lt _ (by decide)

/-- A quarter turn of the vector is a quarter of the cycle. -/
theorem thetaRaw_quarter {x y : Int} (h : ¬ (x = 0 ∧ y = 0)) : thetaRaw (-y) x = (thetaRaw x y + 5760) % 23040 := by
  unfold thetaRaw
  rw [Int.neg_neg]
  split_ifs <;> omega

/-- The worked vectors. -/
theorem thetaRaw_worked : thetaRaw 30000 17320 = 1920 ∧ thetaRaw 2000 20784 = 5408 ∧ thetaRaw 1 0 = 0 ∧ thetaRaw 1 1 = 2880
    ∧ thetaRaw 98301 (-1) = 0 ∧ thetaRaw 1000 (-1) = 23036 := by decide

/-! The magnitude (R20). -/

/-- Half of one more than a floored quotient is its rounding. -/
theorem rounded_quotient {n r l : Nat} (hl : 0 < l) (hlow : r * r ≤ n) (hhigh : n < (r + 1) * (r + 1)) :
    let k := (r / l + 1) / 2
    (k = 0 ∨ ((2 * (k : Int) - 1) * l) ^ 2 ≤ n) ∧ (n : Int) < ((2 * (k : Int) + 1) * l) ^ 2 := by
  intro k
  have hfloor : r / l * l ≤ r := Nat.div_mul_le_self r l
  have hceil : r < (r / l + 1) * l := Nat.lt_mul_of_div_lt (Nat.lt_succ_self _) hl
  have hk : k = (r / l + 1) / 2 := rfl
  refine ⟨?_, ?_⟩
  · rcases Nat.eq_zero_or_pos k with hzero | hpos
    · exact .inl hzero
    · right
      have hle : (2 * k - 1) * l ≤ r := (Nat.mul_le_mul_right l (by omega)).trans hfloor
      have hsq : ((2 * k - 1) * l) ^ 2 ≤ n := (Nat.pow_le_pow_left hle 2).trans (by rw [Nat.pow_two]; exact hlow)
      have hcast : (2 * (k : Int) - 1) = ((2 * k - 1 : Nat) : Int) := by omega
      rw [hcast]
      exact_mod_cast hsq
  · have hle : r + 1 ≤ (2 * k + 1) * l := hceil.trans_le (Nat.mul_le_mul_right l (by omega))
    have hsq : n < ((2 * k + 1) * l) ^ 2 := hhigh.trans_le (by rw [← Nat.pow_two]; exact Nat.pow_le_pow_left hle 2)
    exact_mod_cast hsq

theorem magnitude_rounded {x y : Int} {l : Nat} (hl : 0 < l) (hx : -98304 ≤ x ∧ x ≤ 98301) (hy : -56756 ≤ y ∧ y ≤ 56754) :
    ∃ k : Nat, magnitude x y l = min 8191 k ∧ (k = 0 ∨ ((2 * (k : Int) - 1) * l) ^ 2 ≤ 67108864 * (x ^ 2 + y ^ 2))
      ∧ 67108864 * (x ^ 2 + y ^ 2) < ((2 * (k : Int) + 1) * l) ^ 2 := by
  have hxx : x * x ≤ 98304 * 98304 := by nlinarith
  have hyy : y * y ≤ 56756 * 56756 := by nlinarith
  have hnonneg : 0 ≤ x * x + y * y := add_nonneg (mul_self_nonneg x) (mul_self_nonneg y)
  let n := 67108864 * (x * x + y * y).toNat
  have hn : (n : Int) = 67108864 * (x ^ 2 + y ^ 2) := by
    rw [pow_two, pow_two, ← Int.toNat_of_nonneg hnonneg]
    rfl
  obtain ⟨hlow, hhigh⟩ := isqrt_root (n := n) (by omega)
  rw [← hn]
  exact ⟨(isqrt n / l + 1) / 2, rfl, rounded_quotient hl hlow hhigh⟩

/-! The loop step (R23, R24, R27). -/

section
variable {f : FilteredSet} {s : State}

/-- The tracker's own fields after an update. -/
theorem trackerUpdate_fields (f : FilteredSet) (s : State) :
    let t := trackerUpdate f s
    t.atr.p = (loopOf f s).1 ∧ t.atr.w = (loopOf f s).2 ∧ t.atr.state = (verdictOf f s).state
    ∧ t.atr.e = (if (verdictOf f s).reseat then 0 else trackingError f s) ∧ t.atr.m = measuredMagnitude f s
    ∧ t.atr.thetaMeas = measuredAngle f s ∧ t.atr.running = (halfCycleOf f s).1 ∧ t.atr.uLast = (halfCycleOf f s).2
    ∧ t.atr.last = some (updateOf f s) := by
  simp only [trackerUpdate_atr]
  exact ⟨rfl, rfl, rfl, rfl, rfl, rfl, rfl, rfl, rfl⟩

theorem trackerUpdate_framed (f : FilteredSet) (s : State) : ∃ a n c, trackerUpdate f s = { s with atr := a, ntu := n, trc := c } :=
  ⟨_, _, _, occurIf_frame _ _⟩

theorem loopOf_reseat (h : (verdictOf f s).reseat = true) : loopOf f s = (measuredAngle f s * 256, s.wNom) := by
  rw [loopOf, loopStep, if_pos h]

/-- SEARCH and LOCKED track. -/
theorem loopOf_tracking (h : (verdictOf f s).reseat = false)
    (hstate : (verdictOf f s).state = .search ∨ (verdictOf f s).state = .locked) :
    let w := trackW (s.par .trackKi) s.atr.w (trackingError f s)
    loopOf f s = (advanceP s.atr.p (trackAdvance (s.par .trackKp) w (trackingError f s)), w) := by
  rw [loopOf, loopStep, if_neg (by simp [h])]
  rcases hstate with hs | hs <;> rw [hs]

/-- HOLD and LOST coast. -/
theorem loopOf_coasting (h : (verdictOf f s).reseat = false)
    (hstate : (verdictOf f s).state = .hold ∨ (verdictOf f s).state = .lost) :
    loopOf f s = (advanceP s.atr.p s.atr.w, s.atr.w) := by
  rw [loopOf, loopStep, if_neg (by simp [h])]
  rcases hstate with hs | hs <;> rw [hs]

theorem trackW_eq (ki : Int) (w : Nat) (e : Int) : (trackW ki w e : Int) = min 19169 (max 13271 (w + ki * e / 256)) := by
  unfold trackW clamp
  omega

/-- The estimate advances by at most twice W, so by at most 150 au. -/
theorem arc_advanceP (p : Nat) {adv : Nat} (hadv : adv ≤ 38338) : arc (p / 256) (advanceP p adv / 256) ≤ 150 := by
  have h := Crossing.arc_eq_emod (p / 256) (advanceP p adv / 256)
  unfold advanceP at h ⊢
  omega

theorem trackAdvance_le (kp : Int) {w : Nat} (e : Int) (hw : w ≤ 19169) : trackAdvance kp w e ≤ 38338 := by
  unfold trackAdvance clamp
  omega

/-- Without a reseat the estimate advances at most 150 au. -/
theorem loopOf_advance (hs : s.TrackerInRange) (h : (verdictOf f s).reseat = false) :
    arc (s.atr.p / 256) ((loopOf f s).1 / 256) ≤ 150 := by
  obtain ⟨-, hw, -⟩ := hs
  by_cases hstate : (verdictOf f s).state = .search ∨ (verdictOf f s).state = .locked
  · rw [loopOf_tracking h hstate]
    exact arc_advanceP _ (trackAdvance_le _ _ (trackW_range _ _ _).2)
  · have hcoast : (verdictOf f s).state = .hold ∨ (verdictOf f s).state = .lost := by
      revert hstate
      cases (verdictOf f s).state <;> simp
    rw [loopOf_coasting h hcoast]
    exact arc_advanceP _ (by omega)

/-- A reseat is judged in SEARCH, seats the tracker and raises no notice (R27). -/
theorem verdict_reseat (h : (verdictOf f s).reseat = true) :
    (verdictOf f s).state = .search ∧ (verdictOf f s).seated = true ∧ (verdictOf f s).notice = none := by
  cases hreq : s.atr.reseatRequest with
  | true =>
    rw [TrackerJudgement.verdict_requested hreq] at h ⊢
    exact ⟨rfl, h, rfl⟩
  | false =>
    revert h
    cases hs : s.atr.state with
    | search => rw [TrackerJudgement.verdict_search hreq hs, judgeSearch]; split_ifs <;> simp
    | locked => rw [TrackerJudgement.verdict_locked hreq hs, judgeLocked]; split_ifs <;> simp
    | hold => rw [TrackerJudgement.verdict_hold hreq hs, judgeHold]; split_ifs <;> simp
    | lost => rw [TrackerJudgement.verdict_lost hreq hs, judgeLost]; split_ifs <;> simp

/-- A tracking step (R23, R24). -/
theorem tracking_step (hs : s.TrackerInRange) (h : (verdictOf f s).reseat = false) :
    let e := trackingError f s
    let t := trackerUpdate f s
    let w := min 19169 (max 13271 ((s.atr.w : Int) + s.par .trackKi * e / 256))
    ((t.atr.state = .search ∨ t.atr.state = .locked) →
      (t.atr.w : Int) = w ∧ t.atr.p = (s.atr.p + (min (2 * w) (max 0 (w + s.par .trackKp * e))).toNat) % 5898240)
    ∧ ((t.atr.state = .hold ∨ t.atr.state = .lost) → t.atr.w = s.atr.w ∧ t.atr.p = (s.atr.p + s.atr.w) % 5898240)
    ∧ t.atr.e = e ∧ -11520 ≤ e ∧ e ≤ 11519 ∧ arc (s.atr.p / 256) (t.atr.p / 256) ≤ 150 := by
  obtain ⟨hp, hw, hstate, he, -⟩ := trackerUpdate_fields f s
  simp only [hp, hw, hstate, he]
  refine ⟨fun htrack => ?_, fun hcoast => ?_, by simp [h], (wrapAngle_range _).1, (wrapAngle_range _).2, loopOf_advance hs h⟩
  · rw [loopOf_tracking h htrack, ← trackW_eq]
    exact ⟨rfl, rfl⟩
  · rw [loopOf_coasting h hcoast]
    exact ⟨rfl, rfl⟩

/-- A reseat (R27). -/
theorem reseat_step (h : (verdictOf f s).reseat = true) :
    let t := trackerUpdate f s
    t.atr.p = measuredAngle f s * 256 ∧ t.atr.w = s.wNom ∧ t.atr.e = 0 ∧ t.atr.state = .search ∧ t.atr.seated = true
    ∧ t.ntu = s.ntu
    ∧ ∃ u, t.atr.last = some u ∧ u.reseat = true ∧ u.thetaPrev = s.atr.p / 256 ∧ u.thetaNew = measuredAngle f s ∧ u.e = 0 := by
  obtain ⟨hp, hw, hstate, he, -, -, -, -, hlast⟩ := trackerUpdate_fields f s
  obtain ⟨-, hseated, -⟩ := TrackerJudgement.trackerUpdate_judged f s
  obtain ⟨hsearch, hseat, hnotice⟩ := verdict_reseat h
  obtain ⟨hntu, -⟩ := TrackerJudgement.trackerUpdate_quiet hnotice
  have hloop := loopOf_reseat h
  have hangle : (loopOf f s).1 / 256 = measuredAngle f s := by rw [hloop]; exact Nat.mul_div_cancel _ (by decide)
  exact ⟨hp.trans (by rw [hloop]), hw.trans (by rw [hloop]), he.trans (if_pos h), hstate.trans hsearch,
    hseated.trans hseat, hntu, updateOf f s, hlast, h, rfl, hangle, if_pos h⟩

/-! The half-cycle unbalance (R36). -/

theorem halfCycleOf_reseat (h : (verdictOf f s).reseat = true) :
    halfCycleOf f s = (some (measuredMagnitude f s, measuredMagnitude f s), s.atr.uLast) := by
  rw [halfCycleOf, halfCycle, if_pos h]

theorem halfCycleOf_step (h : (verdictOf f s).reseat = false) : halfCycleOf f s =
    if crosses (s.atr.p / 256) ((loopOf f s).1 / 256) false 0 || crosses (s.atr.p / 256) ((loopOf f s).1 / 256) false 11520 then
      (some (measuredMagnitude f s, measuredMagnitude f s),
        (takeM s.atr.running (measuredMagnitude f s)).2 - (takeM s.atr.running (measuredMagnitude f s)).1)
    else (some (takeM s.atr.running (measuredMagnitude f s)), s.atr.uLast) := by
  rw [halfCycleOf, halfCycle, if_neg (by simp [h]), h]

theorem crosses_false_iff (prev next x : Nat) :
    crosses prev next false x = true ↔ 1 ≤ arc prev x ∧ arc prev x ≤ arc prev next := by
  simp [crosses]

/-- The running pair starts afresh at 0 and at half a cycle, and at a reseat. -/
theorem unbalance_step (f : FilteredSet) (s : State) :
    let m := measuredMagnitude f s
    let t := trackerUpdate f s
    let pair := takeM s.atr.running m
    let crossed (x : Nat) : Prop :=
      1 ≤ arc (s.atr.p / 256) x ∧ arc (s.atr.p / 256) x ≤ arc (s.atr.p / 256) (t.atr.p / 256)
    t.atr.m = m ∧ t.atr.thetaMeas = measuredAngle f s
    ∧ ((verdictOf f s).reseat = true → t.atr.running = some (m, m) ∧ t.atr.uLast = s.atr.uLast)
    ∧ ((verdictOf f s).reseat = false → (crossed 0 ∨ crossed 11520) →
        t.atr.running = some (m, m) ∧ t.atr.uLast = pair.2 - pair.1)
    ∧ ((verdictOf f s).reseat = false → ¬ (crossed 0 ∨ crossed 11520) →
        t.atr.running = some pair ∧ t.atr.uLast = s.atr.uLast)
    ∧ t.atr.last =
      some ⟨s.atr.p / 256, t.atr.p / 256, m, t.atr.e, t.atr.w, t.atr.state, (verdictOf f s).reseat, t.atr.uLast, f⟩ := by
  obtain ⟨hp, hw, hstate, he, hm, hmeas, hrunning, hu, hlast⟩ := trackerUpdate_fields f s
  simp only [hp, hw, hstate, he, hm, hmeas, hrunning, hu, hlast]
  refine ⟨trivial, trivial, fun h => ?_, fun h hcross => ?_, fun h hcross => ?_, rfl⟩
  · rw [halfCycleOf_reseat h]
    exact ⟨rfl, rfl⟩
  · rw [halfCycleOf_step h, if_pos (by rwa [Bool.or_eq_true, crosses_false_iff, crosses_false_iff])]
    exact ⟨rfl, rfl⟩
  · rw [halfCycleOf_step h, if_neg (by rwa [Bool.or_eq_true, crosses_false_iff, crosses_false_iff])]
    exact ⟨rfl, rfl⟩

end

/-- The measured angle and magnitude of a vector (R19 to R21). -/
theorem vector_measured (f : FilteredSet) (s : State) :
    (TrackerJudgement.ZeroVector f → measuredAngle f s = s.atr.thetaMeas ∧ measuredMagnitude f s = 0)
    ∧ (¬ TrackerJudgement.ZeroVector f →
      (measuredAngle f s : Int) = ((thetaRaw (vectorX f) (vectorY f) : Int) + s.par .phaseCorr) % 23040
      ∧ measuredMagnitude f s = magnitude (vectorX f) (vectorY f) s.lNom) := by
  refine ⟨fun hzero => ⟨?_, ?_⟩, fun hzero => ⟨?_, ?_⟩⟩
  · exact if_pos ((TrackerJudgement.isZeroVector_iff f).2 hzero)
  · exact if_pos ((TrackerJudgement.isZeroVector_iff f).2 hzero)
  · rw [measuredAngle, if_neg (mt (TrackerJudgement.isZeroVector_iff f).1 hzero)]
    exact Pointer.toInt_angleOf _
  · exact if_neg (mt (TrackerJudgement.isZeroVector_iff f).1 hzero)

/-- Settles O9: the step with its bound, the reseat, the vector, the worked vectors and the unbalance. -/
theorem trackerStepsOrReseats : Obligations.TrackerStepsOrReseats := by
  refine ⟨fun f s hs h => ?_, fun f s h => reseat_step h, fun f s => ?_, thetaRaw_worked, fun f s => unbalance_step f s⟩
  · obtain ⟨htrack, hcoast, he, hlow, hhigh, harc⟩ := tracking_step hs h
    exact ⟨htrack, hcoast, he, hlow, hhigh, harc, trackerUpdate_framed f s⟩
  · obtain ⟨hx, hy⟩ := vector_range f
    obtain ⟨hzero, hangle⟩ := vector_measured f s
    refine ⟨⟨hx.1, hx.2, hy.1, hy.2⟩, rfl, hzero, fun hne => ?_⟩
    obtain ⟨htheta, hmag⟩ := hangle hne
    refine ⟨htheta, thetaRaw_lt _ _, thetaRaw_quarter hne, fun hl => ?_⟩
    rw [hmag]
    exact magnitude_rounded hl hx hy

end Sys2Proof.TrackerStep
end

section
/-!
What an angle update leaves alone in every block (R17): the tracker but for its reseat request, the settings that each block
holds, the TRIP_IN line, and the run controller once the group has left SYNC, RUN and STOPPING. The supervision count is the
one thing that the run controller's own deed adds to.
-/

namespace Sys2Proof.UpdateFrame

open Sys2Proof.Machine Sys2Proof.Claims Sys2Proof.Occurrences Sys2Proof.Requests

/-! Notices and the trigger mask. -/

/-- The levels, the enables and the trigger mask agree, and so does the whole source ADC_CLIP, which only the front end
raises (R2). -/
structure NoticesKept (s t : State) : Prop where
  settings : SettingsKept s t
  clip : t.ntu.sources.get Source.adcClip.num = s.ntu.sources.get Source.adcClip.num
  mask : t.trc.mask = s.trc.mask

theorem NoticesKept.trans {s t u : State} (h : NoticesKept s t) (k : NoticesKept t u) : NoticesKept s u :=
  ⟨h.settings.trans k.settings, k.clip.trans h.clip, k.mask.trans h.mask⟩

theorem noticesKept_of_eq {s t : State} (hn : t.ntu = s.ntu) (hm : t.trc.mask = s.trc.mask) : NoticesKept s t :=
  ⟨fun n => by rw [hn]; exact ⟨rfl, rfl⟩, by rw [hn], hm⟩

theorem noticesKept_of_changes {fs : List Field} {s t : State} (h : Changes fs s t)
    (hfs : Field.ntu ∉ fs ∧ Field.trc ∉ fs := by decide) : NoticesKept s t :=
  noticesKept_of_eq (h .ntu hfs.1) (congrArg Trc.mask (h .trc hfs.2))

theorem noticesKept_occur {src : Source} (s : State) (h : src ≠ .adcClip) : NoticesKept s (occur src s) :=
  ⟨occur_settingsKept src s,
    occur_source_other src s _ (fun e => h (Source.num_injective e).symm) (by decide), occur_mask src s⟩

theorem noticesKept_appendTrace (r : TraceRecord) (s : State) : NoticesKept s (appendTrace r s) := by
  unfold appendTrace
  split
  · exact noticesKept_of_eq rfl rfl
  · exact ⟨judgeFreeze_settingsKept _, judgeFreeze_source _ _ (by decide), judgeFreeze_mask _⟩
  · exact noticesKept_of_eq rfl rfl

/-! The relation. -/

/-- What every deed of an angle update but the supervision count leaves as it was. -/
structure Spares (s t : State) : Prop where
  tracker : t.atr = { s.atr with reseatRequest := t.atr.reseatRequest }
  config : t.ssq.config = s.ssq.config
  entries : t.rtb.entries = s.rtb.entries
  notices : NoticesKept s t
  watches : ∀ n, (t.wcu.units.get n).config = (s.wcu.units.get n).config
  tripIn : t.rct.tripIn = s.rct.tripIn
  supervision : t.rct.supervision = s.rct.supervision
  idle : s.active = false → t.rct = s.rct

theorem active_congr {s t : State} (h : t.rct = s.rct) : t.active = s.active := by rw [active_eq, active_eq, h]

theorem Spares.trans {s t u : State} (h : Spares s t) (k : Spares t u) : Spares s u where
  tracker := by rw [k.tracker, h.tracker]
  config := k.config.trans h.config
  entries := k.entries.trans h.entries
  notices := h.notices.trans k.notices
  watches n := (k.watches n).trans (h.watches n)
  tripIn := k.tripIn.trans h.tripIn
  supervision := k.supervision.trans h.supervision
  idle hs := (k.idle ((active_congr (h.idle hs)).trans hs)).trans (h.idle hs)

/-- An operation that is none of the tracker's, the sequencer's, the watch units' or the run controller's. -/
theorem spares_of_changes {fs : List Field} {s t : State} (h : Changes fs s t) (hn : NoticesKept s t)
    (he : t.rtb.entries = s.rtb.entries) (hfs : ∀ f ∈ [Field.atr, .ssq, .wcu, .rct], f ∉ fs := by decide) :
    Spares s t where
  tracker := by rw [h .atr (hfs .atr (by decide))]
  config := by rw [h .ssq (hfs .ssq (by decide))]
  entries := he
  notices := hn
  watches n := by rw [h .wcu (hfs .wcu (by decide))]
  tripIn := by rw [h .rct (hfs .rct (by decide))]
  supervision := by rw [h .rct (hfs .rct (by decide))]
  idle _ := h .rct (hfs .rct (by decide))

/-- An operation of the list and the regulator, with no notice. -/
theorem spares_of_quiet {s t : State} (h : Changes [.fls, .crg] s t) : Spares s t :=
  spares_of_changes h (noticesKept_of_changes h) (congrArg Rtb.entries (h .rtb (by decide)))

theorem Spares.refl (s : State) : Spares s s := spares_of_quiet (.refl _ s)

theorem Spares.ite {c : Prop} [Decidable c] {s t u : State} (ht : c → Spares s t) (hu : ¬ c → Spares s u) :
    Spares s (if c then t else u) := by
  split
  · next h => exact ht h
  · next h => exact hu h

theorem Spares.ite_fst {α : Type} {c : Prop} [Decidable c] {s : State} {r q : State × α} (hr : c → Spares s r.1)
    (hq : ¬ c → Spares s q.1) : Spares s (if c then r else q).1 := by
  split
  · next h => exact hr h
  · next h => exact hq h

theorem spares_occur {src : Source} (s : State) (h : src ≠ .adcClip) : Spares s (occur src s) :=
  spares_of_changes (occur_changes src s) (noticesKept_occur s h) (by rw [occur_rtb])

/-! The firing list. -/

theorem spares_withFls (l : Fls) (s : State) : Spares s (s.withFls l) :=
  spares_of_quiet ((Changes.withFls s l).mono (by decide))

theorem appendTrace_changes (r : TraceRecord) (s : State) : Changes [.ntu, .trc] s (appendTrace r s) := by
  intro f hf
  cases f <;> simp_all [Field.same]

theorem spares_appendTrace (r : TraceRecord) (s : State) : Spares s (appendTrace r s) :=
  spares_of_changes (appendTrace_changes r s) (noticesKept_appendTrace r s) (by simp)

theorem spares_retireHead (s : State) : Spares s (retireHead s).1 := by
  cases hlist : s.fls.list with
  | nil => rw [retireHead_empty s hlist]; exact .refl s
  | cons e rest =>
    have hwritten : Spares s (Retirements.headRetired e rest s) :=
      (spares_withFls _ s).trans ((spares_appendTrace _ _).trans (spares_withFls _ _))
    rw [Retirements.retireHead_eq hlist]
    exact .ite (fun _ => hwritten.trans (spares_occur _ (by decide))) fun _ => hwritten

theorem spares_retireAll (n : Nat) (s : State) : Spares s (retireAll n s).1 := by
  induction n generalizing s with
  | zero => exact .refl s
  | succ n ih => exact (spares_retireHead s).trans (ih _)

theorem spares_closeList (s : State) : Spares s (closeList s).1 := (spares_withFls _ s).trans (spares_retireAll _ _)

theorem spares_takeClose (s : State) : Spares s (takeClose s).1 := .ite_fst (fun _ => spares_closeList s) fun _ => .refl s

theorem spares_takeUnblock (s : State) : Spares s (takeUnblock s) := spares_of_quiet (takeUnblock_changes s)

/-! Halts and entries to STANDBY. -/

theorem spares_endEpisode (s : State) : Spares s (endEpisode s) :=
  spares_of_changes (endEpisode_changes s) (noticesKept_of_changes (endEpisode_changes s)) (Governing.endEpisode_entries s)

theorem spares_zeroSetpoints (s : State) : Spares s (zeroSetpoints s) :=
  spares_of_quiet ((zeroSetpoints_changes s).mono (by decide))

theorem spares_endRun (s : State) : Spares s (endRun s) :=
  .trans (.ite (fun _ => (spares_zeroSetpoints s).trans (spares_takeClose _)) fun _ => spares_zeroSetpoints s)
    (spares_endEpisode _)

/-- A change of the run controller in SYNC, RUN or STOPPING that leaves the line and the supervision count alone. -/
theorem spares_withRct {s : State} {r : Rct} (hactive : s.active = true) (htrip : r.tripIn = s.rct.tripIn)
    (hcount : r.supervision = s.rct.supervision) : Spares s (s.withRct r) where
  tracker := rfl
  config := rfl
  entries := rfl
  notices := noticesKept_of_eq rfl rfl
  watches _ := rfl
  tripIn := htrip
  supervision := hcount
  idle h := by rw [hactive] at h; cases h

theorem spares_toStandby {src : Source} {s : State} (hactive : s.active = true) (h : src ≠ .adcClip) :
    Spares s (toStandby (some src) s) :=
  (spares_withRct (r := s.rct.enter .standby) hactive rfl rfl).trans ((spares_occur _ h).trans (spares_endRun _))

theorem spares_takeHalt (c : HaltCause) (s : State) : Spares s (takeHalt c s) :=
  .ite (fun h => (spares_withRct (r := { s.rct.enter .halt with trip := some (tripRecordOf c s) }) h rfl rfl).trans
    ((spares_occur (src := .haltEntered) _ (by decide)).trans (spares_endRun _))) fun _ => .refl s

theorem spares_askHalt (c? : Option HaltCause) (s : State) : Spares s (askHalt c? s) := by
  cases c? with
  | none => exact .refl s
  | some c => exact spares_takeHalt c s

theorem spares_askMisfires (l : List (Fin 24)) (s : State) : Spares s (askMisfires l s) := by
  induction l generalizing s with
  | nil => exact .refl s
  | cons k rest ih => exact (spares_takeHalt (.misfire k) s).trans (ih _)

theorem spares_settle (s : State) : Spares s (settle s) :=
  (spares_takeUnblock s).trans ((spares_takeClose _).trans (spares_askMisfires _ _))

theorem spares_settleAt (o : UpdateOrder) (k : Nat) (s : State) : Spares s (settleAt o k s) :=
  .ite (fun _ => spares_settle s) fun _ => spares_takeUnblock s

theorem spares_tripCheck (s : State) : Spares s (tripCheck s) := by
  unfold tripCheck
  split
  · exact spares_askHalt _ s
  · exact .refl s

/-! The governor. -/

theorem spares_withDgv (d : Dgv) (s : State) : Spares s (s.withDgv d) :=
  spares_of_changes (Changes.withDgv s d) (noticesKept_of_eq rfl rfl) rfl

theorem spares_markEntry (ix : EntryIx) (f : Marks → Marks) (s : State) : Spares s (markEntry ix f s) :=
  spares_of_changes (markEntry_changes ix f s) (noticesKept_of_changes (markEntry_changes ix f s)) (markEntry_entries ix f s)

/-- The governor raises or withdraws a reseat request, and touches the tracker in nothing else (R34). -/
theorem spares_reseatRequest (b : Bool) (s : State) : Spares s (s.withAtr { s.atr with reseatRequest := b }) where
  tracker := rfl
  config := rfl
  entries := rfl
  notices := noticesKept_of_eq rfl rfl
  watches _ := rfl
  tripIn := rfl
  supervision := rfl
  idle _ := rfl

theorem spares_searchAndTake (k : Kind) (band : Nat) (renew : Bool) (s : State) :
    Spares s (searchAndTake k band renew s).1 := by
  rw [Governing.searchAndTake_eq, Governing.takeCopy_eq]
  exact (spares_markEntry _ _ s).trans ((spares_withDgv _ _).trans (spares_reseatRequest _ _))

theorem spares_onset (u : AngleUpdate) (s : State) : Spares s (onset u s).1 := by
  rw [Governing.onset_eq]
  have hopened : Spares s (Governing.opened u s) := (spares_withDgv _ s).trans (spares_withDgv _ _)
  have hrecorded : Spares s (Governing.recorded u s) := spares_withDgv _ s
  have hrepeated (t : State) : Spares t (tripRepeat t).1 := (spares_withDgv _ t).trans
    ((spares_occur (src := .episodeOnset) _ (by decide)).trans (.trans (spares_withDgv _ _) (spares_withDgv _ _)))
  exact .ite_fst (fun _ => hrecorded.trans (hrepeated _)) fun _ =>
    hopened.trans ((spares_searchAndTake _ _ _ _).trans (spares_occur _ (by decide)))

theorem spares_escalate (u : AngleUpdate) (s : State) : Spares s (escalate u s).1 := by
  by_cases hrises : Governing.Rises u s
  · rw [Governing.escalate_rises hrises]
    have hrisen : Spares s (Governing.risen u s) := (spares_withDgv _ s).trans (spares_withDgv _ _)
    exact hrisen.trans ((spares_searchAndTake _ _ _ _).trans (spares_occur _ (by decide)))
  · rw [Governing.escalate_holds hrises]
    exact .refl s

theorem spares_expire (s : State) : Spares s (expire s).1 := by
  have hexpired : Spares s (Governing.holdExpired s) := (spares_withDgv _ s).trans (spares_withDgv _ _)
  obtain h | h := Governing.expire_cases s <;> rw [h]
  · exact hexpired
  · exact hexpired.trans (.trans (spares_of_changes (raiseBlock_changes _)
      (noticesKept_of_changes (raiseBlock_changes _)) rfl) (spares_occur _ (by decide)))

theorem spares_clearEpisode (u : AngleUpdate) (s : State) : Spares s (clearEpisode u s) := by
  rw [Governing.clearEpisode_eq]
  have hridden : Spares s (Governing.ridden u s) :=
    (spares_withDgv _ s).trans ((spares_markEntry _ _ _).trans (spares_reseatRequest false _))
  exact hridden.trans ((spares_withDgv _ _).trans (spares_occur _ (by decide)))

theorem spares_judgeEpisode (u : AngleUpdate) (s : State) : Spares s (judgeEpisode u s).1 := by
  have hexpired : Spares s (if holdDue u s then expire s else (s, none)).1 :=
    .ite_fst (fun _ => spares_expire s) fun _ => .refl s
  have hcounted := hexpired.trans (spares_withDgv (countC u (if holdDue u s then expire s else (s, none)).1).dgv _)
  exact .ite_fst (fun _ => hexpired) fun _ => .ite_fst (fun _ => hexpired) fun _ =>
    .ite_fst (fun _ => hcounted.trans ((spares_takeClose _).trans (spares_clearEpisode u _))) fun _ => hcounted

theorem spares_episodeStep (u : AngleUpdate) (s : State) : Spares s (episodeStep u s).1 := by
  have hescalated := (spares_withDgv _ s).trans (spares_escalate u
    (s.withDgv { s.dgv with extremes := some (widen s.dgv.extremes (extremesOf s u)) }))
  exact .ite_fst (fun _ => hescalated) fun _ => hescalated.trans (spares_judgeEpisode u _)

theorem spares_recoveryStep (s : State) : Spares s (recoveryStep s) :=
  .ite (fun _ => (spares_withDgv _ s).trans ((spares_withDgv _ _).trans (spares_occur _ (by decide)))) fun _ =>
    spares_withDgv _ s

theorem spares_quietStep (u : AngleUpdate) (s : State) : Spares s (quietStep u s).1 := by
  have hcount : Spares s (countD u s) := .ite (fun _ => spares_withDgv _ s) fun _ => spares_withDgv _ s
  exact .ite_fst (fun _ => hcount.trans (spares_onset u _)) fun _ =>
    .ite_fst (fun _ => hcount.trans (spares_recoveryStep _)) fun _ => hcount

theorem spares_governorDeed (u : AngleUpdate) (s : State) : Spares s (governorDeed u s) := by
  have hstep : Spares s (governorStep u s).1 :=
    .ite_fst (fun _ => .ite_fst (fun _ => spares_episodeStep u s) fun _ => spares_quietStep u s) fun _ => .refl s
  exact hstep.trans ((spares_takeUnblock _).trans (spares_askHalt _ _))

/-! The run controller. -/

theorem spares_judgeSync {s : State} (h : s.active = true) : Spares s (judgeSync s) :=
  .ite (fun _ => (spares_withRct (r := { s.rct with state := .run, syncTimer := 0, settleCount := 0 }) h rfl rfl).trans
    (spares_occur (src := .runEntered) _ (by decide))) fun _ => .ite (fun _ => spares_toStandby h (by decide)) fun _ => .refl s

theorem spares_judgeStop {s : State} (h : s.active = true) : Spares s (judgeStop s) :=
  .ite (fun _ => spares_toStandby h (by decide)) fun _ => .refl s

theorem spares_lapse {s : State} (h : s.active = true) : Spares s (lapse s) :=
  (spares_withRct (r := { s.rct with lapsed := true }) h rfl rfl).trans
    ((spares_of_quiet ((zeroTargets_changes _).mono (by decide))).trans
      (spares_occur (src := .supervisionLapse) _ (by decide)))

theorem countSupervision_active (s : State) : (countSupervision s).active = s.active := rfl

/-- The run controller counts the supervision in every run state, and then acts in SYNC, RUN and STOPPING (R150). -/
theorem spares_runStep (u : AngleUpdate) (s : State) : Spares (countSupervision s) (runStep u s) := by
  cases hstate : s.rct.state with
  | standby => rw [Halting.runStep_idle u (.inl hstate)]; exact .refl _
  | halt => rw [Halting.runStep_idle u (.inr hstate)]; exact .refl _
  | sync =>
    have h : (countSupervision s).active = true := by rw [countSupervision_active, active_eq, hstate]; rfl
    rw [Halting.runStep_sync u hstate]
    refine (spares_withRct h ?_ ?_).trans (spares_judgeSync ?_)
    · rfl
    · rfl
    · exact h
  | run =>
    have h : (countSupervision s).active = true := by rw [countSupervision_active, active_eq, hstate]; rfl
    rw [Halting.runStep_run u hstate]
    exact .ite (fun _ => spares_lapse h) fun _ => .refl _
  | stopping =>
    have h : (countSupervision s).active = true := by rw [countSupervision_active, active_eq, hstate]; rfl
    rw [Halting.runStep_stopping u hstate]
    refine (spares_withRct h ?_ ?_).trans (spares_judgeStop ?_)
    · rfl
    · rfl
    · exact h

/-! The path of an update, the watch units. -/

/-- A change of the sequencer that leaves its slots' configuration alone. -/
theorem spares_withSsq {v : Ssq} {s : State} (h : v.config = s.ssq.config) : Spares s (s.withSsq v) where
  tracker := rfl
  config := h
  entries := rfl
  notices := noticesKept_of_eq rfl rfl
  watches _ := rfl
  tripIn := rfl
  supervision := rfl
  idle _ := rfl

theorem spares_handOff (e : Entry) (s : State) : Spares s (handOff e s) :=
  .ite (fun _ => (spares_withFls _ s).trans (spares_closeList _)) fun _ => spares_withFls _ s

theorem spares_dispatch (v : View) (u : AngleUpdate) (k : Nat) (s : State) : Spares s (dispatch v u k s) :=
  (spares_of_quiet ((Changes.withCrg s _).mono (by decide))).trans (spares_handOff _ _)

theorem spares_handleSlot (v : View) (u : AngleUpdate) (k : Nat) (s : State) : Spares s (handleSlot v u k s) :=
  .trans (.ite (fun _ => spares_dispatch v u k s) fun _ => .refl s) (spares_withSsq rfl)

theorem spares_resolveSync (k : Nat) (s : State) : Spares s (resolveSync k s) :=
  (spares_withSsq (v := { s.ssq with pointer := k, pendingSync := false }) rfl).trans (spares_takeUnblock _)

theorem spares_sequencerPoint (v : View) (u : AngleUpdate) (x : Nat) (s : State) :
    Spares s (sequencerPoint v u x s) := by
  refine .ite (fun _ => .refl s) fun _ => .ite (fun _ => ?_) fun _ =>
    .ite (fun _ => spares_handleSlot v u _ s) fun _ => .refl s
  split
  · exact (spares_resolveSync _ s).trans (spares_handleSlot v u _ _)
  · exact .refl s

theorem spares_retireDone (n : Nat) (s : State) : Spares s (retireDone n s) := by
  induction n generalizing s with
  | zero => exact .refl s
  | succ n ih =>
    unfold retireDone
    split
    · exact .refl s
    · exact .ite (fun _ => (spares_retireHead s).trans ((spares_askHalt _ _).trans (ih _))) fun _ => .refl s

theorem ofWatch_ne_adcClip (n : Fin 4) : Source.ofWatch n ≠ .adcClip := by revert n; decide

theorem spares_watchUnit (u : AngleUpdate) (n : Fin 4) (s : State) : Spares s (watchUnit u n s) := by
  have hwatch : Spares s (s.withWcu ⟨s.wcu.units.set n (watchAfter u s (s.wcu.units.get n))⟩) :=
    { tracker := rfl, config := rfl, entries := rfl, notices := noticesKept_of_eq rfl rfl, tripIn := rfl
      supervision := rfl, idle := fun _ => rfl
      watches := fun k => by
        rw [State.withWcu_wcu, Tab.get_set]
        split
        · next h => subst h; rfl
        · rfl }
  exact .ite (fun _ => hwatch.trans (spares_occur _ (ofWatch_ne_adcClip n))) fun _ => hwatch

theorem spares_watchStep (u : AngleUpdate) (s : State) : Spares s (watchStep u s) :=
  (spares_watchUnit u 0 s).trans ((spares_watchUnit u 1 _).trans ((spares_watchUnit u 2 _).trans
    (spares_watchUnit u 3 _)))

/-! The deeds of an update. -/

/-- The supervision counted `n` times. -/
def countedTimes (n : Nat) (s : State) : State := countSupervision^[n] s

theorem spares_countSupervision {s t : State} (h : Spares s t) : Spares (countSupervision s) (countSupervision t) where
  tracker := h.tracker
  config := h.config
  entries := h.entries
  notices := ⟨h.notices.settings, h.notices.clip, h.notices.mask⟩
  watches := h.watches
  tripIn := h.tripIn
  supervision := congrArg (satInc Config.supervisionMax) h.supervision
  idle hs := congrArg (fun r : Rct => { r with supervision := satInc Config.supervisionMax r.supervision }) (h.idle hs)

theorem spares_countedTimes (n : Nat) {s t : State} (h : Spares s t) : Spares (countedTimes n s) (countedTimes n t) := by
  induction n generalizing s t with
  | zero => exact h
  | succ n ih => exact ih (spares_countSupervision h)

/-- Does this deed count the supervision? -/
def isRun (d : Deed) : Bool := d == .run

theorem spares_doDeed (v : View) (u : AngleUpdate) (d : Deed) (s : State) :
    Spares (countedTimes (isRun d).toNat s) (doDeed v u d s) := by
  cases d with
  | take => exact .refl s
  | path n => exact (spares_sequencerPoint v u _ s).trans (spares_withFls _ _)
  | listEnd => exact (spares_withFls _ s).trans (spares_retireDone _ _)
  | trip => exact spares_tripCheck s
  | governor => exact spares_governorDeed u s
  | ramp => exact spares_of_quiet ((rampStep_changes s).mono (by decide))
  | run => exact spares_runStep u s
  | watch => exact spares_watchStep u s

theorem spares_doDeeds (o : UpdateOrder) (u : AngleUpdate) (v : View) (l : List (Nat × Deed)) (s : State) :
    Spares (countedTimes (l.countP fun x => isRun x.2) s) (doDeeds o u v l s) := by
  induction l generalizing v s with
  | nil => exact spares_settle s
  | cons x rest ih =>
    have hfirst := (spares_countedTimes (isRun x.2).toNat (spares_settleAt o x.1 s)).trans (spares_doDeed (v.at o x.1) u x.2 _)
    have hcount : (x :: rest).countP (fun x => isRun x.2) =
        (rest.countP fun x => isRun x.2) + (isRun x.2).toNat := by
      rw [List.countP_cons]
      cases isRun x.2 <;> rfl
    rw [hcount, countedTimes, Function.iterate_add_apply]
    exact (spares_countedTimes _ hfirst).trans (ih _ _)

/-! Every agenda holds the run controller's deed once. -/

theorem countP_placeDeed (p : Nat × Deed → Bool) (k : Nat) (d : Deed) (l : List (Nat × Deed)) :
    (placeDeed k d l).countP p = l.countP p + (p (k, d)).toNat := by
  induction l with
  | nil => simp [placeDeed, List.countP_cons]; cases p (k, d) <;> rfl
  | cons x rest ih =>
    unfold placeDeed
    split
    · rw [List.countP_cons]
      cases p (k, d) <;> rfl
    · rw [List.countP_cons, List.countP_cons, ih]
      omega

theorem countP_run_pathDeeds (u : AngleUpdate) : (pathDeeds u).countP (fun x => isRun x.2) = 0 := by
  rw [List.countP_eq_zero]
  intro x hx
  obtain hx | hx := List.mem_append.mp hx
  · obtain ⟨i, -, rfl⟩ := List.mem_map.mp hx
    simp [isRun]
  · obtain rfl := List.mem_singleton.mp hx
    simp [isRun]

theorem countP_run_agenda (o : UpdateOrder) (u : AngleUpdate) : (agenda o u).countP (fun x => isRun x.2) = 1 := by
  unfold agenda
  dsimp only
  split <;> simp only [countP_placeDeed, countP_run_pathDeeds] <;> rfl

theorem spares_takeReseat (u : AngleUpdate) (s : State) : Spares s (takeReseat u s) :=
  .ite (fun _ => spares_withSsq rfl) fun _ => .refl s

/-- Every block takes an angle update: the supervision is counted once, and all else that the relation names stays. -/
theorem spares_takeUpdate (u : AngleUpdate) (s : State) : Spares (countSupervision s) (takeUpdate u s) := by
  have hdeeds := spares_doDeeds s.order u (takeReseat u s).view (agenda s.order u) (takeReseat u s)
  rw [countP_run_agenda] at hdeeds
  exact (spares_countSupervision (spares_takeReseat u s)).trans hdeeds

end Sys2Proof.UpdateFrame
end

section
/-!
The trimmed-set check where it comes first (R143): the cause that it finds, the halt it brings about, and that the rest of the
conversion set leaves the halt and its trip record standing. The file settles O26.
-/

namespace Sys2Proof.SetTrip

open Sys2Proof.Machine Sys2Proof.Claims Sys2Proof.OneSet Sys2Proof.UpdateFrame

/-! From the completed set to the angle update. -/

/-- The filtered set of a conversion set. -/
def filteredAt (raw : RawSet) (s : State) : FilteredSet := filteredOf (trimmedOf raw s) (checked raw s)

/-- The state that the tracker sees in a conversion set. -/
def filteredState (raw : RawSet) (s : State) : State := filterSet (trimmedOf raw s) (checked raw s)

/-- The state in which the blocks take the angle update of a conversion set. -/
def tracked (raw : RawSet) (s : State) : State := trackerUpdate (filteredAt raw s) (filteredState raw s)

/-- The angle update of a conversion set. -/
def updateAt (raw : RawSet) (s : State) : AngleUpdate := updateOf (filteredAt raw s) (filteredState raw s)

theorem conversionSet_tracked (raw : RawSet) (s : State) :
    conversionSet raw s = (takeUpdate (updateAt raw s) (tracked raw s)).dropOrder := conversionSet_takes raw s

theorem tracked_changes (raw : RawSet) (s : State) : Changes [.ffb, .atr, .ntu, .trc] (checked raw s) (tracked raw s) :=
  ((filterSet_changes _ _).mono (by decide)).trans ((trackerUpdate_changes _ _).mono (by decide))

theorem spares_dropOrder (s : State) : Spares s s.dropOrder :=
  spares_of_changes (Changes.withOrders s _) (noticesKept_of_eq rfl rfl) rfl

theorem spares_conversionSet (raw : RawSet) (s : State) :
    Spares (countSupervision (tracked raw s)) (conversionSet raw s) := by
  rw [conversionSet_tracked]
  exact (spares_takeUpdate _ _).trans (spares_dropOrder _)

theorem tracked_rct (raw : RawSet) (s : State) : (tracked raw s).rct = (checked raw s).rct :=
  tracked_changes raw s .rct (by decide)

/-- Once the check has left the group idle, the rest of the set only counts the supervision. -/
theorem conversionSet_rct_idle (raw : RawSet) {s : State} (h : (checked raw s).active = false) :
    (conversionSet raw s).rct =
      { (checked raw s).rct with supervision := min 1200000 ((checked raw s).rct.supervision + 1) } := by
  have hidle : (countSupervision (tracked raw s)).active = false := by
    rw [countSupervision_active, active_congr (tracked_rct raw s)]
    exact h
  rw [(spares_conversionSet raw s).idle hidle, Halting.countSupervision_eq, State.withRct_rct, tracked_rct]

/-! The cause (R143). -/

theorem tripCauseOf_overcurrent {t : TrimmedSet} {s : State} {b : Fin 4} (hb : b.1 < s.parN .bridges)
    (hover : s.par .iTrip < (t.values.get (currentChannel b)).toInt)
    (hlow : ∀ a : Fin 4, a < b → (t.values.get (currentChannel a)).toInt ≤ s.par .iTrip) :
    tripCauseOf t s = some (.overcurrent b) := by
  have hfind := TableSearch.find?_of_ascending (i := b)
    (p := fun b => decide (b.1 < s.parN .bridges) && decide (s.par .iTrip < (t.values.get (currentChannel b)).toInt))
    (by simp [hb, hover]) (List.pairwise_lt_finRange 4) (List.mem_finRange b)
    (fun a _ ha => by simp [hlow a ha])
  unfold tripCauseOf
  dsimp only
  rw [hfind]

theorem tripCauseOf_overvoltage {t : TrimmedSet} {s : State}
    (hlow : ∀ b : Fin 4, b.1 < s.parN .bridges → (t.values.get (currentChannel b)).toInt ≤ s.par .iTrip)
    (hover : s.par .vTrip < (t.values.get 7).toInt) : tripCauseOf t s = some .overvoltage := by
  unfold tripCauseOf
  dsimp only
  rw [List.find?_eq_none.mpr fun b _ => by simpa using hlow b]
  exact if_pos hover

/-! The halt. -/

theorem checked_eq (raw : RawSet) {s : State} (h : s.order.tripFirst = true) : checked raw s =
    settleAt s.order 0 (askHalt (tripCauseOf (trimmedOf raw s) (completeSet raw s)) (completeSet raw s)) := by
  have htrimmed : (completeSet raw s).mfe.trimmed = some (trimmedOf raw s) := by rw [completeSet_mfe]; rfl
  rw [checked, if_pos h, tripCheck, htrimmed]

theorem conversionSet_halts (raw : RawSet) {s : State} {c : HaltCause} (hrun : Running3 s) (hfirst : s.order.tripFirst = true)
    (hcause : tripCauseOf (trimmedOf raw s) (completeSet raw s) = some c) :
    ∃ r, (conversionSet raw s).rct.state = .halt ∧ (conversionSet raw s).rct.trip = some r ∧ r.cause = c
      ∧ r.time = s.mfe.count + 1 ∧ r.left = s.rct.state := by
  have hactive : (completeSet raw s).active = true := by
    rw [active_congr (completeSet_rct raw s)]
    exact (Requests.active_iff s).mpr hrun
  have hchecked : (checked raw s).rct = (takeHalt c (completeSet raw s)).rct := by
    rw [checked_eq raw hfirst, hcause]
    exact (spares_settleAt _ _ _).idle (takeHalt_not_active c _)
  have hidle : (checked raw s).active = false := (active_congr hchecked).trans (takeHalt_not_active c _)
  rw [conversionSet_rct_idle raw hidle, hchecked, takeHalt_rct_active c _ hactive]
  refine ⟨_, rfl, rfl, rfl, ?_, ?_⟩
  · rw [tripRecordOf, completeSet_mfe]; rfl
  · rw [tripRecordOf, completeSet_rct]

/-- Settles O26: the cause by the first bridge over the limit, or by VDC, and the halt that no later deed takes back. -/
theorem trimmedSetTrips : Obligations.TrimmedSetTrips := by
  intro raw s hawake hrun hfirst v
  have hpar (p : ParamId) : (completeSet raw s).par p = s.par p := by rw [State.par, completeSet_params]; rfl
  have hbridges : (completeSet raw s).parN .bridges = s.parN .bridges := congrArg Int.toNat (hpar _)
  have hvalue (i : Fin 8) : ((trimmedOf raw s).values.get i).toInt = v i := congrArg BitVec.toInt (Tab.get_ofFn _ i)
  have hexec : exec (.conversionSet raw) s = .next (conversionSet raw s) :=
    congrArg Host.Outcome.next (Resetting.whileAwake_of_awake hawake)
  constructor
  · intro b hb hover hlow
    have hcause : tripCauseOf (trimmedOf raw s) (completeSet raw s) = some (.overcurrent b) :=
      tripCauseOf_overcurrent (by rwa [hbridges]) (by rwa [hpar, hvalue]) fun a ha => by rw [hpar, hvalue]; exact hlow a ha
    obtain ⟨r, hstate, htrip, hr, htime, hleft⟩ := conversionSet_halts raw hrun hfirst hcause
    exact ⟨_, r, hexec, hstate, htrip, hr, htime, hleft⟩
  · intro hlow hover
    have hcause : tripCauseOf (trimmedOf raw s) (completeSet raw s) = some .overvoltage :=
      tripCauseOf_overvoltage (fun b hb => by rw [hpar, hvalue]; exact hlow b (by rwa [hbridges] at hb))
        (by rwa [hpar, hvalue])
    obtain ⟨r, hstate, htrip, hr, htime, -⟩ := conversionSet_halts raw hrun hfirst hcause
    exact ⟨_, r, hexec, hstate, htrip, hr, htime⟩

end Sys2Proof.SetTrip
end

section
/-!
The layouts of the records that are read (R187, R188): the bytes that pack several fields, then each record with its fields at
their offsets, and where READ_TRACE starts (R170). The file settles O41.
-/

namespace Sys2Proof.ReadLayouts

open Sys2Proof.Machine Sys2Proof.Claims Sys2Proof.Requests

/-! Packed bytes. -/

/-- A field of one byte stands at its offset. -/
theorem holds_byte {l : List Byte} {n v : Nat} {b : Byte} (h : (l.drop n).take 1 = [b]) (hb : b = BitVec.ofNat 8 v) :
    Holds l n 1 v := h.trans (congrArg (fun x => [x]) hb)

/-- A field of a part of a record stands in the record, behind all that comes before the part. -/
theorem holds_within {l pre mid post : List Byte} {n m k w v : Nat} (hl : l = pre ++ (mid ++ post))
    (hpre : pre.length = n) (h : Holds mid k w v) (hin : k + w ≤ mid.length) (hm : m = n + k) : Holds l m w v := by
  subst hl hm hpre
  rw [Holds, ← List.drop_drop, List.drop_left, List.drop_append_of_le_length (by omega),
    List.take_append_of_le_length (by rw [List.length_drop]; omega)]
  exact h

theorem flags_two (a b : Bool) :
    byteOfBool a ||| (byteOfBool b <<< 1) = BitVec.ofNat 8 (a.toNat + 2 * b.toNat) := by revert a b; decide

theorem flags_three (a b c : Bool) : byteOfBool a ||| (byteOfBool b <<< 1) ||| (byteOfBool c <<< 2) =
    BitVec.ofNat 8 (a.toNat + 2 * b.toNat + 4 * c.toNat) := by revert a b c; decide

theorem flags_five (a b c d e : Bool) :
    byteOfBool a ||| (byteOfBool b <<< 1) ||| (byteOfBool c <<< 2) ||| (byteOfBool d <<< 3) ||| (byteOfBool e <<< 4) =
      BitVec.ofNat 8 (a.toNat + 2 * b.toNat + 4 * c.toNat + 8 * d.toNat + 16 * e.toNat) := by
  revert a b c d e; decide

/-- Bridge, outcome, episode mark and areas of a trace entry. -/
theorem traceByte (bridge : Fin 4) (o : RetireOutcome) (mark areas : Bool) :
    BitVec.ofNat 8 bridge.1 ||| (o.code <<< 2) ||| (byteOfBool mark <<< 4) ||| (byteOfBool areas <<< 5) =
      BitVec.ofNat 8 (bridge.1 + 4 * o.code.toNat + 16 * mark.toNat + 32 * areas.toNat) := by
  cases o <;> revert bridge mark areas <;> decide

/-- Outcome, areas and presence of a slot's last retirement. -/
theorem retirementByte (o : RetireOutcome) (areas : Bool) :
    o.code ||| (byteOfBool areas <<< 6) ||| (byteOfBool true <<< 7) =
      BitVec.ofNat 8 (o.code.toNat + 64 * areas.toNat + 128) := by
  cases o <;> revert areas <;> decide

/-- Kind, fallback and valid of a response entry. -/
theorem responseKindByte (k : Kind) (fallback valid : Bool) :
    (k.code.setWidth 3).setWidth 8 ||| (byteOfBool fallback <<< 3) ||| (byteOfBool valid <<< 7) =
      BitVec.ofNat 8 (k.code.toNat + 8 * fallback.toNat + 128 * valid.toNat) := by
  cases k <;> revert fallback valid <;> decide

theorem bandsByte_fin (lo hi : Fin 8) :
    (BitVec.ofNat 3 lo.1).setWidth 8 ||| ((BitVec.ofNat 3 hi.1).setWidth 8 <<< 4) =
      BitVec.ofNat 8 (lo.1 + 16 * hi.1) := by
  revert lo hi; decide

/-- The two bands of a response entry. -/
theorem bandsByte {lo hi : Nat} (hlo : lo ≤ 7) (hhi : hi ≤ 7) :
    (BitVec.ofNat 3 lo).setWidth 8 ||| ((BitVec.ofNat 3 hi).setWidth 8 <<< 4) = BitVec.ofNat 8 (lo + 16 * hi) :=
  bandsByte_fin ⟨lo, Nat.lt_succ_of_le hlo⟩ ⟨hi, Nat.lt_succ_of_le hhi⟩

/-- Action, on_expiry and mode of a response entry. -/
theorem responseActionByte (a : Action) (onExpiry : Bool) (m : TrackerMode) :
    (a.code.setWidth 2).setWidth 8 ||| (byteOfBool onExpiry <<< 2) ||| ((m.code.setWidth 2).setWidth 8 <<< 4) =
      BitVec.ofNat 8 (a.code.toNat + 4 * onExpiry.toNat + 16 * m.code.toNat) := by
  cases a <;> cases m <;> revert onExpiry <;> decide

/-- The two kinds of a history record. -/
theorem kindsByte (onset k : Kind) :
    onset.code ||| (k.code <<< 4) = BitVec.ofNat 8 (onset.code.toNat + 16 * k.code.toNat) := by
  cases onset <;> cases k <;> decide

theorem historyByte_fin (band : Fin 8) (expired blocked : Bool) (o : HistoryOutcome) :
    BitVec.ofNat 8 band.1 ||| (byteOfBool expired <<< 3) ||| (byteOfBool blocked <<< 4) ||| (o.code <<< 5) =
      BitVec.ofNat 8 (band.1 + 8 * expired.toNat + 16 * blocked.toNat + 32 * o.code.toNat) := by
  cases o <;> revert band expired blocked <;> decide

/-- Band, flags and outcome of a history record. -/
theorem historyByte {band : Nat} (h : band ≤ 7) (expired blocked : Bool) (o : HistoryOutcome) :
    BitVec.ofNat 8 band ||| (byteOfBool expired <<< 3) ||| (byteOfBool blocked <<< 4) ||| (o.code <<< 5) =
      BitVec.ofNat 8 (band + 8 * expired.toNat + 16 * blocked.toNat + 32 * o.code.toNat) :=
  historyByte_fin ⟨band, Nat.lt_succ_of_le h⟩ expired blocked o

/-- A 16-bit field holds the number it was given, taken to 16 bits. -/
theorem bytesOf_ofNat (v : Nat) : bytesOf 2 (BitVec.ofNat 16 v).toNat = bytesOf 2 v := by
  have hnum : (BitVec.ofNat 16 v).toNat = numOf (bytesOf 2 v) := by rw [Bytes.numOf_bytesOf, BitVec.toNat_ofNat]; rfl
  rw [hnum, StoredImage.bytesOf_numOf (Bytes.length_bytesOf 2 v).le]
  rfl

/-! The status record (R184). -/

theorem saving_decide (s : State) [Decidable (∃ n, s.sst.activity = .saving n)] :
    decide (∃ n, s.sst.activity = .saving n) = s.saving := by
  rw [Bool.eq_iff_iff, decide_eq_true_iff]
  exact (saving_iff s).symm

theorem runReason_decide (s : State) : decide (s.rct.state ≠ .run ∧ s.rct.state ≠ .stopping) = s.runReason := by
  unfold State.runReason State.running
  cases s.rct.state <;> rfl

theorem trackerReason_decide (s : State) : decide (s.atr.state = .search ∨ s.atr.state = .lost) = s.trackerReason := by
  unfold State.trackerReason
  cases s.atr.state <;> rfl

/-- The fields before the bridges, 16 bytes. -/
def statusHead (s : State) : List Byte :=
  [s.rct.state.code, s.reasonsByte, s.atr.state.code, s.dgv.state.code, kindByte s.dgv.kind,
    bandByte s.dgv.kind s.dgv.band, s.governingAction, s.governingIndex]
  ++ bytesOf 2 s.atr.m ++ bytesOf 2 (centihertz s.atr.w) ++ bytesOf 2 (s.atr.p / 256) ++ bytesOf 2 s.atr.uLast

/-- The fields behind the bridges, 9 bytes. -/
def statusTail (s : State) : List Byte :=
  [BitVec.ofNat 8 s.fls.list.length, s.trc.state.code] ++ bytesOf 2 s.lnk.errors ++ w32 s.mfe.count ++ [s.storeByte]

/-- All before the fields behind the bridges. -/
def statusFront (s : State) : List Byte :=
  statusHead s ++ bridgeBytes s 0 ++ bridgeBytes s 1 ++ bridgeBytes s 2 ++ bridgeBytes s 3

theorem length_statusHead (s : State) : (statusHead s).length = 16 := rfl

theorem length_bridgeBytes (s : State) (b : Fin 4) : (bridgeBytes s b).length = 8 := rfl

theorem length_statusFront (s : State) : (statusFront s).length = 48 := by
  simp only [statusFront, List.length_append, length_statusHead, length_bridgeBytes]

theorem status_tail (s : State) : statusBytes s = statusFront s ++ (statusTail s ++ []) := by
  simp only [statusBytes, statusFront, statusHead, statusTail, List.append_assoc, List.append_nil]

theorem status_parts (s : State) : statusBytes s = [] ++ (statusHead s ++
    (bridgeBytes s 0 ++ (bridgeBytes s 1 ++ (bridgeBytes s 2 ++ (bridgeBytes s 3 ++ statusTail s))))) := by
  simp only [status_tail, statusFront, List.append_assoc, List.append_nil, List.nil_append]

theorem status_bridge (s : State) (b : Fin 4) :
    ∃ pre post, statusBytes s = pre ++ (bridgeBytes s b ++ post) ∧ pre.length = 16 + 8 * b.1 := by
  rw [status_parts, List.nil_append]
  match b with
  | 0 => exact ⟨statusHead s, _, rfl, rfl⟩
  | 1 => exact ⟨statusHead s ++ bridgeBytes s 0, _, (List.append_assoc _ _ _).symm, rfl⟩
  | 2 =>
    refine ⟨statusHead s ++ bridgeBytes s 0 ++ bridgeBytes s 1, bridgeBytes s 3 ++ statusTail s, ?_, rfl⟩
    simp only [List.append_assoc]
  | 3 =>
    refine ⟨statusHead s ++ bridgeBytes s 0 ++ bridgeBytes s 1 ++ bridgeBytes s 2, statusTail s, ?_, rfl⟩
    simp only [List.append_assoc]

theorem status_layout (s : State) :
    (statusBytes s).length = 57
    ∧ (statusBytes s).take 8 = [s.rct.state.code, s.reasonsByte, s.atr.state.code, s.dgv.state.code,
        kindByte s.dgv.kind, bandByte s.dgv.kind s.dgv.band, s.governingAction, s.governingIndex]
    ∧ s.reasonsByte = BitVec.ofNat 8 ((decide (s.rct.state ≠ .run ∧ s.rct.state ≠ .stopping)).toNat
        + 2 * s.rct.tripIn.toNat + 4 * (decide (s.atr.state = .search ∨ s.atr.state = .lost)).toNat
        + 8 * s.dgv.block.toNat + 16 * s.ssq.pendingSync.toNat)
    ∧ Holds (statusBytes s) 8 2 s.atr.m ∧ Holds (statusBytes s) 10 2 ((4000000 * s.atr.w + 5898240) / 11796480)
    ∧ Holds (statusBytes s) 12 2 (s.atr.p / 256) ∧ Holds (statusBytes s) 14 2 s.atr.uLast
    ∧ (∀ b : Fin 4, Holds (statusBytes s) (16 + 8 * b.1) 2 (s.crg.bridges.get b).target
        ∧ Holds (statusBytes s) (18 + 8 * b.1) 2 ((s.crg.bridges.get b).setpoint / 256)
        ∧ Holds (statusBytes s) (20 + 8 * b.1) 2 (s.lastCurrent b).toNat
        ∧ Holds (statusBytes s) (22 + 8 * b.1) 2 (s.crg.bridges.get b).alphaPrev)
    ∧ Holds (statusBytes s) 48 1 s.fls.list.length ∧ (statusBytes s)[49]? = some s.trc.state.code
    ∧ Holds (statusBytes s) 50 2 s.lnk.errors ∧ Holds (statusBytes s) 52 4 s.mfe.count.toNat
    ∧ Holds (statusBytes s) 56 1 ((decide (∃ n, s.sst.activity = .saving n)).toNat + 2 * s.sst.latch.toNat) := by
  have hhead {k w v : Nat} (h : Holds (statusHead s) k w v) (hin : k + w ≤ 16) : Holds (statusBytes s) k w v :=
    holds_within (status_parts s) rfl h hin (Nat.zero_add k).symm
  have htail {k w v n : Nat} (h : Holds (statusTail s) k w v) (hin : k + w ≤ 9) (hn : n = 48 + k) :
      Holds (statusBytes s) n w v := holds_within (status_tail s) (length_statusFront s) h hin hn
  have hfrequency : Holds (statusHead s) 10 2 (centihertz s.atr.w) := rfl
  refine ⟨?length, ?first, ?reasons, hhead (k := 8) rfl (by decide), hhead hfrequency (by decide),
    hhead (k := 12) rfl (by decide), hhead (k := 14) rfl (by decide), ?bridges, htail (k := 0) rfl (by decide) rfl,
    ?trace, htail (k := 2) rfl (by decide) rfl, htail (k := 4) rfl (by decide) rfl, ?store⟩
  case length =>
    rw [status_tail, List.append_nil, List.length_append, length_statusFront]
    rfl
  case first =>
    rw [status_parts, List.nil_append]
    exact List.take_append_of_le_length (by rw [length_statusHead]; decide)
  case reasons =>
    rw [runReason_decide, trackerReason_decide]
    exact flags_five _ _ _ _ _
  case bridges =>
    intro b
    obtain ⟨pre, post, hparts, hpre⟩ := status_bridge s b
    have hfield {k w v n : Nat} (h : Holds (bridgeBytes s b) k w v) (hin : k + w ≤ 8) (hn : n = 16 + 8 * b.1 + k) :
        Holds (statusBytes s) n w v := holds_within hparts hpre h hin hn
    exact ⟨hfield (k := 0) rfl (by decide) (by omega), hfield (k := 2) rfl (by decide) (by omega),
      hfield (k := 4) rfl (by decide) (by omega), hfield (k := 6) rfl (by decide) (by omega)⟩
  case trace =>
    rw [status_tail, List.append_nil, List.getElem?_append_right (by rw [length_statusFront]; decide), length_statusFront]
    rfl
  case store =>
    rw [saving_decide]
    exact htail (k := 8) (holds_byte (b := s.storeByte) rfl (flags_two _ _)) (by decide) rfl

/-! The trace (R170). -/

theorem length_traceHeaderBytes (c : Trc) (found : Bool) : (traceHeaderBytes c found).length = 17 := rfl

/-- In a ring of consecutive sequences a start sequence that is held stands at its distance from the oldest. -/
theorem traceStart_held {ring : List TraceRecord} {o first : BitVec 16} (hlen : ring.length ≤ 256)
    (hseq : ∀ i (h : i < ring.length), ring[i].seq = o + BitVec.ofNat 16 i) {i : Nat} (hi : i < ring.length)
    (hfirst : ring[i].seq = first) : traceStart ring first = some i := by
  cases ring with
  | nil => simp at hi
  | cons r rest =>
    have hr : r.seq = o := (hseq 0 (Nat.zero_lt_succ _)).trans (by simp)
    have hdist : (first - r.seq).toNat = i := by
      rw [← hfirst, hseq i hi, hr, add_sub_cancel_left, BitVec.toNat_ofNat]
      exact Nat.mod_eq_of_lt (by omega)
    rw [traceStart, hdist]
    exact if_pos hi

theorem traceStart_missing {ring : List TraceRecord} {o first : BitVec 16}
    (hseq : ∀ i (h : i < ring.length), ring[i].seq = o + BitVec.ofNat 16 i) (hfirst : ∀ r ∈ ring, r.seq ≠ first) :
    traceStart ring first = none := by
  cases ring with
  | nil => rfl
  | cons r rest =>
    have hr : r.seq = o := (hseq 0 (Nat.zero_lt_succ _)).trans (by simp)
    refine if_neg fun hheld => hfirst _ (List.getElem_mem hheld) ?_
    rw [hseq _ hheld, hr, BitVec.ofNat_toNat, BitVec.setWidth_eq, add_sub_cancel]

theorem oldest_seq {ring : List TraceRecord} {o : BitVec 16} (hne : ring ≠ [])
    (hseq : ∀ i (h : i < ring.length), ring[i].seq = o + BitVec.ofNat 16 i) : (ring.head?.map (·.seq)).getD 0 = o := by
  cases ring with
  | nil => exact absurd rfl hne
  | cons r rest => exact (hseq 0 (Nat.zero_lt_succ _)).trans (by simp)

theorem newest_seq {ring : List TraceRecord} {o : BitVec 16} (hne : ring ≠ [])
    (hseq : ∀ i (h : i < ring.length), ring[i].seq = o + BitVec.ofNat 16 i) :
    (ring.getLast?.map (·.seq)).getD 0 = o + BitVec.ofNat 16 (ring.length - 1) := by
  have hlast : ring.length - 1 < ring.length := Nat.sub_lt (List.length_pos_iff.mpr hne) Nat.one_pos
  rw [List.getLast?_eq_getElem?, List.getElem?_eq_getElem hlast, ← hseq _ hlast]
  rfl

theorem readTrace_entries (c : Trc) (first : BitVec 16) (n : Nat) : (readTraceBytes c first n).drop 17 =
    ((c.ring.drop ((traceStart c.ring first).getD 0)).take n).flatMap traceEntryBytes :=
  List.drop_left' (length_traceHeaderBytes _ _)

theorem readTrace_found (c : Trc) (first : BitVec 16) (n : Nat) :
    (readTraceBytes c first n)[15]? = some (byteOfBool (!(traceStart c.ring first).isSome)) := rfl

theorem isEmpty_decide (l : List TraceRecord) [Decidable (l ≠ [])] : decide (l ≠ []) = !l.isEmpty := by
  cases l <;> simp

theorem readTrace_layout (c : Trc) (o : BitVec 16) (first : BitVec 16) (n : Nat) (hlen : c.ring.length ≤ 256)
    (hseq : ∀ i (h : i < c.ring.length), c.ring[i].seq = o + BitVec.ofNat 16 i) :
    let l := readTraceBytes c first n
    (∀ i (h : i < c.ring.length), c.ring[i].seq = first →
      l.drop 17 = ((c.ring.drop i).take n).flatMap traceEntryBytes ∧ l[15]? = some 0)
    ∧ ((∀ r ∈ c.ring, r.seq ≠ first) → l.drop 17 = (c.ring.take n).flatMap traceEntryBytes ∧ l[15]? = some 1)
    ∧ l[0]? = some c.state.code ∧ Holds l 1 2 c.ring.length
    ∧ (c.ring ≠ [] → Holds l 3 2 o.toNat ∧ Holds l 5 2 (o + BitVec.ofNat 16 (c.ring.length - 1)).toNat)
    ∧ (c.ring = [] → Holds l 3 2 0 ∧ Holds l 5 2 0)
    ∧ Holds l 7 2 (c.position.getD 0).toNat
    ∧ l[9]? = some (match c.cause with | none => 0xFF | some .request => 0x80 | some (.source k) => BitVec.ofNat 8 k.1)
    ∧ Holds l 10 4 (c.time.getD 0).toNat ∧ Holds l 14 1 c.post
    ∧ Holds l 16 1 ((decide (c.ring ≠ [])).toNat + 2 * c.position.isSome.toNat + 4 * c.time.isSome.toNat) := by
  intro l
  have holdest : Holds l 3 2 ((c.ring.head?.map TraceRecord.seq).getD 0).toNat := rfl
  have hnewest : Holds l 5 2 ((c.ring.getLast?.map TraceRecord.seq).getD 0).toNat := rfl
  refine ⟨?held, ?missing, rfl, rfl, ?seqs, ?empty, rfl, ?cause, rfl, rfl, ?flags⟩
  case held =>
    intro i hi hfirst
    rw [readTrace_entries, readTrace_found, traceStart_held hlen hseq hi hfirst]
    exact ⟨rfl, rfl⟩
  case missing =>
    intro hfirst
    rw [readTrace_entries, readTrace_found, traceStart_missing hseq hfirst]
    exact ⟨rfl, rfl⟩
  case seqs =>
    intro hne
    rw [oldest_seq hne hseq] at holdest
    rw [newest_seq hne hseq] at hnewest
    exact ⟨holdest, hnewest⟩
  case empty =>
    intro hring
    rw [hring] at holdest hnewest
    exact ⟨holdest, hnewest⟩
  case cause =>
    have hcause : l[9]? = some (match c.cause with | some x => x.code | none => 0xFF) := rfl
    rw [hcause]
    cases c.cause with
    | none => rfl
    | some x => cases x <;> rfl
  case flags =>
    rw [isEmpty_decide]
    exact holds_byte rfl (flags_three _ _ _)

theorem traceEntry_layout (r : TraceRecord) :
    let l := traceEntryBytes r
    l.length = 20 ∧ Holds l 0 2 r.seq.toNat ∧ Holds l 2 4 r.doneTime.toNat ∧ Holds l 6 1 r.slot.1
    ∧ Holds l 7 1 (r.bridge.1 + 4 * r.outcome.code.toNat + 16 * r.episodeMark.toNat + 32 * r.areas.isSome.toNat)
    ∧ Holds l 8 2 r.alpha ∧ Holds l 10 2 r.fire ∧ Holds l 12 3 (r.areas.getD (0, 0)).1
    ∧ Holds l 15 3 (r.areas.getD (0, 0)).2 ∧ Holds l 18 2 r.iMeas.toNat :=
  ⟨rfl, rfl, rfl, rfl, holds_byte rfl (traceByte _ _ _ _), rfl, rfl, rfl, rfl, rfl⟩

/-! The trip record (R147). -/

theorem tab_list_three {α : Type} (t : Tab α 3) : t.list = [t.get 0, t.get 1, t.get 2] := LoadEnd.tab_list_eq t

theorem tab_list_four {α : Type} (t : Tab α 4) : t.list = [t.get 0, t.get 1, t.get 2, t.get 3] := LoadEnd.tab_list_eq t

theorem trip_layout (r : TripRecord) :
    let l := tripBytes r
    l.length = 21 ∧ l.take 2 = [haltReasonCode r.cause, haltDetailCode r.cause] ∧ Holds l 2 4 r.time.toNat
    ∧ l[6]? = some r.left.code ∧ Holds l 7 2 r.m ∧ Holds l 9 2 r.w
    ∧ (∀ b : Fin 4, Holds l (11 + 2 * b.1) 2 (r.currents.get b).toNat)
    ∧ l.drop 19 = (match r.episode with | some (k, band) => [k.code, BitVec.ofNat 8 band] | none => [0xFF, 0xFF]) := by
  intro l
  have hl : l = [haltReasonCode r.cause, haltDetailCode r.cause] ++ w32 r.time ++ [r.left.code] ++ bytesOf 2 r.m
      ++ bytesOf 2 r.w ++ [r.currents.get 0, r.currents.get 1, r.currents.get 2, r.currents.get 3].flatMap w16
      ++ [kindByte (r.episode.map (·.1)), bandByte (r.episode.map (·.1)) ((r.episode.map (·.2)).getD 0)] := by
    rw [← tab_list_four]
    rfl
  rw [hl]
  refine ⟨rfl, rfl, rfl, rfl, rfl, rfl, ?currents, ?episode⟩
  case currents =>
    intro b
    match b with
    | 0 | 1 | 2 | 3 => rfl
  case episode => cases r.episode <;> rfl

/-! The slot record (R53). -/

theorem slot_layout (s : State) (k : Fin 24) :
    let l := slotBytes s k.1
    let c := s.ssq.config.get k
    let t := s.fls.status.get k
    l.length = 37 ∧ Holds l 0 1 k.1 ∧ l[1]? = some c.channel.code ∧ Holds l 2 3 c.aMin.toNat ∧ Holds l 5 3 c.refLimit.toNat
    ∧ Holds l 8 1 t.consecutive ∧ Holds l 9 2 t.totalMisfires ∧ Holds l 11 4 t.totalConfirmed
    ∧ (t.last = none → (l.drop 15).take 19 = List.replicate 19 0)
    ∧ (∀ r, t.last = some r →
      let a := r.areas.getD ⟨0, 0, 0, 0⟩
      Holds l 15 2 r.seq.toNat ∧ Holds l 17 1 (r.outcome.code.toNat + 64 * r.areas.isSome.toNat + 128)
      ∧ Holds l 18 2 r.alpha ∧ Holds l 20 2 r.iMeas.toNat ∧ Holds l 22 2 r.iSet ∧ Holds l 24 3 a.notch
      ∧ Holds l 27 2 a.notchSamples ∧ Holds l 29 3 a.reference ∧ Holds l 32 2 a.refSamples)
    ∧ (k.1 < 6 * s.parN .bridges → Holds l 34 3 (s.fls.refAvg.get (Fin.ofNat 4 (k.1 % s.parN .bridges)))) := by
  intro l c t
  have hk : Fin.ofNat 24 k.1 = k := Fin.ext (Nat.mod_eq_of_lt k.2)
  have hl : l = BitVec.ofNat 8 k.1 :: (slotConfigBytes c ++ slotStatusBytes t ++ bytesOf 3 (reportedAverage s k.1)) := by
    change slotBytes s k.1 = _
    rw [slotBytes, hk]
  have haverage : k.1 < 6 * s.parN .bridges →
      reportedAverage s k.1 = s.fls.refAvg.get (Fin.ofNat 4 (k.1 % s.parN .bridges)) := fun h => if_pos h
  rw [hl]
  clear_value t c
  obtain ⟨consecutive, misfires, confirmed, last⟩ := t
  cases last with
  | none =>
    refine ⟨rfl, rfl, rfl, rfl, rfl, rfl, rfl, rfl, fun _ => rfl, fun _ h => (nomatch h), fun h => ?_⟩
    rw [← haverage h]
    rfl
  | some r =>
    refine ⟨rfl, rfl, rfl, rfl, rfl, rfl, rfl, rfl, fun h => (nomatch h), fun r' h => ?_, fun h => ?_⟩
    · obtain rfl : r = r' := Option.some.inj h
      exact ⟨rfl, holds_byte rfl (retirementByte _ _), rfl, rfl, rfl, rfl, rfl, rfl, rfl⟩
    · rw [← haverage h]
      rfl

/-! The response entry (R133). -/

theorem response_layout (s : State) (i : Fin 32) :
    let l := responseBytes s i.1
    let e := s.rtb.entries.get i
    let r := e.resp
    let m := s.rtb.marks.get i
    l.length = 15 ∧ Holds l 0 1 i.1
    ∧ (e.bandLo ≤ 7 → e.bandHi ≤ 7 →
      Holds l 1 1 (e.kind.code.toNat + 8 * e.fallback.toNat + 128 * e.valid.toNat) ∧ Holds l 2 1 (e.bandLo + 16 * e.bandHi))
    ∧ Holds l 3 1 (r.action.code.toNat + 4 * (decide (r.onExpiry = .block)).toNat + 16 * r.mode.code.toNat)
    ∧ Holds l 4 2 r.iLimit ∧ Holds l 6 2 r.alphaFloor ∧ Holds l 8 2 r.holdMs ∧ Holds l 10 2 r.restartAlpha
    ∧ Holds l 12 2 r.rampMs ∧ Holds l 14 1 (m.used.toNat + 2 * m.rode.toNat + 4 * m.tripped.toNat) := by
  intro l e r m
  have hi : Fin.ofNat 32 i.1 = i := Fin.ext (Nat.mod_eq_of_lt i.2)
  have hl : l = BitVec.ofNat 8 i.1 :: (responseRecBytes (recOfResponse e) ++ [marksByte m]) := by
    change responseBytes s i.1 = _
    rw [responseBytes, hi]
  rw [hl]
  exact ⟨rfl, rfl, fun hlo hhi => ⟨holds_byte rfl (responseKindByte _ _ _), holds_byte rfl (bandsByte hlo hhi)⟩,
    holds_byte rfl (responseActionByte _ _ _), bytesOf_ofNat _, bytesOf_ofNat _, bytesOf_ofNat _, bytesOf_ofNat _,
    bytesOf_ofNat _, holds_byte rfl (flags_three _ _ _)⟩

/-! The history record (R114). -/

theorem history_layout (r : HistoryRecord) :
    let l := historyBytes r
    l.length = 13 ∧ Holds l 0 2 r.number.toNat ∧ Holds l 2 4 r.start.toNat
    ∧ Holds l 6 1 (r.onsetKind.code.toNat + 16 * r.kind.code.toNat)
    ∧ (r.band ≤ 7 → Holds l 7 1 (r.band + 8 * r.expired.toNat + 16 * r.blocked.toNat + 32 * r.outcome.code.toNat))
    ∧ l[8]? = some (match r.entry with | .entry i => BitVec.ofNat 8 i.1 | .dflt => 0x40 | .none => 0xFF)
    ∧ Holds l 9 4 (r.duration.getD 0).toNat :=
  ⟨rfl, rfl, rfl, holds_byte rfl (kindsByte _ _), fun h => holds_byte rfl (historyByte h _ _ _), rfl, rfl⟩

/-! READ_STORE and READ_FILTER (R194, R14). -/

theorem maskBit (m : Fin 8 → Bool) (i : Fin 8) :
    (BitVec.ofNat 8 ((List.finRange 8).foldl (fun v j => v + (if m j then 2 ^ j.1 else 0)) 0)).getLsbD i.1 = m i := by
  revert m i
  decide +kernel

/-- Bit i of byte n of the mask is the mark of row 8n + i. -/
theorem badByte_bit (marks : List Bool) (n : Nat) (i : Fin 8) :
    (badByte marks n).getLsbD i.1 = marks.getD (8 * n + i.1) false :=
  maskBit (fun j => marks.getD (8 * n + j.1) false) i

theorem store_bit (s : State) (n : Fin 512) :
    ((storeBytes s).getD (3 + n.1 / 8) 0).getLsbD (n.1 % 8) = s.sst.bad.get n := by
  have hbyte : (storeBytes s).getD (3 + n.1 / 8) 0 = badByte s.sst.bad.list (n.1 / 8) := by
    have hrow : n.1 / 8 < 64 := by omega
    rw [Nat.add_comm]
    change ((List.range 64).map (badByte s.sst.bad.list)).getD (n.1 / 8) 0 = _
    simp [hrow]
  rw [hbyte, badByte_bit _ _ ⟨n.1 % 8, Nat.mod_lt _ (by decide)⟩, Nat.div_add_mod]
  exact List.getD_eq_getElem _ _ (by rw [s.sst.bad.size]; exact n.2)

theorem filter_layout (s : State) :
    let f := filterBytes s
    f.length = 37 ∧ (∀ i : Fin 3,
        let c := s.ffb.coeffs.get i
        Holds f (10 * i.1) 2 c.b0.toNat ∧ Holds f (10 * i.1 + 2) 2 c.b1.toNat ∧ Holds f (10 * i.1 + 4) 2 c.b2.toNat
        ∧ Holds f (10 * i.1 + 6) 2 c.a1.toNat ∧ Holds f (10 * i.1 + 8) 2 c.a2.toNat
        ∧ Holds f (31 + 2 * i.1) 2 (s.ffb.saturations.get i))
    ∧ Holds f 30 1 s.ffb.enabled.toNat := by
  intro f
  have hf : f = [s.ffb.coeffs.get 0, s.ffb.coeffs.get 1, s.ffb.coeffs.get 2].flatMap
        (fun c => w16 c.b0 ++ w16 c.b1 ++ w16 c.b2 ++ w16 c.a1 ++ w16 c.a2) ++ [byteOfBool s.ffb.enabled]
      ++ [s.ffb.saturations.get 0, s.ffb.saturations.get 1, s.ffb.saturations.get 2].flatMap (bytesOf 2) := by
    rw [← tab_list_three, ← tab_list_three]
    rfl
  rw [hf]
  refine ⟨rfl, fun i => ?_, holds_byte rfl (by cases s.ffb.enabled <;> rfl)⟩
  match i with
  | 0 | 1 | 2 => exact ⟨rfl, rfl, rfl, rfl, rfl, rfl⟩

/-- Settles O41: each record's fields at their offsets, the packed bytes by their bits, and the start of READ_TRACE by its
distance from the oldest entry. -/
theorem readLayouts : Obligations.ReadLayouts := by
  refine ⟨status_layout, readTrace_layout, traceEntry_layout, trip_layout, slot_layout, response_layout, history_layout,
    fun s => ⟨?_, rfl, rfl, store_bit s, filter_layout s⟩⟩
  rfl

end Sys2Proof.ReadLayouts
end

section
/-!
One conversion set as every block sees it (R1, R2, R3, R6, R10, R17, R150): the trimmed value, the front end, the filter bank
and the tracker, and what the rest of the set leaves alone. Outside SYNC, RUN and STOPPING no deed of the set touches the list,
the regulator or the governor.
-/

namespace Sys2Proof.SetMeasures

open Sys2Proof.Machine Sys2Proof.Claims Sys2Proof.OneSet Sys2Proof.UpdateFrame Sys2Proof.SetTrip

/-! The trimmed value (R3). -/

theorem trimValue_toInt (t : Trim) (raw : Code) :
    (trimValue t raw).toInt =
      (let v := min 32767 (max (-32768) (((raw.toInt - t.offset.toInt) * t.gain.toNat + 4096) / 8192))
       if t.invert = true then (if v = -32768 then 32767 else -v) else v) := by
  have hsat (x : Int) : sat16 x = min 32767 (max (-32768) x) := rfl
  rw [trimValue, FilterBank.toInt_toCode, hsat]
  dsimp only
  generalize ((raw.toInt - t.offset.toInt) * t.gain.toNat + 4096) / 8192 = q
  by_cases hinvert : t.invert = true
  · rw [if_pos hinvert, if_pos hinvert]
    split <;> omega
  · rw [if_neg hinvert, if_neg hinvert]
    omega

theorem trimValue_default (raw : Code) : trimValue ⟨0, 8192, false⟩ raw = raw := by
  have hlo : -2 ^ 15 ≤ raw.toInt := BitVec.le_toInt raw
  have hhi : raw.toInt < 2 ^ 15 := BitVec.toInt_lt
  apply BitVec.eq_of_toInt_eq
  rw [trimValue_toInt]
  have hzero : (0 : BitVec 16).toInt = 0 := by decide
  have hgain : (8192 : BitVec 16).toNat = 8192 := by decide
  simp only [hzero, hgain, Bool.false_eq_true, if_false]
  omega

theorem trimValue_gain_zero (t : Trim) (raw : Code) (h : t.gain = 0) : trimValue t raw = 0 := by
  have hgain : t.gain.toNat = 0 := by rw [h]; rfl
  apply BitVec.eq_of_toInt_eq
  rw [trimValue_toInt, hgain]
  simp

/-! The front end (R1, R2). -/

theorem conversionSet_mfe (raw : RawSet) (s : State) : (conversionSet raw s).mfe = mfeAfter raw s := by
  rw [conversionSet_tracked, ← checked_mfe, ← tracked_changes raw s .mfe (by decide)]
  exact takeUpdate_mfe _ _

theorem isClip_iff (c : Code) : isClip c = true ↔ c.toInt = -32768 ∨ c.toInt = 32767 := by simp [isClip]

theorem clips_after (raw : RawSet) (s : State) (i : Fin 8) : (mfeAfter raw s).clips.get i =
    if ((rawTab raw).get i).toInt = -32768 ∨ ((rawTab raw).get i).toInt = 32767
    then min 65535 (s.mfe.clips.get i + 1) else s.mfe.clips.get i := by
  rw [mfeAfter, Tab.get_ofFn]
  simp only [isClip_iff]
  rfl

theorem clipped_iff (raw : RawSet) : (rawTab raw).list.any isClip = true ↔
    ∃ i, ((rawTab raw).get i).toInt = -32768 ∨ ((rawTab raw).get i).toInt = 32767 := by
  simp only [LoadEnd.tab_list_eq, List.any_map, List.any_eq_true, List.mem_finRange, true_and, Function.comp_apply,
    isClip_iff]

/-! The notices of a set. -/

theorem spares_checked (raw : RawSet) (s : State) : Spares (completeSet raw s) (checked raw s) := by
  unfold checked
  exact .ite (fun _ => (spares_tripCheck _).trans (spares_settleAt _ _ _)) fun _ => .refl _

theorem noticesKept_filterSet (t : TrimmedSet) (s : State) : NoticesKept s (filterSet t s) := by
  have hbank (b : Ffb) : NoticesKept s (s.withFfb b) := noticesKept_of_eq rfl rfl
  unfold filterSet
  dsimp only
  split
  · split
    · exact (hbank _).trans (noticesKept_occur _ (by decide))
    · exact hbank _
  · exact hbank _

/-- The tracker raises its own notices alone. -/
theorem judgeTracker_notice {a : Atr} {freeze strong weak zero : Bool} {lockErr lockLimit holdLimit : Nat} {e : Int}
    {src : Source} (h : (judgeTracker a freeze strong weak zero lockErr lockLimit holdLimit e).notice = some src) :
    src ≠ .adcClip := by
  rintro rfl
  revert h
  unfold judgeTracker judgeSearch judgeLocked judgeHold judgeLost
  repeat' split
  all_goals simp

theorem noticesKept_trackerUpdate (f : FilteredSet) (s : State) : NoticesKept s (trackerUpdate f s) := by
  cases hnotice : (verdictOf f s).notice with
  | none => rw [trackerUpdate_eq, hnotice]; exact noticesKept_of_eq rfl rfl
  | some src =>
    rw [trackerUpdate_eq, hnotice]
    exact NoticesKept.trans (t := s.withAtr (atrAfter f s)) (noticesKept_of_eq rfl rfl)
      (noticesKept_occur _ (judgeTracker_notice hnotice))

/-- After its completion a set leaves the levels, the enables, the mask and ADC_CLIP alone. -/
theorem noticesKept_conversionSet (raw : RawSet) (s : State) : NoticesKept (completeSet raw s) (conversionSet raw s) := by
  have htracked : NoticesKept (completeSet raw s) (tracked raw s) := (spares_checked raw s).notices.trans
    ((noticesKept_filterSet _ _).trans (noticesKept_trackerUpdate _ _))
  have hcounted : NoticesKept (tracked raw s) (countSupervision (tracked raw s)) := noticesKept_of_eq rfl rfl
  exact htracked.trans (hcounted.trans (spares_conversionSet raw s).notices)

theorem conversionSet_adcClip (raw : RawSet) (s : State) :
    (conversionSet raw s).ntu.sources.get Source.adcClip.num =
      if ∃ i, ((rawTab raw).get i).toInt = -32768 ∨ ((rawTab raw).get i).toInt = 32767
      then { s.ntu.sources.get Source.adcClip.num with
        latched := true, count := min 255 ((s.ntu.sources.get Source.adcClip.num).count + 1)
        last := some (s.mfe.count + 1) }
      else s.ntu.sources.get Source.adcClip.num := by
  rw [(noticesKept_conversionSet raw s).clip, completeSet_eq]
  by_cases hclip : (rawTab raw).list.any isClip = true
  · rw [if_pos hclip, if_pos ((clipped_iff raw).mp hclip)]
    exact occur_source_same .adcClip (s.withMfe (mfeAfter raw s)) (by decide)
  · rw [if_neg hclip, if_neg fun h => hclip ((clipped_iff raw).mpr h)]
    rfl

/-! The filter bank (R10). -/

theorem filterSet_ffb_congr (t : TrimmedSet) {s u : State} (h : u.ffb = s.ffb) :
    (filterSet t u).ffb = (filterSet t s).ffb := by
  cases hon : s.ffb.enabled with
  | true =>
    rw [FilterBank.filterSet_ffb_enabled t s hon, FilterBank.filterSet_ffb_enabled t u (by rw [h, hon])]
    have hrun : FilterBank.channelRun t u = FilterBank.channelRun t s := by
      funext i
      rw [FilterBank.channelRun, FilterBank.channelRun, h]
    rw [FilterBank.bankAfter, FilterBank.bankAfter, hrun, h]
  | false =>
    rw [FilterBank.filterSet_disabled t s hon, FilterBank.filterSet_disabled t u (by rw [h, hon])]
    simp only [State.withFfb_ffb, h]

theorem checked_ffb (raw : RawSet) (s : State) : (checked raw s).ffb = s.ffb :=
  (checked_changes raw s .ffb (by decide)).trans (completeSet_ffb raw s)

theorem conversionSet_ffb (raw : RawSet) (s : State) : (conversionSet raw s).ffb = (filteredState raw s).ffb := by
  rw [conversionSet_tracked]
  exact (takeUpdate_ffb _ _).trans (trackerUpdate_ffb _ _)

/-! The tracker (R17, R35). -/

/-- The tracker's update reads its own state, the freeze request and the parameters. -/
theorem atrAfter_congr (f : FilteredSet) {s t : State} (hatr : t.atr = s.atr) (hfreeze : t.dgv.freeze = s.dgv.freeze)
    (hparams : t.params = s.params) : atrAfter f t = atrAfter f s := by
  have hpar (p : ParamId) : t.par p = s.par p := by rw [State.par, State.par, hparams]
  have hangle : measuredAngle f t = measuredAngle f s := by rw [measuredAngle, measuredAngle, hatr, hpar]
  have hmagnitude : measuredMagnitude f t = measuredMagnitude f s := by
    rw [measuredMagnitude, measuredMagnitude, State.lNom, State.lNom, State.parN, State.parN, hpar]
  have herror : trackingError f t = trackingError f s := by rw [trackingError, trackingError, hangle, hatr]
  have hparN (p : ParamId) : t.parN p = s.parN p := congrArg Int.toNat (hpar p)
  have hstrong : isStrong f t = isStrong f s := by
    rw [isStrong, isStrong, State.mAcq, State.mAcq, hparN, hparN, hmagnitude]
  have hweak : isWeak f t = isWeak f s := by rw [isWeak, isWeak, hparN, hmagnitude]
  have hverdict : verdictOf f t = verdictOf f s := by
    rw [verdictOf, verdictOf, State.parMs, State.parMs, hstrong, hweak, hparN, hparN, hparN, herror, hatr, hfreeze]
  have hloop : loopOf f t = loopOf f s := by
    simp only [loopOf, loopStep, State.wNom, hpar, hverdict, hangle, herror, hatr]
  have hhalf : halfCycleOf f t = halfCycleOf f s := by
    rw [halfCycleOf, halfCycleOf, hmagnitude, hloop, hverdict, hatr]
  simp only [atrAfter, updateOf, angleUpdateOf, hangle, hmagnitude, hverdict, hloop, hhalf, herror, hatr]

theorem filteredState_atr (raw : RawSet) (s : State) : (filteredState raw s).atr = s.atr := by
  rw [filteredState, filterSet_atr, checked_changes raw s .atr (by decide), completeSet_atr]

theorem filteredState_params (raw : RawSet) (s : State) : (filteredState raw s).params = s.params := by
  rw [filteredState, filterSet_params, checked_changes raw s .params (by decide), completeSet_params]

theorem filteredState_freeze (raw : RawSet) (s : State) : (filteredState raw s).dgv.freeze = (checked raw s).dgv.freeze := by
  rw [filteredState, filterSet_dgv]

theorem tracked_atr (raw : RawSet) (s : State) : (tracked raw s).atr =
    (trackerUpdate (filteredAt raw s) { s with dgv := { s.dgv with freeze := (checked raw s).dgv.freeze } }).atr := by
  rw [tracked, trackerUpdate_atr, trackerUpdate_atr]
  exact atrAfter_congr _ (filteredState_atr raw s) (filteredState_freeze raw s) (filteredState_params raw s)

/-- The governor is not touched in its freeze request, or a halt has withdrawn it. -/
def FreezeKept (s t : State) : Prop :=
  t.dgv.freeze = s.dgv.freeze ∨ (t.dgv.freeze = false ∧ s.active = true ∧ t.rct.state = .halt)

theorem freezeKept_takeHalt (c : HaltCause) (s : State) : FreezeKept s (takeHalt c s) := by
  by_cases hactive : s.active = true
  · have hdgv : (Halting.haltEnding c s).dgv = s.dgv := Halting.haltEnding_changes c s .dgv (by decide)
    have hhalt : (takeHalt c s).rct.state = .halt := by rw [takeHalt_rct_active c s hactive]; rfl
    rw [FreezeKept, hhalt, Halting.takeHalt_eq c hactive]
    by_cases hsteady : s.dgv.state = .steady
    · refine .inl ?_
      rw [LeavingRun.endEpisode_steady (by rwa [hdgv]), clearRun, State.withDgv_dgv, hdgv]
    · refine .inr ⟨?_, hactive, rfl⟩
      rw [Governing.endEpisode_open (by rwa [hdgv])]
  · rw [takeHalt_inactive c s (Bool.eq_false_iff.mpr hactive)]
    exact .inl rfl

theorem freezeKept_askHalt (c? : Option HaltCause) (s : State) : FreezeKept s (askHalt c? s) := by
  cases c? with
  | none => exact .inl rfl
  | some c => exact freezeKept_takeHalt c s

/-- Of several misfire requests the first alone can halt (R145). -/
theorem freezeKept_askMisfires (l : List (Fin 24)) (s : State) : FreezeKept s (askMisfires l s) := by
  cases l with
  | nil => exact .inl rfl
  | cons k rest => rw [askMisfires_cons]; exact freezeKept_takeHalt (.misfire k) s

theorem freezeKept_of_dgv {s t : State} (h : t.dgv = s.dgv) : FreezeKept s t := .inl (congrArg Dgv.freeze h)

/-- Of two operations the second leaves the first one's halt standing. -/
theorem FreezeKept.trans {s t u : State} (h : FreezeKept s t) (k : FreezeKept t u) (hst : Spares s t) (htu : Spares t u) :
    FreezeKept s u := by
  obtain hk | ⟨hoff, hactive, hhalt⟩ := k
  · obtain hh | ⟨hoff, hactive, hhalt⟩ := h
    · exact .inl (hk.trans hh)
    · have hstopped : t.active = false := by rw [active_eq, hhalt]; rfl
      exact .inr ⟨hk.trans hoff, hactive, by rw [htu.idle hstopped, hhalt]⟩
  · refine .inr ⟨hoff, ?_, hhalt⟩
    by_contra hs
    have hidle := hst.idle (Bool.eq_false_iff.mpr hs)
    rw [active_congr hidle] at hactive
    exact hs hactive

theorem freezeKept_settleAt (o : UpdateOrder) (k : Nat) (s : State) : FreezeKept s (settleAt o k s) := by
  have hlifted : FreezeKept s (takeUnblock s) := freezeKept_of_dgv (takeUnblock_dgv s)
  have hclosed : FreezeKept s (takeClose (takeUnblock s)).1 :=
    freezeKept_of_dgv ((takeClose_dgv _).trans (takeUnblock_dgv s))
  unfold settleAt
  split
  · exact hclosed.trans (freezeKept_askMisfires _ _) ((spares_takeUnblock s).trans (spares_takeClose _))
      (spares_askMisfires _ _)
  · exact hlifted

/-- The check may withdraw the freeze request by a halt at this set; nothing else of it does (R35). -/
theorem freezeKept_checked (raw : RawSet) (s : State) : FreezeKept s (checked raw s) ∧
    (s.order.tripFirst = false → (checked raw s).dgv.freeze = s.dgv.freeze) := by
  cases hfirst : s.order.tripFirst with
  | false =>
    have hcomplete : checked raw s = completeSet raw s := if_neg (by simp [hfirst])
    rw [hcomplete]
    exact ⟨freezeKept_of_dgv (completeSet_dgv raw s), fun _ => by rw [completeSet_dgv]⟩
  | true =>
    refine ⟨?_, fun h => by cases h⟩
    rw [checked_eq raw hfirst]
    have hasked := freezeKept_askHalt (tripCauseOf (trimmedOf raw s) (completeSet raw s)) (completeSet raw s)
    have hsettled := hasked.trans (freezeKept_settleAt s.order 0 _) (spares_askHalt _ _) (spares_settleAt _ _ _)
    rw [FreezeKept, completeSet_dgv, active_congr (completeSet_rct raw s)] at hsettled
    exact hsettled

/-! Outside SYNC, RUN and STOPPING. -/

/-- No run, and the list blocked and empty. -/
structure Idle (s : State) : Prop where
  stopped : s.active = false
  blocked : s.fls.blocked = true
  empty : s.fls.list = []

theorem Idle.union {s : State} (h : Idle s) : s.union = true :=
  union_of_not_running s (running_of_not_active s h.stopped)

theorem Idle.congr {s t : State} (h : Idle s) (hrct : t.rct.state = s.rct.state) (hfls : t.fls = s.fls) : Idle t :=
  ⟨by rw [active_eq, hrct, ← active_eq]; exact h.stopped, by rw [hfls]; exact h.blocked, by rw [hfls]; exact h.empty⟩

theorem idle_of_settled {s : State} (hs : s.ListSettled) (h : ¬ Running3 s) : Idle s := by
  obtain ⟨hblocked, hlist, -⟩ := Halting.shut_of_settled hs (Halting.running_of_inactive h)
  exact ⟨Bool.eq_false_iff.mpr fun ha => h ((Requests.active_iff s).mp ha), hblocked, hlist⟩

theorem settle_idle {s : State} (h : Idle s) : settle s = s := by
  rw [settle_inactive s h.stopped, LeavingRun.takeClose_blocked h.blocked]

theorem settleAt_idle (o : UpdateOrder) (k : Nat) {s : State} (h : Idle s) : settleAt o k s = s := by
  rw [settleAt, settle_idle h, takeUnblock_risen s h.union, ite_self]

theorem askHalt_idle (c? : Option HaltCause) {s : State} (h : Idle s) : askHalt c? s = s := by
  cases c? with
  | none => rfl
  | some c => exact takeHalt_inactive c s h.stopped

theorem tripCheck_idle {s : State} (h : Idle s) : tripCheck s = s := by
  unfold tripCheck
  split
  · exact askHalt_idle _ h
  · rfl

theorem governorDeed_idle (u : AngleUpdate) {s : State} (h : Idle s) : governorDeed u s = s := by
  rw [governorDeed, Onsets.governorStep_stopped u (running_of_not_active s h.stopped)]
  exact takeUnblock_risen s h.union

theorem runStep_idle (u : AngleUpdate) {s : State} (h : Idle s) : runStep u s = countSupervision s := by
  refine Halting.runStep_idle u ?_
  have hstopped := h.stopped
  rw [active_eq] at hstopped
  cases hstate : s.rct.state <;> simp_all

theorem listEnd_idle (u : AngleUpdate) {s : State} (h : Idle s) : listEnd u s = s := by
  have hsampled : sampleWindows u s = s := by
    have hfls : ({ s.fls with list := s.fls.list.map (sampleEntry u) } : Fls) = s.fls := by
      rw [h.empty, List.map_nil, ← h.empty]
    rw [sampleWindows, hfls]
    rfl
  have hnone : s.fls.list.length = 0 := by rw [h.empty]; rfl
  rw [listEnd, hsampled, hnone]
  rfl

theorem pathPoint_idle {v : View} (hv : v.live = false) (u : AngleUpdate) (x : Nat) {s : State} (h : Idle s) :
    pathPoint v u x s = s := by
  rw [pathPoint, Pointer.sequencerPoint_idle hv]
  exact EntryLife.firePoint_nil u x s h.empty

/-- No deed touches the list, the regulator, the governor, the table or the sequencer. -/
theorem doDeed_idle {v : View} (hv : v.live = false) (u : AngleUpdate) (d : Deed) {s : State} (h : Idle s) :
    Changes [.rct, .wcu, .ntu, .trc] s (doDeed v u d s) := by
  cases d with
  | take => exact .refl _ s
  | path n => rw [doDeed, pathPoint_idle hv u _ h]; exact .refl _ s
  | listEnd => rw [doDeed, listEnd_idle u h]; exact .refl _ s
  | trip => rw [doDeed, tripCheck_idle h]; exact .refl _ s
  | governor => rw [doDeed, governorDeed_idle u h]; exact .refl _ s
  | ramp => rw [doDeed, Ramp.rampStep_not_running s (running_of_not_active s h.stopped)]; exact .refl _ s
  | run => rw [doDeed, runStep_idle u h]; exact (countSupervision_changes s).mono (by decide)
  | watch => exact (watchStep_changes u s).mono (by decide)

theorem countedTimes_state (n : Nat) (s : State) : (countedTimes n s).rct.state = s.rct.state := by
  induction n generalizing s with
  | zero => rfl
  | succ n ih => exact ih (countSupervision s)

/-- A deed leaves an idle state idle. -/
theorem idle_doDeed {v : View} (hv : v.live = false) (u : AngleUpdate) (d : Deed) {s : State} (h : Idle s) :
    Idle (doDeed v u d s) := by
  have hstopped : (countedTimes (isRun d).toNat s).active = false := by
    rw [active_eq, countedTimes_state, ← active_eq]
    exact h.stopped
  refine h.congr ?_ (doDeed_idle hv u d h .fls (by decide))
  rw [(spares_doDeed v u d s).idle hstopped, countedTimes_state]

theorem after_live {v : View} (hv : v.live = false) (d : Deed) {s : State} (h : Idle s) : (v.after d s).live = false := by
  cases d with
  | take => exact h.stopped
  | _ => exact hv

theorem doDeeds_idle (o : UpdateOrder) (u : AngleUpdate) {v : View} (hv : v.live = false) (l : List (Nat × Deed)) {s : State}
    (h : Idle s) : Changes [.rct, .wcu, .ntu, .trc] s (doDeeds o u v l s) := by
  induction l generalizing v s with
  | nil => rw [doDeeds, settle_idle h]; exact .refl _ s
  | cons x rest ih =>
    rw [doDeeds, settleAt_idle o x.1 h]
    exact (doDeed_idle (v := v.at o x.1) hv u x.2 h).trans (ih (after_live hv x.2 h) (idle_doDeed (v := v.at o x.1) hv u x.2 h))

theorem checked_idle (raw : RawSet) {s : State} (h : Idle s) : checked raw s = completeSet raw s := by
  have hcomplete : Idle (completeSet raw s) := h.congr (by rw [completeSet_rct]) (completeSet_fls raw s)
  rw [checked, tripCheck_idle hcomplete, settleAt_idle _ _ hcomplete, ite_self]

theorem takeReseat_ssq (u : AngleUpdate) (s : State) : (takeReseat u s).ssq.pointer = s.ssq.pointer := by
  unfold takeReseat
  split <;> rfl

theorem takeUpdate_idle (u : AngleUpdate) {s : State} (h : Idle s) :
    Changes [.rct, .wcu, .ntu, .trc] (takeReseat u s) (takeUpdate u s) := by
  have hreseat := takeReseat_changes u s
  have hidle : Idle (takeReseat u s) :=
    h.congr (congrArg Rct.state (hreseat .rct (by decide))) (hreseat .fls (by decide))
  exact doDeeds_idle _ u hidle.stopped _ hidle

theorem conversionSet_idle (raw : RawSet) {s : State} (hs : s.ListSettled) (h : ¬ Running3 s) :
    let t := conversionSet raw s
    t.crg = s.crg ∧ t.fls = s.fls ∧ t.dgv = s.dgv ∧ t.rtb = s.rtb
    ∧ t.rct = { s.rct with supervision := t.rct.supervision } ∧ t.atr.reseatRequest = false
    ∧ t.ssq.pointer = s.ssq.pointer := by
  have hidle := idle_of_settled hs h
  have hset : Changes [.mfe, .ffb, .atr, .ntu, .trc] s (tracked raw s) := by
    refine .trans ?_ ((tracked_changes raw s).mono (by decide))
    rw [checked_idle raw hidle]
    exact (completeSet_changes raw s).mono (by decide)
  have htracked : Idle (tracked raw s) :=
    hidle.congr (congrArg Rct.state (hset .rct (by decide))) (hset .fls (by decide))
  have hupdate := takeUpdate_idle (updateAt raw s) htracked
  have hreseat := takeReseat_changes (updateAt raw s) (tracked raw s)
  have hall : Changes [.mfe, .ffb, .atr, .ssq, .rct, .wcu, .ntu, .trc, .orders] s (conversionSet raw s) := by
    rw [conversionSet_tracked]
    exact (hset.mono (by decide)).trans ((hreseat.mono (by decide)).trans ((hupdate.mono (by decide)).trans
      ((Changes.withOrders _ _).mono (by decide))))
  refine ⟨hall .crg (by decide), hall .fls (by decide), hall .dgv (by decide), hall .rtb (by decide), ?rct, ?request, ?pointer⟩
  case rct =>
    have hstopped : (checked raw s).active = false := by
      rw [checked_idle raw hidle, active_congr (completeSet_rct raw s)]
      exact hidle.stopped
    rw [conversionSet_rct_idle raw hstopped, checked_idle raw hidle, completeSet_rct]
  case request =>
    have hatr : (conversionSet raw s).atr = (tracked raw s).atr := by
      rw [conversionSet_tracked]
      exact (hupdate .atr (by decide)).trans (hreseat .atr (by decide))
    rw [hatr, tracked, trackerUpdate_atr]
    rfl
  case pointer =>
    have hssq : (conversionSet raw s).ssq = (takeReseat (updateAt raw s) (tracked raw s)).ssq := by
      rw [conversionSet_tracked]
      exact hupdate .ssq (by decide)
    rw [hssq, takeReseat_ssq, hset .ssq (by decide)]

/-! The settings, and the set as a whole. -/

theorem conversionSet_settings (raw : RawSet) (s : State) : settingsOf (conversionSet raw s) = settingsOf s := by
  have hcomplete := completeSet_changes raw s
  have hchecked := spares_checked raw s
  have htracked := tracked_changes raw s
  have hspares := spares_conversionSet raw s
  have hfirst : NoticesKept (completeSet raw s) (conversionSet raw s) := noticesKept_conversionSet raw s
  have hlevels : Occurrences.SettingsKept s (completeSet raw s) := by
    rw [completeSet_eq]
    split
    · exact Occurrences.occur_settingsKept .adcClip (s.withMfe (mfeAfter raw s))
    · exact fun _ => ⟨rfl, rfl⟩
  have hmask : (completeSet raw s).trc.mask = s.trc.mask := by
    rw [completeSet_eq]
    split
    · rw [occur_mask]; rfl
    · rfl
  obtain ⟨hcoeffs, henabled⟩ := FilterBank.filterSet_settings (trimmedOf raw s) (checked raw s)
  refine LoadEnd.settingsOf_congr ?params ?trims ?coeffs ?enabled ?slots ?entries (hlevels.trans hfirst.settings) ?watches
    (hfirst.mask.trans hmask)
  case params => exact conversionSet_changes raw s .params (by decide)
  case trims => rw [conversionSet_mfe]; rfl
  case coeffs =>
    rw [conversionSet_ffb, filteredState, hcoeffs, checked_ffb]
  case enabled =>
    rw [conversionSet_ffb, filteredState, henabled, checked_ffb]
  case slots =>
    have hsame : (countSupervision (tracked raw s)).ssq = (checked raw s).ssq := htracked .ssq (by decide)
    rw [hspares.config, hsame, hchecked.config, completeSet_ssq]
  case entries =>
    have hsame : (countSupervision (tracked raw s)).rtb = (checked raw s).rtb := htracked .rtb (by decide)
    rw [hspares.entries, hsame, hchecked.entries, completeSet_rtb]
  case watches =>
    intro n
    have hsame : (countSupervision (tracked raw s)).wcu = (checked raw s).wcu := htracked .wcu (by decide)
    rw [hspares.watches n, hsame, hchecked.watches n, completeSet_wcu]

end Sys2Proof.SetMeasures
end

section
/-!
The order of an empty tape (log 4): the agenda that it makes, the deeds one after another with the union of block reasons taken
before each, and the conversion set as that sequence. The file settles O6.
-/

namespace Sys2Proof.UsualOrder

open Sys2Proof.Machine Sys2Proof.Claims Sys2Proof.OneSet Sys2Proof.UpdateFrame Sys2Proof.SetTrip Sys2Proof.SetMeasures

/-! The agenda. -/

theorem placeDeed_first {k : Nat} (d : Deed) {l : List (Nat × Deed)} (h : ∀ x ∈ l, k < x.1) :
    placeDeed k d l = (k, d) :: l := by
  cases l with
  | nil => rfl
  | cons x rest => exact if_pos (h x List.mem_cons_self)

theorem placeDeed_behind {k : Nat} (d : Deed) {x : Nat × Deed} (l : List (Nat × Deed)) (h : x.1 ≤ k) :
    placeDeed k d (x :: l) = x :: placeDeed k d l := if_neg (Nat.not_lt.mpr h)

theorem placeDeed_last {k : Nat} (d : Deed) {l : List (Nat × Deed)} (h : ∀ x ∈ l, x.1 ≤ k) :
    placeDeed k d l = l ++ [(k, d)] := by
  induction l with
  | nil => rfl
  | cons x rest ih =>
    rw [placeDeed_behind d rest (h x List.mem_cons_self), ih fun y hy => h y (List.mem_cons_of_mem x hy)]
    rfl

/-- How far an update goes (R42). -/
def reach (u : AngleUpdate) : Nat := if u.reseat = true then 0 else arc u.thetaPrev u.thetaNew

/-- The path points of an update with their keys. -/
def pathPart (u : AngleUpdate) : List (Nat × Deed) :=
  (List.range (reach u)).map fun i => (16 * (i + 1), .path (i + 1))

theorem pathDeeds_eq (u : AngleUpdate) : pathDeeds u = pathPart u ++ [(16 * (reach u + 1), .listEnd)] := rfl

theorem pathDeeds_keys (u : AngleUpdate) : ∀ x ∈ pathDeeds u, 16 ≤ x.1 ∧ x.1 ≤ 16 * (reach u + 1) := by
  intro x hx
  rw [pathDeeds_eq] at hx
  obtain hx | hx := List.mem_append.mp hx
  · obtain ⟨i, hi, rfl⟩ := List.mem_map.mp hx
    have hlt : i < reach u := List.mem_range.mp hi
    dsimp only
    omega
  · obtain rfl := List.mem_singleton.mp hx
    dsimp only
    omega

/-- Governor, taking and ramp come before the path, the run controller and the watch units after it. -/
theorem agenda_usual {u : AngleUpdate} (h : reach u ≤ 150) : agenda .usual u =
    (0, .governor) :: (0, .take) :: (8, .ramp) ::
      (pathPart u ++ [(16 * (reach u + 1), .listEnd), (4000, .run), (4001, .watch)]) := by
  have hkeys := pathDeeds_keys u
  have hgovernor : placeDeed 0 .governor (pathDeeds u) = (0, .governor) :: pathDeeds u :=
    placeDeed_first _ fun x hx => by have := hkeys x hx; omega
  have htake : placeDeed 0 .take ((0, .governor) :: pathDeeds u) = (0, .governor) :: (0, .take) :: pathDeeds u := by
    rw [placeDeed_behind _ _ (Nat.le_refl 0), placeDeed_first _ fun x hx => by have := hkeys x hx; omega]
  have hramp : placeDeed 8 .ramp ((0, .governor) :: (0, .take) :: pathDeeds u) =
      (0, .governor) :: (0, .take) :: (8, .ramp) :: pathDeeds u := by
    rw [placeDeed_behind _ _ (Nat.zero_le 8), placeDeed_behind _ _ (Nat.zero_le 8),
      placeDeed_first _ fun x hx => by have := hkeys x hx; omega]
  have hmost : ∀ x ∈ (0, Deed.governor) :: (0, .take) :: (8, .ramp) :: pathDeeds u, x.1 ≤ 4000 := by
    intro x hx
    obtain rfl | hx := List.mem_cons.mp hx
    · exact Nat.zero_le _
    obtain rfl | hx := List.mem_cons.mp hx
    · exact Nat.zero_le _
    obtain rfl | hx := List.mem_cons.mp hx
    · exact (by decide : 8 ≤ 4000)
    · have := hkeys x hx
      omega
  have hrun := placeDeed_last .run hmost
  have hwatch := placeDeed_last (k := 4001) .watch
    (l := ((0, Deed.governor) :: (0, .take) :: (8, .ramp) :: pathDeeds u) ++ [(4000, .run)]) fun x hx => by
      obtain hx | hx := List.mem_append.mp hx
      · exact (hmost x hx).trans (by decide)
      · obtain rfl := List.mem_singleton.mp hx
        exact (by decide : 4000 ≤ 4001)
  have hagenda : agenda .usual u = placeDeed 4001 .watch (placeDeed 4000 .run (placeDeed 8 .ramp
    (placeDeed 0 .take (placeDeed 0 .governor (pathDeeds u))))) := rfl
  rw [hagenda, hgovernor, htake, hramp, hrun, hwatch, pathDeeds_eq]
  simp only [List.cons_append, List.append_assoc, List.nil_append]

/-! The deeds. -/

/-- In the usual order the union is taken before every deed, and the sequencer sees it as it stands. -/
theorem doDeeds_usual_cons (u : AngleUpdate) (v : View) (k : Nat) (d : Deed) (rest : List (Nat × Deed)) (s : State) :
    doDeeds .usual u v ((k, d) :: rest) s =
      doDeeds .usual u (v.after d (settle s)) rest (doDeed { v with unseen := false } u d (settle s)) := by
  have hsettle : settleAt .usual k s = settle s := if_pos (Nat.zero_le k)
  have hview : v.at .usual k = { v with unseen := false } := by
    have hsight : ¬ k < UpdateOrder.usual.sight := Nat.not_lt_zero k
    rw [View.at, decide_eq_false hsight, Bool.and_false]
  rw [doDeeds, hsettle, hview]

/-- The path points one after another, each with the union taken after it. -/
def alongPath (u : AngleUpdate) (v : View) (l : List Nat) (s : State) : State :=
  l.foldl (fun x i => settle (pathPoint v u ((u.thetaPrev + (i + 1)) % 23040) x)) s

theorem noneHeld_doDeed (v : View) (u : AngleUpdate) (d : Deed) {s : State} (h : s.NoneHeld) : (doDeed v u d s).NoneHeld :=
  (Promises.keeps_doDeed v u d s).list h

/-- The union taken once more before the deeds makes no difference. -/
theorem doDeeds_settle (u : AngleUpdate) (v : View) (l : List (Nat × Deed)) {s : State} (h : s.NoneHeld) :
    doDeeds .usual u v l (settle s) = doDeeds .usual u v l s := by
  cases l with
  | nil => exact settle_settle h
  | cons x rest =>
    obtain ⟨k, d⟩ := x
    rw [doDeeds_usual_cons, doDeeds_usual_cons, settle_settle h]

theorem doDeeds_path (u : AngleUpdate) (v : View) (key : Nat → Nat) (l : List Nat) (rest : List (Nat × Deed)) {s : State}
    (h : s.NoneHeld) : doDeeds .usual u v (l.map (fun i => (key i, .path (i + 1))) ++ rest) s =
      doDeeds .usual u v rest (alongPath u { v with unseen := false } l (settle s)) := by
  induction l generalizing s with
  | nil => exact (doDeeds_settle u v rest h).symm
  | cons i l ih =>
    rw [List.map_cons, List.cons_append, doDeeds_usual_cons, after_path,
      ih (noneHeld_doDeed _ u _ (settle_noneHeld h))]
    rfl

theorem settled_alongPath (u : AngleUpdate) (v : View) (l : List Nat) {s : State} (h : s.ListSettled) :
    (alongPath u v l s).ListSettled := by
  induction l generalizing s with
  | nil => exact h
  | cons i l ih => exact ih (settle_settled _ (noneHeld_doDeed v u (.path (i + 1)) h.2))

/-- The last three deeds. -/
theorem doDeeds_end (u : AngleUpdate) (v : View) (k : Nat) {s : State} (h : s.ListSettled) :
    doDeeds .usual u v [(k, .listEnd), (4000, .run), (4001, .watch)] s =
      settle (watchStep u (settle (runStep u (settle (listEnd u s))))) := by
  rw [doDeeds_usual_cons, doDeeds_usual_cons, doDeeds_usual_cons, doDeeds, settle_of_settled s h]
  rfl

/-- The three deeds before the path, and what the path is taken under. -/
theorem doDeeds_start (u : AngleUpdate) (v : View) (rest : List (Nat × Deed)) {s a : State} (h : s.NoneHeld)
    (ha : settle (governorDeed u (settle s)) = a) :
    doDeeds .usual u v ((0, .governor) :: (0, .take) :: (8, .ramp) :: rest) s =
      doDeeds .usual u ⟨a.active, !a.union, a.floorEp⟩ rest (rampStep a) := by
  have hagain : settle a = a := by
    rw [← ha]
    exact settle_settle (governorDeed_noneHeld u (settle_noneHeld h))
  simp only [doDeeds_usual_cons, after_governor, after_take, after_ramp, doDeed, ha, hagain]

/-! The update, the set. -/

theorem takeUpdate_usual (u : AngleUpdate) {s a : State} (horder : s.order = .usual) (h : s.NoneHeld) (hreach : reach u ≤ 150)
    (ha : settle (governorDeed u (settle (takeReseat u s))) = a) :
    takeUpdate u s = settle (watchStep u (settle (runStep u (settle (listEnd u
      (alongPath u a.view (List.range (reach u)) (settle (rampStep a)))))))) := by
  have hreseat : (takeReseat u s).NoneHeld := noneHeld_of_fls h (takeReseat_changes u s .fls (by decide))
  have hheld : a.NoneHeld := by
    rw [← ha]
    exact settle_noneHeld (governorDeed_noneHeld u (settle_noneHeld hreseat))
  have hramp : (rampStep a).NoneHeld := noneHeld_of_fls hheld (rampStep_fls a)
  rw [takeUpdate, horder, agenda_usual hreach]
  exact (doDeeds_start u _ _ hreseat ha).trans ((doDeeds_path u _ _ _ _ hramp).trans
    (doDeeds_end u _ _ (settled_alongPath u _ _ (settle_settled _ hramp))))

theorem checked_usual (raw : RawSet) {s : State} (h : s.order = .usual) :
    checked raw s = settle (tripCheck (completeSet raw s)) := by
  rw [checked, h]
  rfl

theorem reach_updateAt (raw : RawSet) {s : State} (h : s.TrackerInRange) : reach (updateAt raw s) ≤ 150 := by
  have hrange : (filteredState raw s).TrackerInRange := Promises.trackerInRange_congr (filteredState_atr raw s) h
  unfold reach
  split
  · exact Nat.zero_le _
  · next hseat => exact TrackerStep.loopOf_advance hrange (Bool.eq_false_iff.mpr hseat)

theorem tracked_noneHeld (raw : RawSet) {s : State} (h : s.ListSettled) : (tracked raw s).NoneHeld := by
  have hcomplete : (completeSet raw s).NoneHeld := noneHeld_of_fls h.2 (completeSet_fls raw s)
  have hchecked : (checked raw s).NoneHeld := by
    unfold checked
    split
    · exact (Promises.keeps_settleAt _ _ _).list (tripCheck_noneHeld hcomplete)
    · exact hcomplete
  exact noneHeld_of_fls hchecked (tracked_changes raw s .fls (by decide))

theorem conversionSet_usual (raw : RawSet) (s : State) (w : TrimmedSet) (f : FilteredSet) (u : AngleUpdate)
    (hawake : s.asleep = false) (hs : s.ListSettled) (hrange : s.TrackerInRange) (horder : s.order = .usual) :
    let d := settle (tripCheck (completeSet raw s))
    d.mfe.trimmed = some w → (filterSet w d).ffb.filtered = some f →
    (trackerUpdate f (filterSet w d)).atr.last = some u →
    let a := settle (governorDeed u (settle (takeReseat u (trackerUpdate f (filterSet w d)))))
    let path := (List.range (if u.reseat = true then 0 else arc u.thetaPrev u.thetaNew)).foldl
      (fun x i => settle (pathPoint a.view u ((u.thetaPrev + (i + 1)) % 23040) x)) (settle (rampStep a))
    exec (.conversionSet raw) s =
      .next (settle (watchStep u (settle (runStep u (settle (listEnd u path)))))).dropOrder := by
  intro d
  have hd : d = checked raw s := (checked_usual raw horder).symm
  clear_value d
  subst hd
  intro htrimmed hfiltered hlast
  rw [checked_mfe] at htrimmed
  obtain rfl : trimmedOf raw s = w := Option.some.inj htrimmed
  rw [filterSet_filtered] at hfiltered
  obtain rfl : filteredAt raw s = f := Option.some.inj hfiltered
  rw [trackerUpdate_atr] at hlast
  obtain rfl : updateAt raw s = u := Option.some.inj hlast
  have htracked : (tracked raw s).order = .usual := by
    have horders : (tracked raw s).orders = s.orders :=
      (tracked_changes raw s .orders (by decide)).trans ((checked_changes raw s .orders (by decide)).trans
        (completeSet_orders raw s))
    rw [State.order, horders]
    exact horder
  have hexec : exec (.conversionSet raw) s = .next (conversionSet raw s) :=
    congrArg Host.Outcome.next (Resetting.whileAwake_of_awake hawake)
  rw [hexec, conversionSet_tracked,
    takeUpdate_usual _ htracked (tracked_noneHeld raw hs) (reach_updateAt raw hrange) rfl]
  rfl

/-! The statement. -/

/-- What one conversion set does, block by block. -/
theorem conversionSet_measures (raw : RawSet) (s : State) (hawake : s.asleep = false) : ∃ t,
    exec (.conversionSet raw) s = .next t
      ∧ t.mfe.count = s.mfe.count + 1 ∧ t.mfe.raw = some (rawTab raw)
      ∧ t.mfe.trimmed = some ⟨s.mfe.count + 1, Tab.ofFn fun i => trimValue (s.mfe.trims.get i) ((rawTab raw).get i)⟩
      ∧ (∀ i, t.mfe.clips.get i =
          if ((rawTab raw).get i).toInt = -32768 ∨ ((rawTab raw).get i).toInt = 32767
          then min 65535 (s.mfe.clips.get i + 1) else s.mfe.clips.get i)
      ∧ (t.ntu.sources.get Source.adcClip.num =
          if ∃ i, ((rawTab raw).get i).toInt = -32768 ∨ ((rawTab raw).get i).toInt = 32767
          then { s.ntu.sources.get Source.adcClip.num with
            latched := true, count := min 255 ((s.ntu.sources.get Source.adcClip.num).count + 1)
            last := some (s.mfe.count + 1) }
          else s.ntu.sources.get Source.adcClip.num)
      ∧ (∀ w, t.mfe.trimmed = some w → t.ffb = (filterSet w s).ffb)
      ∧ (∃ f freeze, t.ffb.filtered = some f
        ∧ (freeze = s.dgv.freeze
          ∨ (freeze = false ∧ s.order.tripFirst = true ∧ Running3 s ∧ t.rct.state = .halt))
        ∧ t.atr = { (trackerUpdate f { s with dgv := { s.dgv with freeze := freeze } }).atr with
            reseatRequest := t.atr.reseatRequest })
      ∧ t.rct.supervision = min 1200000 (s.rct.supervision + 1)
      ∧ (s.ListSettled → ¬ Running3 s → t.crg = s.crg ∧ t.fls = s.fls ∧ t.dgv = s.dgv ∧ t.rtb = s.rtb
        ∧ t.rct = { s.rct with supervision := t.rct.supervision } ∧ t.atr.reseatRequest = false
        ∧ t.ssq.pointer = s.ssq.pointer)
      ∧ settingsOf t = settingsOf s ∧ t.sst = s.sst ∧ t.lnk = s.lnk ∧ t.pins = s.pins ∧ t.rct.tripIn = s.rct.tripIn
      ∧ t.freeCount = s.freeCount ∧ t.pending = s.pending ∧ t.orders = s.orders.tail := by
  have hmfe := conversionSet_mfe raw s
  have hall := conversionSet_changes raw s
  have hspares := spares_conversionSet raw s
  have hchecked := spares_checked raw s
  refine ⟨conversionSet raw s, congrArg Host.Outcome.next (Resetting.whileAwake_of_awake hawake), by rw [hmfe]; rfl,
    by rw [hmfe]; rfl, by rw [hmfe]; rfl, fun i => by rw [hmfe]; exact clips_after raw s i, conversionSet_adcClip raw s,
    ?bank, ⟨filteredAt raw s, (checked raw s).dgv.freeze, ?filtered, ?freeze, ?tracker⟩, ?supervision,
    conversionSet_idle raw, conversionSet_settings raw s, hall .sst (by decide), hall .lnk (by decide),
    hall .pins (by decide), ?line, hall .freeCount (by decide), hall .pending (by decide), ?orders⟩
  case bank =>
    intro w hw
    rw [hmfe] at hw
    obtain rfl : trimmedOf raw s = w := Option.some.inj hw
    rw [conversionSet_ffb]
    exact filterSet_ffb_congr _ (checked_ffb raw s)
  case filtered =>
    rw [conversionSet_ffb]
    exact filterSet_filtered _ _
  case freeze =>
    obtain ⟨hfreeze, hunchecked⟩ := freezeKept_checked raw s
    obtain hsame | ⟨hoff, hactive, hhalt⟩ := hfreeze
    · exact .inl hsame
    · cases hfirst : s.order.tripFirst with
      | false => exact .inl (hunchecked hfirst)
      | true =>
        have hstopped : (checked raw s).active = false := by rw [active_eq, hhalt]; rfl
        refine .inr ⟨hoff, rfl, (Requests.active_iff s).mp hactive, ?_⟩
        rw [conversionSet_rct_idle raw hstopped]
        exact hhalt
  case tracker =>
    rw [← tracked_atr]
    exact hspares.tracker
  case supervision =>
    rw [hspares.supervision, Halting.countSupervision_eq, State.withRct_rct, tracked_rct, hchecked.supervision,
      completeSet_rct]
  case line =>
    rw [hspares.tripIn, Halting.countSupervision_eq, State.withRct_rct, tracked_rct, hchecked.tripIn, completeSet_rct]
  case orders =>
    have horders : (takeUpdate (updateAt raw s) (tracked raw s)).orders = s.orders :=
      (takeUpdate_orders _ _).trans ((tracked_changes raw s .orders (by decide)).trans
        ((checked_changes raw s .orders (by decide)).trans (completeSet_orders raw s)))
    rw [conversionSet_tracked, State.dropOrder, State.withOrders_orders, horders]

/-- Settles O6: the trimmed value by its formula, each block by what the set leaves of it, and the usual order by its agenda. -/
theorem conversionSetMeasures : Obligations.ConversionSetMeasures :=
  ⟨⟨trimValue_toInt, trimValue_default, trimValue_gain_zero⟩,
    fun raw s => ⟨conversionSet_measures raw s, fun h => congrArg Host.Outcome.next (Resetting.whileAwake_of_asleep h)⟩,
    conversionSet_usual⟩

end Sys2Proof.UsualOrder
end
